-- ==== Sys2Proof/Word.lean ====
section
/-! DEFINITION. The words of the KR-4096: bytes, host addresses' width, and the modulus of the tally arithmetic. -/

namespace Sys2Proof

/-- A byte of payload, of a format, or of host memory. -/
abbrev Byte := BitVec 8

/-- M, the modulus of the tally arithmetic, 2^31 − 1 (00, "The modulus"; R67). -/
abbrev M : Nat := 2147483647

end Sys2Proof
end

