-- ==== Sys2Proof/Config.lean ====
section
/-! DEFINITION. The sizes the spec fixes for the part, and the one value it leaves open. -/

namespace Sys2Proof.Config

/-- Transfer context records, numbered from 0 (R1). -/
abbrev contextCount : Nat := 4096
/-- Buckets of the lookup map (R8). -/
abbrev bucketCount : Nat := 2048
/-- Entries a bucket can hold (R8). -/
abbrev bucketEntries : Nat := 4
/-- Staging blocks (R79). -/
abbrev blockCount : Nat := 4096
/-- Bytes of a staging block (R79). -/
abbrev blockBytes : Nat := 2048
/-- Staged-segment records (R79). -/
abbrev recordCount : Nat := 4096
/-- Extents a context can hold (R48). -/
abbrev extentLimit : Nat := 24
/-- The highest end offset of a transfer, 2^40 (R26, R48). -/
abbrev maxOffset : Nat := 2 ^ 40
/-- Longest DATA payload (R26). -/
abbrev maxSegment : Nat := 16384
/-- Write jobs that may be WRITING at once (R117). -/
abbrev maxInFlight : Nat := 16
/-- Apertures (R126). -/
abbrev apertureCount : Nat := 8
/-- Alignment of aperture bases and limits, and the reach of the limit (R126). -/
abbrev aperturePage : Nat := 4096
/-- Groups (R149). -/
abbrev groupCount : Nat := 256
/-- Members a group can hold (R150). -/
abbrev groupLimit : Nat := 16
/-- Requests the verify queue can hold (R161). -/
abbrev verifyLimit : Nat := 8
/-- Longest verify read (R164). -/
abbrev verifyReadBytes : Nat := 4096
/-- Entries of the on-chip notice queue (R174). -/
abbrev noticeLimit : Nat := 64
/-- Bytes of a query snapshot (R16). -/
abbrev snapshotBytes : Nat := 512
/-- Constrained mode comes on below this free-block count (R89). -/
abbrev constrainedOn : Nat := 512
/-- Constrained mode goes off at this free-block count (R89). -/
abbrev constrainedOff : Nat := 1024
/-- The highest value of the unmatched count (R45). -/
abbrev unmatchedMax : Nat := 2 ^ 32 - 1

/-- FREE VALUE (log 16). What the part writes at a byte of a 32-byte notice entry that section 11.5 does not name
for the notice's kind; the argument is the byte's position in the entry. No body: nothing is known of it. -/
opaque unnamedNoticeByte : Nat → Byte

end Sys2Proof.Config
end

