-- ==== Sys2Proof/Machine/Table.lean ====
section
/-! DEFINITION. Numbered collections as plain data: a list of (number, value) pairs in rising order. A numbered array
of records (contexts, buckets, groups, apertures, pointers) is held sparsely, an unlisted number holding a default. -/

namespace Sys2Proof.Machine

/-- Numbered values, in rising order of number. -/
abbrev Table (α : Type) := List (Nat × α)

/-- The value listed under a number. -/
def Table.lookup {α : Type} (t : Table α) (i : Nat) : Option α :=
  (t.find? fun e => e.1 == i).map Prod.snd

/-- List a value under a number, in its place in the order, replacing what stood there. -/
def Table.insert {α : Type} (i : Nat) (v : α) : Table α → Table α
  | [] => [(i, v)]
  | e :: t =>
    if i < e.1 then (i, v) :: e :: t
    else if i = e.1 then (i, v) :: t
    else e :: Table.insert i v t

/-- Take a number off the list. -/
def Table.erase {α : Type} (t : Table α) (i : Nat) : Table α :=
  t.filter fun e => e.1 != i

/-- The value a number holds, `d` where it is not listed. -/
def Table.get {α : Type} (d : α) (t : Table α) (i : Nat) : α :=
  (Table.lookup t i).getD d

/-- Give a number a value: the default is not listed. -/
def Table.set {α : Type} [DecidableEq α] (d : α) (t : Table α) (i : Nat) (v : α) : Table α :=
  if v = d then Table.erase t i else Table.insert i v t

/-- The listed numbers. -/
def Table.keys {α : Type} (t : Table α) : List Nat := t.map Prod.fst

/-- Numbers strictly rising. -/
abbrev Table.sorted {α : Type} (t : Table α) : Prop := t.Pairwise fun a b => a.1 < b.1

/-- The canonical form: numbers strictly rising, no entry equal to the default, so that equal contents are equal
lists. -/
abbrev Table.wf {α : Type} [DecidableEq α] (d : α) (t : Table α) : Prop :=
  Table.sorted t ∧ ∀ e ∈ t, e.2 ≠ d

/-- The `want` lowest numbers from `n` up that are not used, `fuel` numbers being looked at. -/
def lowestFree (used : Nat → Bool) : (fuel n want : Nat) → List Nat
  | 0, _, _ => []
  | _ + 1, _, 0 => []
  | fuel + 1, n, want + 1 =>
    if used n then lowestFree used fuel (n + 1) (want + 1)
    else n :: lowestFree used fuel (n + 1) want

end Sys2Proof.Machine
end

