-- ==== Sys2Proof/Machine/Bytes.lean ====
section
/-! DEFINITION. Byte order, and the bytes of the staging blocks. -/

namespace Sys2Proof.Machine

open Sys2Proof (Byte)

/-- The number that bytes read little-endian spell (R64, section 11.5): the first byte is the least significant. -/
def leNat : List Byte → Nat
  | [] => 0
  | b :: bs => b.toNat + 256 * leNat bs

/-- The `n` bytes of a number, little-endian (section 11.5). -/
def leBytes : (n v : Nat) → List Byte
  | 0, _ => []
  | n + 1, v => BitVec.ofNat 8 v :: leBytes n (v / 256)

/-- The little-endian field of `n` bytes at a byte offset of an entry; bytes past the end read as 0. -/
def field (entry : List Byte) (at_ n : Nat) : Nat :=
  leNat ((entry.drop at_).take n)

/-- The bit of an entry: bit `bit` of the byte at an offset. -/
def flagAt (entry : List Byte) (at_ bit : Nat) : Bool :=
  (field entry at_ 1).testBit bit

/-- What an unlisted staging byte reads as. DESIGN CHOICE (log 8): 0. -/
abbrev blankByte : Byte := 0

/-- The byte at an address of staging memory. -/
def readByte (m : List Host.Cell) (a : Nat) : Byte :=
  Table.get blankByte m a

/-- Bytes laid out from an address up. -/
def cellsFrom : Nat → List Byte → List Host.Cell
  | _, [] => []
  | a, b :: bs => (a, b) :: cellsFrom (a + 1) bs

/-- Store bytes from an address up, keeping the canonical form. -/
def writeRun (m : List Host.Cell) (a : Nat) (bytes : List Byte) : List Host.Cell :=
  (m.filter fun c => decide (c.1 < a)) ++
    ((cellsFrom a bytes).filter fun c => c.2 != blankByte) ++
      (m.filter fun c => decide (a + bytes.length ≤ c.1))

/-- The canonical form of staging memory: addresses strictly rising, no entry equal to what an unlisted byte reads as. -/
abbrev memoryWf (m : List Host.Cell) : Prop := Table.wf blankByte m

/-- Store a payload into its blocks, in block-list order, 2048 bytes a block (R80). -/
def storePayload : List Nat → List Byte → List Host.Cell → List Host.Cell
  | [], _, m => m
  | b :: bs, payload, m =>
    storePayload bs (payload.drop Config.blockBytes)
      (writeRun m (Config.blockBytes * b) (payload.take Config.blockBytes))

/-- The staging address of payload byte `i` of a record with these blocks (R80): byte i mod 2048 of the block at
position i / 2048 of the list. -/
def payloadAddress (blocks : List Nat) (i : Nat) : Nat :=
  Config.blockBytes * blocks.getD (i / Config.blockBytes) 0 + i % Config.blockBytes

/-- The payload bytes from position `i`, `n` of them, read from a record's blocks (R80, R116). -/
def readPayload (m : List Host.Cell) (blocks : List Nat) (i n : Nat) : List Byte :=
  (List.range n).map fun k => readByte m (payloadAddress blocks (i + k))

end Sys2Proof.Machine
end

