-- ==== Sys2Proof/Syntax.lean ====
section
/-! DEFINITION. The commands of the KR-4096: one constructor of `Instr` for each row of spec/opcode_table.json, with
the operands the row's rule gives it. Field widths are those of the formats of section 11.5. -/

namespace Sys2Proof

/-- What the PCIe side reports for a write (R121), and for a read of which only success or failure matters. -/
inductive Report where
  | ok
  | fault
  deriving DecidableEq, Repr

/-- What the PCIe side returns for a verify read (R165): the bytes read, in address order, or FAULT. -/
inductive ReadReturn where
  | ok (data : List Byte)
  | fault
  deriving DecidableEq, Repr

/-- What comes back to the part of a write or read that it issued. `issued` is the number of full resets taken when it was
issued: by it the part tells what it still awaits from what it does not take (R94, R131, R169, R181). DESIGN CHOICE
(log 22): the spec says that the part tells them apart, and not by what. -/
structure Reply (α : Type) where
  issued : Nat
  value : α
  deriving DecidableEq, Repr

/-- The same reply with another reading of what came back. -/
def Reply.map {α β : Type} (f : α → β) (r : Reply α) : Reply β := ⟨r.issued, f r.value⟩

/-- A DATA segment as presented on a channel (R25, R26, section 11.5): descriptor fields and payload. `link` is the
number of the channel; descriptor byte 1 is not read. -/
structure DataSegment where
  link : BitVec 2
  handle : BitVec 16
  peer : BitVec 8
  tag : BitVec 32
  signal : Bool
  offset : BitVec 64
  length : BitVec 16
  tallyA : BitVec 31
  tallyB : BitVec 31
  payload : List Byte
  deriving DecidableEq, Repr

/-- A MANIFEST segment as presented (R27). A well-formed one has an empty payload. -/
structure ManifestSegment where
  link : BitVec 2
  handle : BitVec 16
  peer : BitVec 8
  tag : BitVec 32
  signal : Bool
  total : BitVec 48
  expectedA : BitVec 31
  expectedB : BitVec 31
  payload : List Byte
  deriving DecidableEq, Repr

/-- An ABANDON segment as presented (R27). Intake does not act on its signal. -/
structure AbandonSegment where
  link : BitVec 2
  handle : BitVec 16
  peer : BitVec 8
  tag : BitVec 32
  signal : Bool
  payload : List Byte
  deriving DecidableEq, Repr

/-- A segment whose descriptor kind byte names none of the three kinds (R30): only the channel, the handle and the
kind byte reach anything. -/
structure UnknownSegment where
  link : BitVec 2
  handle : BitVec 16
  kind : BitVec 8
  deriving DecidableEq, Repr

/-- A segment of any kind, as it stands at a channel until its disposition is returned (R25). -/
inductive Segment where
  | data (seg : DataSegment)
  | manifest (seg : ManifestSegment)
  | abandon (seg : AbandonSegment)
  | unknownKind (seg : UnknownSegment)
  deriving DecidableEq, Repr

/-- The number of the channel a segment is presented on (R25). -/
def Segment.link : Segment → BitVec 2
  | .data seg => seg.link
  | .manifest seg => seg.link
  | .abandon seg => seg.link
  | .unknownKind seg => seg.link

/-- Whether the shared intake is free when a segment is presented, or handling another one, which the segment then waits
for at its channel (R25). DESIGN CHOICE (log 1): the sender of the command says which. -/
inductive Arrival where
  | idle
  | busy
  deriving DecidableEq, Repr

/-- The operand of a segment command: the segment, and whether it meets a free intake. -/
structure Presented (α : Type) where
  segment : α
  arrival : Arrival
  deriving DecidableEq, Repr

/-- A subset of the five maskable notice kinds (R2, R12; bits 0 to 4 of the notice mask byte). -/
structure NoticeMask where
  halfFilled : Bool
  stalled : Bool
  resumed : Bool
  senderSignal : Bool
  restarted : Bool
  deriving DecidableEq, Repr

/-- A subset of the signal actions (R137; bits 0 to 2 of the action set byte). -/
structure ActionSet where
  notify : Bool
  hold : Bool
  restart : Bool
  deriving DecidableEq, Repr

/-- The fields of an OPEN entry (R12). `tag` is the transfer's, `hostTag` the command's. -/
structure OpenCommand where
  hostTag : BitVec 16
  peer : BitVec 8
  tag : BitVec 32
  priority : BitVec 2
  mask : NoticeMask
  exclusive : Bool
  hostHold : Bool
  stallSelect : BitVec 3
  abandonMultiplier : BitVec 4
  damageLimit : BitVec 8
  quota : BitVec 16
  windowSelect : BitVec 3
  base0 : BitVec 64
  base1 : BitVec 64
  deriving DecidableEq, Repr

/-- The fields of a QUERY entry (R15): selector 0 is by index, 1 by key. -/
structure QueryCommand where
  hostTag : BitVec 16
  selector : BitVec 8
  index : BitVec 16
  peer : BitVec 8
  tag : BitVec 32
  address : BitVec 64
  deriving DecidableEq, Repr

/-- The fields of an ADJUST entry (R148): a setting is `some` value when its change flag is set. -/
structure AdjustCommand where
  hostTag : BitVec 16
  index : BitVec 16
  priority : Option (BitVec 2)
  mask : Option NoticeMask
  hostHold : Option Bool
  exclusive : Option Bool
  stallSelect : Option (BitVec 3)
  abandonMultiplier : Option (BitVec 4)
  damageLimit : Option (BitVec 8)
  quota : Option (BitVec 16)
  deriving DecidableEq, Repr

/-- The fields of a REFILL entry (R109). -/
structure RefillCommand where
  hostTag : BitVec 16
  index : BitVec 16
  area : BitVec 8
  base : BitVec 64
  deriving DecidableEq, Repr

/-- The fields of a REVERIFY entry (R162). -/
structure ReverifyCommand where
  hostTag : BitVec 16
  index : BitVec 16
  area : BitVec 8
  deriving DecidableEq, Repr

/-- The fields of an entry that names only a context: RESTART (R145), CLOSE (R18), GROUP_LEAVE (R153). -/
structure IndexCommand where
  hostTag : BitVec 16
  index : BitVec 16
  deriving DecidableEq, Repr

/-- The fields of a GROUP_JOIN entry (R151). -/
structure JoinCommand where
  hostTag : BitVec 16
  index : BitVec 16
  group : BitVec 16
  holdOnFailure : Bool
  deriving DecidableEq, Repr

/-- The fields of a SET_APERTURE entry (R127). -/
structure ApertureCommand where
  hostTag : BitVec 16
  aperture : BitVec 8
  enabled : Bool
  write : Bool
  read : Bool
  base : BitVec 64
  limit : BitVec 64
  deriving DecidableEq, Repr

/-- The fields of a CONFIGURE entry (R173). -/
structure ConfigureCommand where
  hostTag : BitVec 16
  actions : ActionSet
  unmatchedEnable : Bool
  deriving DecidableEq, Repr

/-- An entry whose kind code names no command (R171). -/
structure UnknownCommand where
  hostTag : BitVec 16
  code : BitVec 8
  deriving DecidableEq, Repr

/-- What causes a full reset (R181): power-on, PCIe function reset, or the reset input, which holds it. -/
inductive ResetCause where
  | powerOn
  | functionReset
  | resetInput
  deriving DecidableEq, Repr

/-- A host write to a ring base or size register (R170, R177; section 11.5). -/
inductive RingRegisterWrite where
  | commandBase (value : BitVec 64)
  | commandSize (value : BitVec 32)
  | noticeBase (value : BitVec 64)
  | noticeSize (value : BitVec 32)
  deriving DecidableEq, Repr

/-- When a write of the notice ring consumer is taken (R178): alone, or at the same moment as the report of a notice write,
which advances the producer. DESIGN CHOICE (log 25): the command says which. -/
inductive ConsumerMoment where
  | alone
  | withReport (report : Reply Report)
  deriving DecidableEq, Repr

/-- A host write of the notice ring consumer (R177): the value, and when it is taken. -/
structure ConsumerWrite where
  value : BitVec 32
  moment : ConsumerMoment
  deriving DecidableEq, Repr

/-- The commands of the part, in the order of spec/opcode_table.json. The twelve host commands (`openTransfer` to
`badCommand`) are command fetch reads returning OK with that entry (R171); the four segments are presentations on a channel
(R25). -/
inductive Instr where
  | data (seg : Presented DataSegment)
  | manifest (seg : Presented ManifestSegment)
  | abandon (seg : Presented AbandonSegment)
  | openTransfer (cmd : Reply OpenCommand)
  | query (cmd : Reply QueryCommand)
  | snapshotWriteIssue
  | snapshotWriteReport (report : Reply Report)
  | adjust (cmd : Reply AdjustCommand)
  | refill (cmd : Reply RefillCommand)
  | restart (cmd : Reply IndexCommand)
  | reverify (cmd : Reply ReverifyCommand)
  | close (cmd : Reply IndexCommand)
  | groupJoin (cmd : Reply JoinCommand)
  | groupLeave (cmd : Reply IndexCommand)
  | setAperture (cmd : Reply ApertureCommand)
  | configure (cmd : Reply ConfigureCommand)
  | badCommand (cmd : Reply UnknownCommand)
  | commandFetch
  | commandFetchFault (report : Reply Report)
  | writeJobGrant
  | pieceWriteIssue
  | pieceWriteReport (record : BitVec 12) (piece : BitVec 5) (report : Reply Report)
  | stallExpiry (index : BitVec 12)
  | abandonExpiry (index : BitVec 12)
  | verifyReadReturn (ret : Reply ReadReturn)
  | noticeWrite
  | noticeWriteReport (report : Reply Report)
  | rollup
  | quiesceRise
  | quiesceFall
  | quiesceRequest (value : Bool)
  | resetAcknowledge
  | softReset
  | drainClear
  | fullReset (cause : ResetCause)
  | statusClear (value : BitVec 32)
  | unmatchedCountRead
  | commandRingTailWrite (value : BitVec 32)
  | noticeRingConsumerWrite (write : ConsumerWrite)
  | registerWrite (reg : RingRegisterWrite)
  | unknownKindSegment (seg : Presented UnknownSegment)
  | resetInputRelease
  deriving DecidableEq, Repr

/-- The command that presents a segment. -/
def Segment.presented (seg : Segment) (arrival : Arrival) : Instr :=
  match seg with
  | .data g => .data ⟨g, arrival⟩
  | .manifest g => .manifest ⟨g, arrival⟩
  | .abandon g => .abandon ⟨g, arrival⟩
  | .unknownKind g => .unknownKindSegment ⟨g, arrival⟩

end Sys2Proof
end

