-- ==== Sys2Proof/WellFormed.lean ====
section
/-! DEFINITION. Which commands are well formed: the checks that the widths of the operands do not make already. A
segment the spec calls ill formed (R26, R27) is a well-formed command: intake answers it MALFORMED. -/

namespace Sys2Proof

/-- A kind byte that names none of DATA, MANIFEST and ABANDON (R30, section 11.5). -/
def kindUnknown (kind : BitVec 8) : Bool :=
  !(kind == 1 || kind == 2 || kind == 3)

/-- A command code that names no command (R171, section 11.5). -/
def codeUnknown (code : BitVec 8) : Bool :=
  code.toNat == 0 || decide (11 < code.toNat)

/-- A piece number that a record can hold: 0 to 25 (R80). -/
def pieceInRange (piece : BitVec 5) : Bool :=
  decide (piece.toNat < 26)

/-- The bytes of one verify read: 1 to 4096 (R164). -/
def readLengthInRange (data : List Byte) : Bool :=
  decide (0 < data.length) && decide (data.length ≤ Config.verifyReadBytes)

/-- The commands that can reach the part. -/
def Instr.wellFormed (c : Instr) : Bool :=
  match c with
  | .unknownKindSegment seg => kindUnknown seg.segment.kind
  | .badCommand cmd => codeUnknown cmd.value.code
  | .pieceWriteReport _ piece _ => pieceInRange piece
  | .verifyReadReturn ⟨_, .ok bytes⟩ => readLengthInRange bytes
  | .data _ | .manifest _ | .abandon _ | .openTransfer _ | .query _ | .snapshotWriteIssue | .snapshotWriteReport _
  | .adjust _ | .refill _ | .restart _ | .reverify _ | .close _ | .groupJoin _ | .groupLeave _ | .setAperture _
  | .configure _ | .commandFetch | .commandFetchFault _ | .writeJobGrant | .pieceWriteIssue | .stallExpiry _
  | .abandonExpiry _ | .verifyReadReturn ⟨_, .fault⟩ | .noticeWrite | .noticeWriteReport _ | .rollup | .quiesceRise
  | .quiesceFall | .quiesceRequest _ | .resetAcknowledge | .softReset | .drainClear | .fullReset _ | .statusClear _
  | .unmatchedCountRead | .commandRingTailWrite _ | .noticeRingConsumerWrite _ | .registerWrite _
  | .resetInputRelease => true

end Sys2Proof
end

