-- ==== Sys2Proof/Decode.lean ====
section
/-! DEFINITION. Reading commands: the word form of the table (which gives no row any bits), the 64-byte command entry and
the 28-byte segment descriptor of section 11.5; and writing command entries. -/

namespace Sys2Proof

open Sys2Proof.Machine (field flagAt leBytes)

/-- The command a word of the table spells: none, since spec/opcode_table.json gives no row any bits. -/
def decodeTableWord (_nbits _w : Nat) : Option Instr := none

/-- A field as bits of a width. -/
def bits (w : Nat) (entry : List Byte) (at_ n : Nat) : BitVec w := BitVec.ofNat w (field entry at_ n)

/-! ## Command entries -/

/-- The host's tag at bytes 2 and 3. -/
def entryTag (e : List Byte) : BitVec 16 := bits 16 e 2 2
/-- The context index at bytes 4 and 5. -/
def entryIndex (e : List Byte) : BitVec 16 := bits 16 e 4 2

/-- The notice mask in a byte: bits 0 to 4; other bits are not read. -/
def decodeMask (e : List Byte) (at_ : Nat) : NoticeMask :=
  { halfFilled := flagAt e at_ 0, stalled := flagAt e at_ 1, resumed := flagAt e at_ 2, senderSignal := flagAt e at_ 3,
    restarted := flagAt e at_ 4 }

/-- The fields of an OPEN entry. -/
def decodeOpen (e : List Byte) : OpenCommand :=
  { hostTag := entryTag e, peer := bits 8 e 8 1, tag := bits 32 e 12 4, priority := bits 2 e 16 1, mask := decodeMask e 17,
    exclusive := flagAt e 18 0, hostHold := flagAt e 18 1, stallSelect := bits 3 e 19 1,
    abandonMultiplier := bits 4 e 20 1, damageLimit := bits 8 e 21 1, quota := bits 16 e 22 2,
    windowSelect := bits 3 e 24 1, base0 := bits 64 e 32 8, base1 := bits 64 e 40 8 }

/-- A value named by a change flag of byte 28 (R148). -/
def changed {α : Type} (e : List Byte) (bit : Nat) (v : α) : Option α := if flagAt e 28 bit then some v else none

/-- The fields of an ADJUST entry: values at the OPEN positions, change flags at byte 28. -/
def decodeAdjust (e : List Byte) : AdjustCommand :=
  { hostTag := entryTag e, index := entryIndex e, priority := changed e 0 (bits 2 e 16 1),
    mask := changed e 1 (decodeMask e 17), hostHold := changed e 2 (flagAt e 18 1), exclusive := changed e 3 (flagAt e 18 0),
    stallSelect := changed e 4 (bits 3 e 19 1), abandonMultiplier := changed e 5 (bits 4 e 20 1),
    damageLimit := changed e 6 (bits 8 e 21 1), quota := changed e 7 (bits 16 e 22 2) }

/-- The fields of an entry that names only a context. -/
def decodeIndex (e : List Byte) : IndexCommand := { hostTag := entryTag e, index := entryIndex e }

/-- The command a 64-byte command entry holds (section 11.5), as its fetch read returned it: the kind code at byte 0
selects it. -/
def decodeEntry (entry : Reply (List Byte)) : Instr :=
  match field entry.value 0 1 with
  | 1 => .openTransfer (entry.map decodeOpen)
  | 2 =>
    .query (entry.map fun e =>
      { hostTag := entryTag e, selector := bits 8 e 1 1, index := entryIndex e, peer := bits 8 e 8 1, tag := bits 32 e 12 4,
        address := bits 64 e 48 8 })
  | 3 => .adjust (entry.map decodeAdjust)
  | 4 =>
    .refill (entry.map fun e =>
      { hostTag := entryTag e, index := entryIndex e, area := bits 8 e 6 1, base := bits 64 e 32 8 })
  | 5 => .restart (entry.map decodeIndex)
  | 6 => .reverify (entry.map fun e => { hostTag := entryTag e, index := entryIndex e, area := bits 8 e 6 1 })
  | 7 => .close (entry.map decodeIndex)
  | 8 =>
    .groupJoin (entry.map fun e =>
      { hostTag := entryTag e, index := entryIndex e, group := bits 16 e 8 2, holdOnFailure := flagAt e 10 0 })
  | 9 => .groupLeave (entry.map decodeIndex)
  | 10 =>
    .setAperture (entry.map fun e =>
      { hostTag := entryTag e, aperture := bits 8 e 6 1, enabled := flagAt e 10 0, write := flagAt e 10 1,
        read := flagAt e 10 2, base := bits 64 e 32 8, limit := bits 64 e 40 8 })
  | 11 =>
    .configure (entry.map fun e =>
      { hostTag := entryTag e, actions := { notify := flagAt e 10 0, hold := flagAt e 10 1, restart := flagAt e 10 2 },
        unmatchedEnable := flagAt e 11 0 })
  | _ => .badCommand (entry.map fun e => { hostTag := entryTag e, code := bits 8 e 0 1 })

/-! ## Segment descriptors -/

/-- The segment a 28-byte descriptor and its payload present on a channel (section 11.5): the kind byte selects it; byte 1
and bit 31 of the tally fields are not read. -/
def decodeSegment (link : BitVec 2) (d payload : List Byte) : Segment :=
  match field d 0 1 with
  | 1 =>
    .data
      { link := link, handle := bits 16 d 2 2, peer := bits 8 d 4 1, tag := bits 32 d 8 4, signal := flagAt d 5 0,
        offset := bits 64 d 12 8, length := bits 16 d 6 2, tallyA := bits 31 d 20 4, tallyB := bits 31 d 24 4,
        payload := payload }
  | 2 =>
    .manifest
      { link := link, handle := bits 16 d 2 2, peer := bits 8 d 4 1, tag := bits 32 d 8 4, signal := flagAt d 5 0,
        total := bits 48 d 12 6, expectedA := bits 31 d 20 4, expectedB := bits 31 d 24 4, payload := payload }
  | 3 =>
    .abandon
      { link := link, handle := bits 16 d 2 2, peer := bits 8 d 4 1, tag := bits 32 d 8 4, signal := flagAt d 5 0,
        payload := payload }
  | _ => .unknownKind { link := link, handle := bits 16 d 2 2, kind := bits 8 d 0 1 }

/-! ## Writing command entries -/

/-- `n` bytes that the part does not read, written 0 by this encoder. -/
def pad (n : Nat) : List Byte := List.replicate n 0

/-- Flags as a byte, the first bit 0. -/
def flagByte : List Bool → Nat
  | [] => 0
  | b :: bs => b.toNat + 2 * flagByte bs

/-- Bytes 0 to 5 of an entry: kind code, selector, host tag, context index. -/
def entryHead (code selector : Nat) (hostTag index : BitVec 16) : List Byte :=
  leBytes 1 code ++ leBytes 1 selector ++ leBytes 2 hostTag.toNat ++ leBytes 2 index.toNat

/-- A notice mask as its byte. -/
def encodeMask (m : NoticeMask) : Nat := flagByte [m.halfFilled, m.stalled, m.resumed, m.senderSignal, m.restarted]

/-- Bytes 16 to 23 of an OPEN or ADJUST entry: the settings both carry. -/
def settingsBytes (priority mask flags stall multiplier limit quota : Nat) : List Byte :=
  leBytes 1 priority ++ leBytes 1 mask ++ leBytes 1 flags ++ leBytes 1 stall ++ leBytes 1 multiplier ++ leBytes 1 limit ++
    leBytes 2 quota

/-- The mask no setting names. -/
def blankMask : NoticeMask :=
  { halfFilled := false, stalled := false, resumed := false, senderSignal := false, restarted := false }

/-- The 64-byte entry of a host command, as its fetch read returns it; none for the commands that are no entries. -/
def encodeEntry : Instr → Option (Reply (List Byte))
  | .openTransfer m =>
    some (m.map fun m => entryHead 1 0 m.hostTag 0 ++ pad 2 ++ leBytes 1 m.peer.toNat ++ pad 3 ++ leBytes 4 m.tag.toNat ++
      settingsBytes m.priority.toNat (encodeMask m.mask) (flagByte [m.exclusive, m.hostHold]) m.stallSelect.toNat
        m.abandonMultiplier.toNat m.damageLimit.toNat m.quota.toNat ++
      leBytes 1 m.windowSelect.toNat ++ pad 7 ++ leBytes 8 m.base0.toNat ++ leBytes 8 m.base1.toNat ++ pad 16)
  | .query m =>
    some (m.map fun m => entryHead 2 m.selector.toNat m.hostTag m.index ++ pad 2 ++ leBytes 1 m.peer.toNat ++ pad 3 ++
      leBytes 4 m.tag.toNat ++ pad 32 ++ leBytes 8 m.address.toNat ++ pad 8)
  | .adjust m =>
    some (m.map fun m => entryHead 3 0 m.hostTag m.index ++ pad 10 ++
      settingsBytes (m.priority.getD 0).toNat (encodeMask (m.mask.getD blankMask))
        (flagByte [m.exclusive.getD false, m.hostHold.getD false]) (m.stallSelect.getD 0).toNat
        (m.abandonMultiplier.getD 0).toNat (m.damageLimit.getD 0).toNat (m.quota.getD 0).toNat ++
      pad 4 ++
      leBytes 1 (flagByte
        [m.priority.isSome, m.mask.isSome, m.hostHold.isSome, m.exclusive.isSome, m.stallSelect.isSome,
          m.abandonMultiplier.isSome, m.damageLimit.isSome, m.quota.isSome]) ++
      pad 35)
  | .refill m =>
    some (m.map fun m => entryHead 4 0 m.hostTag m.index ++ leBytes 1 m.area.toNat ++ pad 25 ++ leBytes 8 m.base.toNat ++ pad 24)
  | .restart m => some (m.map fun m => entryHead 5 0 m.hostTag m.index ++ pad 58)
  | .reverify m => some (m.map fun m => entryHead 6 0 m.hostTag m.index ++ leBytes 1 m.area.toNat ++ pad 57)
  | .close m => some (m.map fun m => entryHead 7 0 m.hostTag m.index ++ pad 58)
  | .groupJoin m =>
    some (m.map fun m => entryHead 8 0 m.hostTag m.index ++ pad 2 ++ leBytes 2 m.group.toNat ++ leBytes 1 (flagByte [m.holdOnFailure]) ++
      pad 53)
  | .groupLeave m => some (m.map fun m => entryHead 9 0 m.hostTag m.index ++ pad 58)
  | .setAperture m =>
    some (m.map fun m => entryHead 10 0 m.hostTag 0 ++ leBytes 1 m.aperture.toNat ++ pad 3 ++
      leBytes 1 (flagByte [m.enabled, m.write, m.read]) ++ pad 21 ++ leBytes 8 m.base.toNat ++ leBytes 8 m.limit.toNat ++
      pad 16)
  | .configure m =>
    some (m.map fun m => entryHead 11 0 m.hostTag 0 ++ pad 4 ++
      leBytes 1 (flagByte [m.actions.notify, m.actions.hold, m.actions.restart]) ++
      leBytes 1 (flagByte [m.unmatchedEnable]) ++ pad 52)
  | .badCommand m => some (m.map fun m => entryHead m.code.toNat 0 m.hostTag 0 ++ pad 58)
  | .data _ | .manifest _ | .abandon _ | .snapshotWriteIssue | .snapshotWriteReport _ | .commandFetch
  | .commandFetchFault _ | .writeJobGrant | .pieceWriteIssue | .pieceWriteReport _ _ _ | .stallExpiry _
  | .abandonExpiry _ | .verifyReadReturn _ | .noticeWrite | .noticeWriteReport _ | .rollup | .quiesceRise | .quiesceFall
  | .quiesceRequest _ | .resetAcknowledge | .softReset | .drainClear | .fullReset _ | .statusClear _
  | .unmatchedCountRead | .commandRingTailWrite _ | .noticeRingConsumerWrite _ | .registerWrite _
  | .unknownKindSegment _ | .resetInputRelease => none

end Sys2Proof
end

