-- ==== Sys2Proof/Machine/State.lean ====
section
/-! DEFINITION. The state of the KR-4096 as plain data, grouped by the block that owns it (00, "Functional overview"),
and the state after reset. -/

namespace Sys2Proof.Machine

open Sys2Proof (Byte NoticeMask ActionSet)

/-- A pair of tally sums, each 0 to M − 1 (R67). -/
structure Tally where
  a : Nat
  b : Nat
  deriving DecidableEq, Repr

/-- The key of a transfer (00, "Terms"). -/
structure Key where
  peer : BitVec 8
  tag : BitVec 32
  deriving DecidableEq, Repr

/-- A half-open byte range [start, stop) (R48, R51). -/
structure Extent where
  start : Nat
  stop : Nat
  deriving DecidableEq, Repr

/-- A piece: a new range within one window, with its contribution (R53). -/
structure Piece where
  start : Nat
  stop : Nat
  window : Nat
  contribution : Tally
  deriving DecidableEq, Repr

/-- The states of a context (R2, section 1.2). -/
inductive CtxState where
  | free
  | active
  | stalled
  | done
  | failed
  | closing
  deriving DecidableEq, Repr

/-- The total of a transfer and its source; the expected digest is present exactly with source MANIFEST (R3). -/
inductive Total where
  | absent
  | implied (bytes : Nat)
  | manifest (bytes : Nat) (expected : Tally)
  deriving DecidableEq, Repr

/-- The causes of failure (R144). -/
inductive FailCause where
  | digestMismatch
  | manifestConflict
  | deliveryFault
  | abandoned
  | timedOut
  | damageLimit
  deriving DecidableEq, Repr

/-- The stall timer: its phase, and outside STOPPED the milliseconds remaining; none in ABANDON with abandon
multiplier 0, which runs toward no expiry (R138). -/
inductive StallTimer where
  | stopped
  | stall (remaining : Nat)
  | abandon (remaining : Option Nat)
  deriving DecidableEq, Repr

/-- The states of a landing area (R99). -/
inductive AreaState where
  | idle
  | ready
  | filled
  deriving DecidableEq, Repr

/-- The verify status of an area (R98, R161). -/
inductive VerifyStatus where
  | none
  | queued
  | active
  | matched
  | mismatch
  | readFault
  | aborted
  deriving DecidableEq, Repr

/-- A landing-area record (R98). -/
structure Area where
  base : Nat
  state : AreaState
  window : Option Nat
  delivered : Nat
  digest : Tally
  halfSent : Bool
  faulted : Bool
  verify : VerifyStatus
  deriving DecidableEq, Repr

/-- The eleven notice kinds that may be owed (R175), in order of kind code. -/
inductive OwedKind where
  | windowFilled
  | halfFilled
  | transferDone
  | transferFailed
  | stalled
  | resumed
  | senderSignal
  | restarted
  | groupDone
  | groupFailed
  | verifyResult
  deriving DecidableEq, Repr

/-- A transfer context record (R2, R3, R4). `staged` lists staged-segment record numbers in arrival order. -/
structure Ctx where
  state : CtxState
  key : Option Key
  priority : BitVec 2
  mask : NoticeMask
  exclusive : Bool
  hostHold : Bool
  stallSelect : BitVec 3
  abandonMultiplier : BitVec 4
  damageLimit : BitVec 8
  quota : Nat
  windowSelect : BitVec 3
  total : Total
  digest : Tally
  retired : Nat
  extents : List Extent
  area0 : Area
  area1 : Area
  staged : List Nat
  blocksHeld : Nat
  current : Nat
  older : Nat
  generation : BitVec 8
  fence : Bool
  signal : Bool
  damaged : Nat
  timer : StallTimer
  cause : Option FailCause
  group : Option Nat
  owed : List OwedKind
  deriving DecidableEq, Repr

/-- An entry of the lookup map (R8). -/
structure MapEntry where
  key : Key
  index : Nat
  deriving DecidableEq, Repr

/-- The states of a staged-segment record in use (R80). -/
inductive RecordState where
  | parked
  | eligible
  | writing
  deriving DecidableEq, Repr

/-- A staged-segment record in use (R80). -/
structure StagedRecord where
  owner : Nat
  offset : Nat
  length : Nat
  blocks : List Nat
  pieces : List Piece
  state : RecordState
  deriving DecidableEq, Repr

/-- Where a piece write of a job stands: waiting in the issue order; issued, with the bytes written, and not yet
reported; reported; or removed from the issue order after a fault of its job (R121, R122). -/
inductive WriteProgress where
  | waiting
  | issued (data : List Byte)
  | ok
  | fault
  | removed
  deriving DecidableEq, Repr

/-- A piece write, fixed at grant (R116): `source` is the position of its first byte in the record's payload. -/
structure PieceWrite where
  window : Nat
  source : Nat
  address : Nat
  length : Nat
  progress : WriteProgress
  deriving DecidableEq, Repr

/-- A write job (R116), held under the number of the WRITING record it delivers. -/
structure Job where
  owner : Nat
  older : Bool
  writes : List PieceWrite
  deriving DecidableEq, Repr

/-- A piece write in the issue order (R121): the job's record number and the piece's place in its list. -/
structure PieceRef where
  record : Nat
  piece : Nat
  deriving DecidableEq, Repr

/-- An aperture (R126). -/
structure Aperture where
  base : Nat
  limit : Nat
  enabled : Bool
  write : Bool
  read : Bool
  deriving DecidableEq, Repr

/-- A group record (R149, R150): members in join order, the first of them the leader. -/
structure Group where
  members : List Nat
  holdOnFailure : Bool
  done : Nat
  failed : Nat
  deriving DecidableEq, Repr

/-- A verify request (R161). `byClose` says that a CLOSE aborted it, which decides how its notice is queued (R167). -/
structure VerifyRequest where
  context : Nat
  area : Nat
  window : Nat
  base : Nat
  length : Nat
  bytesRead : Nat
  sums : Tally
  readOutstanding : Bool
  aborted : Bool
  byClose : Bool
  deriving DecidableEq, Repr

/-- What a QUERY snapshot shows of the context's group (R150). -/
structure GroupView where
  number : Nat
  leader : Nat
  members : Nat
  done : Nat
  failed : Nat
  holdOnFailure : Bool
  place : Nat
  deriving DecidableEq, Repr

/-- What a QUERY captures (R16): the record, with the number of its staged records in place of the records. -/
structure Snapshot where
  index : Nat
  record : Ctx
  stagedCount : Nat
  bucket : Nat
  position : Nat
  effPriority : BitVec 2
  effHold : Bool
  group : Option GroupView
  deriving DecidableEq, Repr

/-- A snapshot write handed to the port (R16, R121). -/
structure SnapshotWrite where
  address : Nat
  snapshot : Snapshot
  deriving DecidableEq, Repr

/-- The status a CMD_RESULT carries (section 11.5), in order of code. -/
inductive CmdStatus where
  | ok
  | badCommand
  | badParam
  | badAddress
  | noContext
  | keyExists
  | keyCollision
  | tableFull
  | wrongState
  | areaBusy
  | areaFaulted
  | groupFull
  | verifyBusy
  | apertureInUse
  deriving DecidableEq, Repr

/-- The outcome of a re-verification, with what VERIFY_RESULT carries for it (R165). -/
inductive VerifyOutcome where
  | matched (sums : Tally)
  | mismatch (sums : Tally)
  | readFault (offset : Nat)
  | aborted
  deriving DecidableEq, Repr

/-- A notice (section 11.5). `context` is the index it is charged to; GROUP_DONE and GROUP_FAILED are charged to the
leader (R159). -/
inductive Notice where
  | cmdResult (context : Nat) (hostTag : BitVec 16) (code : BitVec 8) (status : CmdStatus)
  | windowFilled (context area window bytes : Nat) (digest : Tally)
  | halfFilled (context area window delivered : Nat)
  | transferDone (context total : Nat) (digest : Tally)
  | transferFailed (context : Nat) (cause : FailCause)
  | stalled (context : Nat)
  | resumed (context : Nat)
  | senderSignal (context : Nat)
  | restarted (context : Nat) (generation : BitVec 8)
  | groupDone (leader group members : Nat)
  | groupFailed (leader group : Nat) (cause : FailCause) (member : Nat)
  | verifyResult (context area window : Nat) (outcome : VerifyOutcome)
  | unmatched (link : BitVec 2) (peer : BitVec 8) (tag : BitVec 32)
  | rollup (context : Nat) (owed : List OwedKind)
  deriving DecidableEq, Repr

/-- A notice ring write (R177). -/
structure NoticeWrite where
  address : Nat
  notice : Notice
  deriving DecidableEq, Repr

/-- The port's place for a write of which it handles one at a time: nothing, a write handed to the port and waiting
in the issue order, or a write issued and not yet reported (R121). -/
inductive PortSlot (α : Type) where
  | idle
  | waiting (write : α)
  | issued (write : α)
  deriving DecidableEq, Repr

/-- The kinds of disposition (R28), in order of code (section 11.5). -/
inductive DispositionCode where
  | accepted
  | duplicate
  | notReady
  | unknown
  | malformed
  | damaged
  | closed
  | beyondEnd
  | extentLimit
  | quota
  | stagingFull
  | conflict
  deriving DecidableEq, Repr

/-- A disposition as returned on a link's lane (R25, R28). -/
structure Disposition where
  handle : BitVec 16
  kind : BitVec 8
  code : DispositionCode
  edge : Nat
  deriving DecidableEq, Repr

/-- A command in execution beyond the step that took it: a QUERY waiting for its snapshot write (R16). -/
structure QueryExec where
  hostTag : BitVec 16
  index : Nat
  deriving DecidableEq, Repr

/-- Segment intake. `channels` holds the segment presented on each channel and not yet answered (R25); `lanes` holds the
last disposition returned on each link's lane, `unmatchedRead` the value the last read of the unmatched count returned
(both log 9). -/
structure Intake where
  lanes : Table (Option Disposition)
  channels : Table (Option Sys2Proof.Segment)
  lastLink : BitVec 2
  unmatched : Nat
  unmatchedRead : Nat
  unmatchedEnable : Bool
  deriving DecidableEq, Repr

/-- Staging memory. `payload` holds the bytes of the blocks: byte b of block k at 2048·k + b, 0 where unlisted
(log 8). -/
structure Staging where
  pool : Table StagedRecord
  payload : List Host.Cell
  freeBlocks : Nat
  freeRecords : Nat
  constrained : Bool
  deriving DecidableEq, Repr

/-- The delivery block and the host write port. Jobs stand under the numbers of their records. -/
structure Delivery where
  inFlight : Nat
  pointers : Table Nat
  apertures : Table Aperture
  jobs : Table Job
  issueOrder : List PieceRef
  snapshotPort : PortSlot SnapshotWrite
  noticePort : PortSlot NoticeWrite
  quiesceLine : Bool
  quiesceRequest : Bool
  deriving DecidableEq, Repr

/-- The command unit. `fetch` is the address of the fetch read outstanding. -/
structure CommandUnit where
  base : Nat
  size : Nat
  tail : Nat
  head : Nat
  fetch : Option Nat
  fetchFault : Bool
  executing : Option QueryExec
  deriving DecidableEq, Repr

/-- The notice unit. `messages` counts the interrupt messages sent (log 9). -/
structure NoticeUnit where
  base : Nat
  size : Nat
  producer : Nat
  consumer : Nat
  queue : List Notice
  reserved : Bool
  overflow : Bool
  writeFault : Bool
  armed : Bool
  messages : Nat
  deriving DecidableEq, Repr

/-- The reset indications of the status word, and whether a full reset is in progress: the reset input asserted, or
released less than 10 µs ago (R179, R181, section 11.6). `count` is the number of full resets taken, by which the part tells
replies apart (log 22). -/
structure ResetUnit where
  pending : Bool
  draining : Bool
  configInvalid : Bool
  held : Bool
  count : Nat
  deriving DecidableEq, Repr

/-- The state of the part, and the queue of waiting commands. -/
structure State where
  intake : Intake
  map : Table (List MapEntry)
  contexts : Table Ctx
  staging : Staging
  delivery : Delivery
  actions : ActionSet
  groups : Table Group
  verify : List VerifyRequest
  command : CommandUnit
  notice : NoticeUnit
  resets : ResetUnit
  pending : List Instr
  deriving DecidableEq, Repr

/-- The reasons a step can fault: none. The spec names no event that stops the part; every fault it names is an
effect on state (INVENTORY.md, "Faults"). -/
inductive Fault where
  deriving DecidableEq, Repr

/-- The reasons a step can be refused. -/
inductive Refusal where
  /-- Raised by `exec` for a command that has no meaning yet, never by a meaning. Safe: nothing is claimed of it. -/
  | notModelled (mnemonic : String)
  deriving DecidableEq, Repr

/-- (0, 0). -/
def Tally.zero : Tally := ⟨0, 0⟩

/-- A landing-area record in FREE (R3, R98). -/
def Area.free : Area :=
  { base := 0, state := .idle, window := none, delivered := 0, digest := Tally.zero, halfSent := false,
    faulted := false, verify := .none }

/-- No notice kind. -/
def noNotices : NoticeMask :=
  { halfFilled := false, stalled := false, resumed := false, senderSignal := false, restarted := false }

/-- A context record in FREE: the "In FREE" columns of R2, R3 and R4. -/
def Ctx.free : Ctx :=
  { state := .free, key := none, priority := 0, mask := noNotices, exclusive := false, hostHold := false,
    stallSelect := 0, abandonMultiplier := 0, damageLimit := 0, quota := 1, windowSelect := 0, total := .absent,
    digest := Tally.zero, retired := 0, extents := [], area0 := Area.free, area1 := Area.free, staged := [],
    blocksHeld := 0, current := 0, older := 0, generation := 0, fence := false, signal := false, damaged := 0,
    timer := .stopped, cause := none, group := none, owed := [] }

/-- An unused group record (R149). -/
def Group.unused : Group := { members := [], holdOnFailure := false, done := 0, failed := 0 }

/-- An aperture after full reset (R126). -/
def Aperture.off : Aperture := { base := 0, limit := 0, enabled := false, write := false, read := false }

/-- A round-robin pointer after reset (R119). -/
def pointerReset : Nat := 4095

/-- Staging with every block and record free (R94, R95), its bytes as they stand: no reset clears them. -/
def Staging.empty (payload : List Host.Cell) : Staging :=
  { pool := [], payload := payload, freeBlocks := Config.blockCount, freeRecords := Config.recordCount,
    constrained := false }

/-- The part after a full reset that has ended, with the QUIESCE line low and no command waiting (R181 and the reset
values of every chapter; log 7, 8 and 9 for what the spec gives no reset value). -/
def State.reset : State :=
  { intake := { lanes := [], channels := [], lastLink := 3, unmatched := 0, unmatchedRead := 0, unmatchedEnable := false }
    map := []
    contexts := []
    staging := Staging.empty []
    delivery :=
      { inFlight := 0, pointers := [], apertures := [], jobs := [], issueOrder := [], snapshotPort := .idle,
        noticePort := .idle, quiesceLine := false, quiesceRequest := false }
    actions := { notify := false, hold := false, restart := false }
    groups := []
    verify := []
    command := { base := 0, size := 0, tail := 0, head := 0, fetch := none, fetchFault := false, executing := none }
    notice :=
      { base := 0, size := 0, producer := 0, consumer := 0, queue := [], reserved := false, overflow := false,
        writeFault := false, armed := false, messages := 0 }
    resets := { pending := true, draining := false, configInvalid := false, held := false, count := 0 }
    pending := [] }

end Sys2Proof.Machine
end

