-- ==== Sys2Proof/Machine/Tally.lean ====
section
/-! DEFINITION. The tally arithmetic (chapter 4). -/

namespace Sys2Proof.Machine

open Sys2Proof (Byte M)

/-- The words of a run of bytes, read little-endian; a last partial word is completed with zero bytes (R64, R65). -/
def wordsOf : List Byte → List Nat
  | b0 :: b1 :: b2 :: b3 :: rest => leNat [b0, b1, b2, b3] :: wordsOf rest
  | [] => []
  | short => [leNat short]

/-- The reduced value of a word (R66). -/
def reduced (w : Nat) : Nat := w % M

/-- The weight of the word at an absolute index (R70, R76). -/
def weight (k : Nat) : Nat := (k + 1) % M

/-- The sum of two tallies (R67). -/
def Tally.add (x y : Tally) : Tally := ⟨(x.a + y.a) % M, (x.b + y.b) % M⟩

/-- The contribution of a word at an absolute index (R70). -/
def wordContribution (k w : Nat) : Tally := ⟨reduced w, weight k * reduced w % M⟩

/-- The tally of words at consecutive indices from `k` (R71). -/
def tallyWords : Nat → List Nat → Tally
  | _, [] => Tally.zero
  | k, w :: ws => (wordContribution k w).add (tallyWords (k + 1) ws)

/-- The tally of a run of bytes whose first word has absolute index `k` (R71, R74, R75). -/
def tallyFrom (k : Nat) (bytes : List Byte) : Tally := tallyWords k (wordsOf bytes)

/-- The tally of a segment's payload, its words weighted from 1 (R68). -/
def segmentTally (payload : List Byte) : Tally := tallyFrom 0 payload

/-- The sum of the contributions of pieces (R72, R73). -/
def contributionSum : List Piece → Tally
  | [] => Tally.zero
  | p :: ps => p.contribution.add (contributionSum ps)

end Sys2Proof.Machine
end

