-- ==== Sys2Proof/Machine/Extents.lean ====
section
/-! DEFINITION. The extent tracker (chapter 3): trimming, pieces, the extent count, insertion, retirement. -/

namespace Sys2Proof.Machine

open Sys2Proof (Byte)

/-- The parts of [lo, hi) that no extent of the list covers, ascending; the list is in start order (R51). -/
def gaps : (lo hi : Nat) → List Extent → List Extent
  | lo, hi, [] => if lo < hi then [⟨lo, hi⟩] else []
  | lo, hi, e :: es =>
    (if lo < min e.start hi then [⟨lo, min e.start hi⟩] else []) ++ gaps (max lo e.stop) hi es

/-- The new ranges of a segment: its bytes at or above the retired edge and in no extent (R51). -/
def newRanges (retired : Nat) (extents : List Extent) (start stop : Nat) : List Extent :=
  gaps (max start retired) stop extents

/-- Split a range at a window boundary it crosses (R53). A segment crosses at most one. -/
def splitAtWindow (w : Nat) (r : Extent) : List Extent :=
  let boundary := (r.start / w + 1) * w
  if boundary < r.stop then [⟨r.start, boundary⟩, ⟨boundary, r.stop⟩] else [r]

/-- The piece of a segment that covers a range: its window number, and its contribution computed from the payload
bytes the range covers at their absolute word indices (R53, R71). -/
def pieceOf (w offset : Nat) (payload : List Byte) (r : Extent) : Piece :=
  { start := r.start, stop := r.stop, window := r.start / w,
    contribution := tallyFrom (r.start / 4) ((payload.drop (r.start - offset)).take (r.stop - r.start)) }

/-- The piece list of a segment (R53). -/
def piecesOf (w offset : Nat) (payload : List Byte) (ranges : List Extent) : List Piece :=
  (ranges.flatMap (splitAtWindow w)).map (pieceOf w offset payload)

/-- How many of the extents a range touches, on either side (R55). -/
def touchings (extents : List Extent) (r : Extent) : Nat :=
  (extents.filter fun e => e.start == r.stop || e.stop == r.start).length

/-- The number of extents after insertion, as the limit stage computes it (R55). -/
def countAfter (extents ranges : List Extent) : Nat :=
  extents.length + ranges.length - (ranges.map (touchings extents)).sum

/-- Insert a range into the extent list, merging it with every extent it touches or overlaps (R57). -/
def insertExtent : Extent → List Extent → List Extent
  | r, [] => [r]
  | r, e :: es =>
    if r.stop < e.start then r :: e :: es
    else if e.stop < r.start then e :: insertExtent r es
    else insertExtent ⟨min r.start e.start, max r.stop e.stop⟩ es

/-- Insert every new range (R57). -/
def insertExtents (ranges extents : List Extent) : List Extent :=
  ranges.foldl (fun es r => insertExtent r es) extents

/-- The contiguous edge (R28, R50). -/
def contiguousEdge (retired : Nat) (extents : List Extent) : Nat :=
  match extents with
  | e :: _ => if e.start = retired then e.stop else retired
  | [] => retired

/-- The high mark: the highest offset known to have been received (R50). -/
def highMark (retired : Nat) (extents : List Extent) : Nat :=
  match extents.getLast? with
  | some e => e.stop
  | none => retired

/-- Whether the first extent begins at `start` and reaches `stop` (R50, R104). -/
def firstCovers (extents : List Extent) (start stop : Nat) : Bool :=
  match extents with
  | e :: _ => e.start == start && decide (stop ≤ e.stop)
  | [] => false

/-- The extent list after the retirement of a window that ends at `stop`: the first extent is removed or cut (R59). -/
def cutFirst (extents : List Extent) (stop : Nat) : List Extent :=
  match extents with
  | e :: es => if e.stop ≤ stop then es else ⟨stop, e.stop⟩ :: es
  | [] => []

end Sys2Proof.Machine
end

