-- ==== Sys2Proof/Machine/Operands.lean ====
section
/-! DEFINITION. What the operands of commands and segments stand for: keys and buckets, window sizes, clamped values,
intervals, address ranges. -/

namespace Sys2Proof.Machine

/-- The bucket of a key (R9). -/
def bucketOf (k : Key) : Nat :=
  (k.tag ^^^ (k.tag >>> 11) ^^^ (k.tag >>> 22) ^^^ (k.peer.zeroExtend 32 <<< 3)).toNat % Config.bucketCount

/-- The window size of a select, in bytes (R96): 64 KiB and then times 4 for each step. -/
def windowSize (select : BitVec 3) : Nat := 65536 * 4 ^ select.toNat

/-- A quota clamped into 1 to 4096 (R12, R86). -/
def clampQuota (q : BitVec 16) : Nat := max 1 (min q.toNat 4096)

/-- A ring size clamped into its range and rounded down to a power of two (R170, R177). -/
def ringSize (lo hi : Nat) (value : BitVec 32) : Nat := 2 ^ Nat.log2 (max lo (min value.toNat hi))

/-- The stall interval of a select, in milliseconds (R138). -/
def stallInterval (select : BitVec 3) : Nat :=
  [50, 100, 250, 500, 1000, 4000, 16000, 64000].getD select.toNat 0

/-- The phase STALL with the full interval (R138, R139). -/
def fullStall (select : BitVec 3) : StallTimer := .stall (stallInterval select)

/-- The phase ABANDON with the full abandon period, or no expiry with multiplier 0 (R138, R140). -/
def fullAbandon (select : BitVec 3) (multiplier : BitVec 4) : StallTimer :=
  .abandon (if multiplier = 0 then none else some (stallInterval select * multiplier.toNat))

/-- The blocks a payload needs (R38, R80). -/
def blocksFor (length : Nat) : Nat := (length + (Config.blockBytes - 1)) / Config.blockBytes

/-- A range [a, a + n) lies wholly within an aperture (R126). -/
def Aperture.covers (p : Aperture) (a n : Nat) : Bool :=
  decide (p.base ≤ a) && decide (a + n ≤ p.limit + Config.aperturePage)

/-- A range overlaps the range an aperture covers (R127). -/
def Aperture.overlaps (p : Aperture) (a n : Nat) : Bool :=
  decide (a < p.limit + Config.aperturePage) && decide (p.base < a + n)

/-- Two host ranges [a, a + n) and [b, b + m) share no address (R180). -/
def rangesApart (a n b m : Nat) : Bool := decide (a + n ≤ b) || decide (b + m ≤ a)

/-- Whether an action set or mask holds a kind is a field of it; the context notice kinds in order of code (R175). -/
def owedKinds : List OwedKind :=
  [.windowFilled, .halfFilled, .transferDone, .transferFailed, .stalled, .resumed, .senderSignal, .restarted,
    .groupDone, .groupFailed, .verifyResult]

/-- Add a kind to an owed set, which is kept in order of code (R175). -/
def owe (k : OwedKind) (owed : List OwedKind) : List OwedKind :=
  owedKinds.filter fun x => x == k || owed.contains x

/-- The first of some indices, ascending, after a pointer, wrapping: the pointer's own is reached last (R25, R119). -/
def firstAfter (pointer : Nat) (indices : List Nat) : Option Nat :=
  (indices.find? fun i => decide (pointer < i)).orElse fun _ => indices.head?

/-- Halve and round up: the half-notice threshold of a window length (R103). -/
def halfUp (n : Nat) : Nat := (n + 1) / 2

end Sys2Proof.Machine
end

