-- ==== Sys2Proof/Machine/Ops.lean ====
section
/-! DEFINITION. The named operations over the state that every block uses: reading and writing numbered records,
effective settings, and the queueing of notices. -/

namespace Sys2Proof.Machine

open Sys2Proof (Byte NoticeMask M)

/-! ## Numbered records -/

/-- Context record `i`; a record not listed is FREE (R1). -/
def State.ctx (s : State) (i : Nat) : Ctx := Table.get Ctx.free s.contexts i

/-- Write context record `i`. -/
def State.setCtx (s : State) (i : Nat) (c : Ctx) : State :=
  { s with contexts := Table.set Ctx.free s.contexts i c }

/-- Change context record `i`. -/
def State.modCtx (s : State) (i : Nat) (f : Ctx → Ctx) : State := s.setCtx i (f (s.ctx i))

/-- Group record `g` (R149). -/
def State.group (s : State) (g : Nat) : Group := Table.get Group.unused s.groups g

/-- Write group record `g`. -/
def State.setGroup (s : State) (g : Nat) (r : Group) : State :=
  { s with groups := Table.set Group.unused s.groups g r }

/-- Bucket `b` of the lookup map (R8). -/
def State.bucket (s : State) (b : Nat) : List MapEntry := Table.get [] s.map b

/-- Write bucket `b`. -/
def State.setBucket (s : State) (b : Nat) (es : List MapEntry) : State :=
  { s with map := Table.set [] s.map b es }

/-- Aperture `n` (R126). -/
def State.aperture (s : State) (n : Nat) : Aperture := Table.get Aperture.off s.delivery.apertures n

/-- The round-robin pointer of a priority level (R119). -/
def State.pointer (s : State) (level : BitVec 2) : Nat := Table.get pointerReset s.delivery.pointers level.toNat

/-- The last disposition returned on a link's lane. -/
def State.lane (s : State) (link : BitVec 2) : Option Disposition := Table.get none s.intake.lanes link.toNat

/-- The segment presented on channel `k` and not yet answered (R25). -/
def State.channel (s : State) (k : Nat) : Option Sys2Proof.Segment := Table.get none s.intake.channels k

/-- What stands at channel `k` becomes `seg` (R25). -/
def State.setChannel (s : State) (k : Nat) (seg : Option Sys2Proof.Segment) : State :=
  { s with intake := { s.intake with channels := Table.set none s.intake.channels k seg } }

/-- The staged-segment record `r`, if in use (R80). -/
def State.staged (s : State) (r : Nat) : Option StagedRecord := Table.lookup s.staging.pool r

/-- The write job of record `r`, if it is WRITING (R116). -/
def State.job (s : State) (r : Nat) : Option Job := Table.lookup s.delivery.jobs r

/-! ## The lookup map -/

/-- The context index a key finds (R10). -/
def State.lookup (s : State) (k : Key) : Option Nat :=
  ((s.bucket (bucketOf k)).find? fun e => e.key == k).map MapEntry.index

/-- Insert a key at the end of its bucket (R11). -/
def State.insertKey (s : State) (k : Key) (i : Nat) : State :=
  s.setBucket (bucketOf k) (s.bucket (bucketOf k) ++ [⟨k, i⟩])

/-- Remove a key from its bucket; the entries after it move up (R11). -/
def State.removeKey (s : State) (k : Key) : State :=
  s.setBucket (bucketOf k) ((s.bucket (bucketOf k)).filter fun e => e.key != k)

/-- The position of a key in its bucket (R11). -/
def State.positionOf (s : State) (k : Key) : Nat :=
  (s.bucket (bucketOf k)).findIdx fun e => e.key == k

/-! ## Contexts -/

/-- ACTIVE or STALLED. -/
def Ctx.receiving (c : Ctx) : Bool := c.state == .active || c.state == .stalled

/-- ACTIVE, STALLED, DONE or FAILED: the states in which a command resolves the index (R7). -/
def Ctx.isOpen (c : Ctx) : Bool :=
  c.state == .active || c.state == .stalled || c.state == .done || c.state == .failed

/-- The window size W of a context (R96). -/
def Ctx.w (c : Ctx) : Nat := windowSize c.windowSelect

/-- The recorded total, of either source (R3). -/
def Ctx.totalBytes (c : Ctx) : Option Nat :=
  match c.total with
  | .absent => none
  | .implied n => some n
  | .manifest n _ => some n

/-- The expected digest (R3). -/
def Ctx.expected (c : Ctx) : Option Tally :=
  match c.total with
  | .manifest _ d => some d
  | .absent | .implied _ => none

/-- The end bound: the recorded total, or 2^40 (R48). -/
def Ctx.endBound (c : Ctx) : Nat := c.totalBytes.getD Config.maxOffset

/-- The end of window `n`: (n + 1)W, or the total where one is recorded below that (R59). -/
def Ctx.windowEnd (c : Ctx) (n : Nat) : Nat := min ((n + 1) * c.w) (c.totalBytes.getD ((n + 1) * c.w))

/-- The recorded total lies strictly within window `n` (R97). -/
def Ctx.cutsWindow (c : Ctx) (n : Nat) : Bool :=
  match c.totalBytes with
  | some t => decide (n * c.w < t) && decide (t < (n + 1) * c.w)
  | none => false

/-- The length of window `n` (R97). -/
def Ctx.windowLength (c : Ctx) (n : Nat) : Nat :=
  if c.cutsWindow n then c.endBound - n * c.w else c.w

/-- The landing area of a window number's parity (R99); 0 and 1 are the areas' own indices. -/
def Ctx.area (c : Ctx) (n : Nat) : Area := if n % 2 = 0 then c.area0 else c.area1

/-- Write the landing area of a window number's parity. -/
def Ctx.setArea (c : Ctx) (n : Nat) (a : Area) : Ctx :=
  if n % 2 = 0 then { c with area0 := a } else { c with area1 := a }

/-- The contiguous edge of a context (R28). -/
def Ctx.edge (c : Ctx) : Nat := contiguousEdge c.retired c.extents

/-- The lowest-indexed FREE records, `want` of them or fewer (R14). -/
def State.freeContexts (s : State) (want : Nat) : List Nat :=
  lowestFree (fun i => (s.ctx i).state != .free) Config.contextCount 0 want

/-! ## Effective settings (R133, R155) -/

/-- The context whose priority, notice mask and host hold a context acts on: its group's leader, or itself. -/
def State.governor (s : State) (i : Nat) : Nat :=
  match (s.ctx i).group with
  | none => i
  | some g => (s.group g).members.head?.getD i

/-- The effective priority (R119, R155). -/
def State.effPriority (s : State) (i : Nat) : BitVec 2 := (s.ctx (s.governor i)).priority

/-- The effective notice mask (R2, R155). -/
def State.effMask (s : State) (i : Nat) : NoticeMask := (s.ctx (s.governor i)).mask

/-- The group failure hold of a context's group is active (R158). -/
def State.groupHold (s : State) (i : Nat) : Bool :=
  match (s.ctx i).group with
  | none => false
  | some g => (s.group g).holdOnFailure && decide (0 < (s.group g).failed)

/-- The effective hold (R133): the own or the leader's host hold, counted for every context; the group failure hold and
the sender signal, counted for contexts that are not exclusive. -/
def State.effHold (s : State) (i : Nat) : Bool :=
  (s.ctx (s.governor i)).hostHold ||
    (!(s.ctx i).exclusive && (s.groupHold i || ((s.ctx i).signal && s.actions.hold)))

/-! ## Admission -/

/-- The part takes commands: no full reset is in progress (R181). -/
def State.live (s : State) : Bool := !s.resets.held

/-- Admission is open: the status word shows neither RESET_PENDING nor draining (R29, R171). -/
def State.admitting (s : State) : Bool := !s.resets.pending && !s.resets.draining

/-- A segment channel shows ready: intake has returned the disposition of its previous segment, and no full reset is in
progress (R25). -/
def State.channelReady (s : State) (link : BitVec 2) : Bool := s.live && (s.channel link.toNat).isNone

/-- What a command does, unless a full reset is in progress: then the part takes nothing and stays as the reset left
it (R181; log 6). -/
def State.whenLive (s : State) (f : State → State) : State := if s.live then f s else s

/-- What comes back of a write or read is taken when it was issued since the last full reset, and otherwise not (R94, R131,
R169, R181; log 22). -/
def State.takeReply {α : Type} (s : State) (reply : Sys2Proof.Reply α) (take : α → State → State) : State :=
  s.whenLive fun s => if reply.issued = s.resets.count then take reply.value s else s

/-- The reply with a value to what the part has issued since the last full reset. -/
def State.reply {α : Type} (s : State) (value : α) : Sys2Proof.Reply α := ⟨s.resets.count, value⟩

/-! ## Apertures (R126) -/

/-- Some aperture with flags that pass covers the whole range. -/
def State.apertureAllows (s : State) (flags : Aperture → Bool) (a n : Nat) : Bool :=
  (List.range Config.apertureCount).any fun k =>
    (s.aperture k).enabled && flags (s.aperture k) && (s.aperture k).covers a n

/-- The range lies wholly within one aperture that is enabled and write-permitted. -/
def State.mayWrite (s : State) (a n : Nat) : Bool := s.apertureAllows Aperture.write a n

/-- The range lies wholly within one aperture that is enabled and read-permitted. -/
def State.mayRead (s : State) (a n : Nat) : Bool := s.apertureAllows Aperture.read a n

/-! ## Queueing notices (R174, R175) -/

/-- Entries of the notice queue that are occupied, the reserved one among them (R174). -/
def NoticeUnit.occupied (n : NoticeUnit) : Nat := n.queue.length + (if n.reserved then 1 else 0)

/-- The queue is full for a notice other than the CMD_RESULT the entry is reserved for (R174). -/
def NoticeUnit.full (n : NoticeUnit) : Bool := decide (Config.noticeLimit ≤ n.occupied)

/-- Put a notice at the end of the queue. -/
def State.push (s : State) (n : Notice) : State :=
  { s with notice := { s.notice with queue := s.notice.queue ++ [n] } }

/-- Fold a kind into a context's owed set, and show overflow (R175). -/
def State.fold (s : State) (i : Nat) (k : OwedKind) : State :=
  { s.modCtx i (fun c => { c with owed := owe k c.owed }) with notice := { s.notice with overflow := true } }

/-- Queue a notice charged to a context: folded when the queue is full or the context is already owed (R174, R175). -/
def State.notify (s : State) (i : Nat) (k : OwedKind) (n : Notice) : State :=
  if s.notice.full || !(s.ctx i).owed.isEmpty then s.fold i k else s.push n

/-- Queue a notice charged to a context if its effective mask holds the kind; otherwise it is neither queued nor folded
(R155, R175). -/
def State.notifyMasked (s : State) (i : Nat) (holds : NoticeMask → Bool) (k : OwedKind) (n : Notice) : State :=
  if holds (s.effMask i) then s.notify i k n else s

/-- Queue a notice that no owed set can stand for: dropped when the queue is full (R46, R167, R174). -/
def State.pushOrDrop (s : State) (n : Notice) : State := if s.notice.full then s else s.push n

/-- Queue a command's CMD_RESULT into the reserved entry (R172, R174). -/
def State.finish (s : State) (hostTag : BitVec 16) (code : BitVec 8) (status : CmdStatus) (index : Nat) : State :=
  let t := s.push (.cmdResult index hostTag code status)
  { t with notice := { t.notice with reserved := false } }

end Sys2Proof.Machine
end

