-- ==== Sys2Proof/Machine/StagingOps.lean ====
section
/-! DEFINITION. Staging memory (chapter 5): eligibility, allocation, release, constrained mode. -/

namespace Sys2Proof.Machine

open Sys2Proof (Byte)

/-- The eligibility condition of R83 for pieces of a context: every piece's area is READY and holds its window, and
the effective hold and the fence are off. -/
def State.eligible (s : State) (i : Nat) (pieces : List Piece) : Bool :=
  pieces.all (fun p =>
    ((s.ctx i).area p.window).state == .ready && ((s.ctx i).area p.window).window == some p.window) &&
    !s.effHold i && !(s.ctx i).fence

/-- The state a record takes when its eligibility is judged; a WRITING record is not touched (R83, R84). -/
def State.judged (s : State) (r : StagedRecord) : RecordState :=
  match r.state with
  | .writing => .writing
  | .parked | .eligible => if s.eligible r.owner r.pieces then .eligible else .parked

/-- Re-evaluate the eligibility of every record of the contexts picked (R84). -/
def State.rejudge (s : State) (pick : Nat → Bool) : State :=
  { s with staging := { s.staging with
      pool := s.staging.pool.map fun e => if pick e.2.owner then (e.1, { e.2 with state := s.judged e.2 }) else e } }

/-- Re-evaluate the eligibility of one context's records (R84). -/
def State.rejudgeCtx (s : State) (i : Nat) : State := s.rejudge (· == i)

/-- After an event that left `s`, re-evaluate the records of the contexts whose effective hold is not what it was in
`before` (R134). -/
def State.rejudgeHolds (s before : State) : State := s.rejudge fun i => before.effHold i != s.effHold i

/-- Constrained mode after an allocation or a release (R89). -/
def constrainedAfter (mode : Bool) (free : Nat) : Bool :=
  if mode then decide (free < Config.constrainedOff) else decide (free < Config.constrainedOn)

/-- The blocks of records, counted. -/
def blocksIn (pool : Table StagedRecord) : Nat := (pool.map fun e => e.2.blocks.length).sum

/-- A block number held by some record of the pool. -/
def blockUsed (pool : Table StagedRecord) (b : Nat) : Bool := pool.any fun e => e.2.blocks.contains b

/-- The lowest-numbered free blocks (R81). -/
def Staging.lowestBlocks (t : Staging) (n : Nat) : List Nat :=
  lowestFree (blockUsed t.pool) Config.blockCount 0 n

/-- The lowest-numbered free record (R81). -/
def Staging.lowestRecord (t : Staging) : Nat :=
  (lowestFree (fun r => (Table.lookup t.pool r).isSome) Config.recordCount 0 1).headD 0

/-- Allocate a record for a payload and store it (R81): the lowest free record and blocks, the record at the end of
the context's staged list, ELIGIBLE or PARKED by the state as it stands. -/
def State.stage (s : State) (i offset : Nat) (payload : List Byte) (pieces : List Piece) : State :=
  let n := blocksFor payload.length
  let r := s.staging.lowestRecord
  let blocks := s.staging.lowestBlocks n
  let record : StagedRecord :=
    { owner := i, offset := offset, length := payload.length, blocks := blocks, pieces := pieces,
      state := if s.eligible i pieces then .eligible else .parked }
  let t := s.modCtx i fun c => { c with staged := c.staged ++ [r], blocksHeld := c.blocksHeld + n }
  { t with staging :=
      { pool := Table.insert r record s.staging.pool
        payload := storePayload blocks payload s.staging.payload
        freeBlocks := s.staging.freeBlocks - n
        freeRecords := s.staging.freeRecords - 1
        constrained := constrainedAfter s.staging.constrained (s.staging.freeBlocks - n) } }

/-- Free the records of context `i` that `gone` picks, as one release (R91, R92): they leave the pool and the staged
list, their blocks return, and constrained mode is set once from the count after the whole release. -/
def State.release (s : State) (i : Nat) (gone : Nat × StagedRecord → Bool) : State :=
  let freed := s.staging.pool.filter fun e => e.2.owner == i && gone e
  let n := blocksIn freed
  let t := s.modCtx i fun c =>
    { c with
      staged := c.staged.filter fun r => !(freed.any fun e => e.1 == r)
      blocksHeld := c.blocksHeld - n }
  { t with staging := { s.staging with
      pool := s.staging.pool.filter fun e => !(e.2.owner == i && gone e)
      freeBlocks := s.staging.freeBlocks + n
      freeRecords := s.staging.freeRecords + freed.length
      constrained := constrainedAfter s.staging.constrained (s.staging.freeBlocks + n) } }

/-- Free every PARKED and ELIGIBLE record of a context (R92). -/
def State.releaseUnwritten (s : State) (i : Nat) : State := s.release i fun e => e.2.state != .writing

/-- Free the record of a completed write job (R91). -/
def State.releaseRecord (s : State) (i r : Nat) : State := s.release i fun e => e.1 == r

/-- A record in a staged list belongs to the current generation: it is not WRITING, or its job's older mark is off
(R82, R146). -/
def State.isCurrent (s : State) (r : Nat) : Bool :=
  match s.job r with
  | some j => !j.older
  | none => true

/-- A current-generation record of the context has a piece in window `n` (R104). -/
def State.pieceStaged (s : State) (i n : Nat) : Bool :=
  (s.ctx i).staged.any fun r =>
    s.isCurrent r && (match s.staged r with
      | some rec => rec.pieces.any fun p => p.window == n
      | none => false)

end Sys2Proof.Machine
end

