-- ==== Sys2Proof/Machine/GroupOps.lean ====
section
/-! DEFINITION. The group table (chapter 9): counting, GROUP_DONE and GROUP_FAILED, joining and leaving. -/

namespace Sys2Proof.Machine

/-- Every member is DONE: the group has a member and its done count equals its member count (R157). -/
def Group.complete (g : Group) : Bool := !g.members.isEmpty && g.done == g.members.length

/-- The GROUP_DONE test of R157 at an event before which the group was `before`: queued, charged to the leader as it
stands (R159), when the group is complete now and the counts did not equal before. -/
def State.groupDoneTest (s : State) (g : Nat) (before : Group) : State :=
  let now := s.group g
  let leader := now.members.headD 0
  if before.done != before.members.length && now.complete then
    s.notify leader .groupDone (.groupDone leader g now.members.length)
  else s

/-- The group table is told that member `i` entered DONE (R156, R157). -/
def State.memberDone (s : State) (i : Nat) : State :=
  match (s.ctx i).group with
  | none => s
  | some g =>
    let before := s.group g
    (s.setGroup g { before with done := before.done + 1 }).groupDoneTest g before

/-- The group table is told that member `i` entered FAILED (R156, R158): the count rises; from 0 it queues
GROUP_FAILED, charged to the leader, and may begin the failure hold. -/
def State.memberFailed (s : State) (i : Nat) (cause : FailCause) : State :=
  match (s.ctx i).group with
  | none => s
  | some g =>
    let before := s.group g
    let leader := before.members.headD 0
    let t := s.setGroup g { before with failed := before.failed + 1 }
    let u := if before.failed = 0 then t.notify leader .groupFailed (.groupFailed leader g cause i) else t
    u.rejudgeHolds s

/-- The group table is told that member `i` left FAILED by a restart (R156): the count falls, which may end the
failure hold (R158). -/
def State.memberRecovered (s : State) (i : Nat) : State :=
  match (s.ctx i).group with
  | none => s
  | some g =>
    let before := s.group g
    (s.setGroup g { before with failed := before.failed - 1 }).rejudgeHolds s

/-- A context joins a group, which comes into use if it was not (R152). -/
def State.joinGroup (s : State) (i g : Nat) (holdOnFailure : Bool) : State :=
  let before := s.group g
  let after : Group :=
    if before.members.isEmpty then { members := [i], holdOnFailure := holdOnFailure, done := 0, failed := 0 }
    else { before with members := before.members ++ [i] }
  ((s.setGroup g after).modCtx i fun c => { c with group := some g }).rejudgeHolds s

/-- What is left of a group when member `i`, in state `st`, leaves it (R153, steps 1, 2 and 4). -/
def Group.without (g : Group) (i : Nat) (st : CtxState) : Group :=
  let members := g.members.filter (· != i)
  if members.isEmpty then Group.unused
  else
    { g with
      members := members
      done := if st = .done then g.done - 1 else g.done
      failed := if st = .failed then g.failed - 1 else g.failed }

/-- A context leaves its group, if it is in one (R153): counts, leadership, GROUP_DONE and holds follow. -/
def State.leaveGroup (s : State) (i : Nat) : State :=
  match (s.ctx i).group with
  | none => s
  | some g =>
    let before := s.group g
    let t := (s.setGroup g (before.without i (s.ctx i).state)).modCtx i fun c => { c with group := none }
    (t.groupDoneTest g before).rejudgeHolds s

end Sys2Proof.Machine
end

