-- ==== Sys2Proof/Machine/VerifyOps.lean ====
section
/-! DEFINITION. The verify engine (chapter 10): read issue, outcomes, aborts. -/

namespace Sys2Proof.Machine

/-- Write the verify status of an area (R115). -/
def State.setVerify (s : State) (i p : Nat) (v : VerifyStatus) : State :=
  s.modCtx i fun c => c.setArea p { c.area p with verify := v }

/-- The status an outcome leaves in the area (R165). -/
def VerifyOutcome.status : VerifyOutcome → VerifyStatus
  | .matched _ => .matched
  | .mismatch _ => .mismatch
  | .readFault _ => .readFault
  | .aborted => .aborted

/-- Queue the VERIFY_RESULT of a request: that of a request aborted by CLOSE is never folded (R165, R167, R174). -/
def State.verifyNotice (s : State) (r : VerifyRequest) (o : VerifyOutcome) : State :=
  let n : Notice := .verifyResult r.context r.area r.window o
  if r.byClose then s.pushOrDrop n else s.notify r.context .verifyResult n

/-- Steps 1 and 2 of an outcome (R165): the area's status, which an aborted request no longer writes (R166), and the
notice. -/
def State.verifyOutcome (s : State) (r : VerifyRequest) (o : VerifyOutcome) : State :=
  (if r.aborted then s else s.setVerify r.context r.area o.status).verifyNotice r o

/-- The length of a request's next read: at most 4096 bytes, cut at L (R164). -/
def VerifyRequest.nextRead (r : VerifyRequest) : Nat := min Config.verifyReadBytes (r.length - r.bytesRead)

/-- The verify queue becomes `queue`, its oldest request active: its area shows ACTIVE and its next read is issued, or
fails the aperture check, ends the request READ_FAULT and brings up the next (R164, R165). -/
def startVerify : List VerifyRequest → State → State
  | [], s => { s with verify := [] }
  | r :: rest, s =>
    let t := s.setVerify r.context r.area .active
    if t.mayRead (r.base + r.bytesRead) r.nextRead then
      { t with verify := { r with readOutstanding := true } :: rest }
    else startVerify rest (t.verifyOutcome r (.readFault r.bytesRead))

/-- The active request has ended and `rest` remains: the oldest is started, but not during a soft-reset drain (R165,
R169). DESIGN CHOICE (log 26): in a drain the oldest of `rest`, which R169 does not start, keeps the status QUEUED in its
area. -/
def State.nextVerify (s : State) (rest : List VerifyRequest) : State :=
  if s.resets.draining then { s with verify := rest } else startVerify rest s

/-- A queued request aborted by a restart or a CLOSE (R166, R167). -/
def State.abortQueued (byClose : Bool) (s : State) (r : VerifyRequest) : State :=
  s.verifyOutcome { r with byClose := byClose } .aborted

/-- Abort every request for the areas of context `i` (R166; R167 for a CLOSE). Queued requests leave with their
notices. The active request is marked aborted and stays until its outstanding read returns; one that a restart had
marked before is only told of a CLOSE (log 14, log 15). -/
def State.abortVerify (s : State) (i : Nat) (byClose : Bool) : State :=
  match s.verify with
  | [] => s
  | act :: rest =>
    let kept := rest.filter fun r => r.context != i
    let t := (rest.filter fun r => r.context == i).foldl (State.abortQueued byClose) { s with verify := act :: kept }
    if act.context != i then t
    else if act.aborted then { t with verify := { act with byClose := act.byClose || byClose } :: kept }
    else
      let u := t.setVerify i act.area .aborted
      let gone := { act with aborted := true, byClose := byClose }
      if act.readOutstanding then { u with verify := gone :: kept }
      else (u.verifyOutcome gone .aborted).nextVerify kept

end Sys2Proof.Machine
end

