-- ==== Sys2Proof/Machine/ControlOps.lean ====
section
/-! DEFINITION. The control logic (chapter 8) and the areas' reset: failure, restart, signals, the stall timer, the
damage count. -/

namespace Sys2Proof.Machine

open Sys2Proof (NoticeMask)

/-- Entry into FAILED (R143); a cause reported in another state than ACTIVE or STALLED is not taken (R6, R144). -/
def State.fail (s : State) (i : Nat) (cause : FailCause) : State :=
  if (s.ctx i).receiving then
    let t := (s.modCtx i fun c => { c with cause := some cause }).releaseUnwritten i
    let u := t.modCtx i fun c => { c with state := .failed, timer := .stopped }
    (u.notify i .transferFailed (.transferFailed i cause)).memberFailed i cause
  else s

/-- A segment answered ACCEPTED or DUPLICATE in ACTIVE or STALLED: the timer restarts in STALL, the damaged count
becomes 0, and a STALLED context returns to ACTIVE with RESUMED (R139, R142). -/
def State.revive (s : State) (i : Nat) : State :=
  let c := s.ctx i
  let t := s.modCtx i fun c => { c with state := .active, timer := fullStall c.stallSelect, damaged := 0 }
  if c.state = .stalled then t.notifyMasked i NoticeMask.resumed .resumed (.resumed i) else t

/-- A segment answered DAMAGED in ACTIVE or STALLED (R33, R142). -/
def State.countDamaged (s : State) (i : Nat) : State :=
  let t := s.modCtx i fun c => { c with damaged := min 255 (c.damaged + 1) }
  let c := t.ctx i
  if c.damageLimit ≠ 0 ∧ c.damageLimit.toNat ≤ c.damaged then t.fail i .damageLimit else t

/-- An area as a restart leaves it, holding `window` READY or IDLE (R100). Its verify status becomes NONE, unless a
request of it was queued or active and the restart's abort has set its status. -/
def Area.restarted (a : Area) (window : Option Nat) (verifying : Bool) : Area :=
  { a with
    state := if window.isSome then .ready else .idle
    window := window
    delivered := 0
    digest := Tally.zero
    halfSent := false
    verify := if verifying then a.verify else .none }

/-- A verify request of the area is QUEUED or ACTIVE. -/
def Area.verifying (a : Area) : Bool := a.verify == .queued || a.verify == .active

/-- The window a restart gives area 1: none when a manifest-sourced total is kept and is at most W (R100). -/
def Ctx.restartWindow1 (c : Ctx) : Option Nat :=
  match c.total with
  | .manifest n _ => if n ≤ c.w then none else some 1
  | .absent | .implied _ => some 1

/-- A total as a restart leaves it: a manifest is kept, an implied total is cleared (R146, step 5). -/
def Total.kept : Total → Total
  | .manifest n d => .manifest n d
  | .absent | .implied _ => .absent

/-- The older mark of every job of a context set (R124). -/
def State.markOlder (s : State) (i : Nat) : State :=
  { s with delivery := { s.delivery with
      jobs := s.delivery.jobs.map fun e => if e.2.owner == i then (e.1, { e.2 with older := true }) else e } }

/-- The context's own fields at steps 2 to 6 of a restart (R146). -/
def Ctx.restarted (c : Ctx) : Ctx :=
  { c with
    older := c.older + c.current
    current := 0
    fence := decide (0 < c.older + c.current)
    generation := c.generation + 1
    retired := 0
    extents := []
    digest := Tally.zero
    total := c.total.kept
    cause := none
    damaged := 0 }

/-- A restart, by command or by sender signal, as one event (R146). -/
def State.restart (s : State) (i : Nat) : State :=
  let before := s.ctx i
  let t := (((s.releaseUnwritten i).markOlder i).modCtx i Ctx.restarted).abortVerify i false
  let u := t.modCtx i fun c =>
    { c with
      area0 := c.area0.restarted (some 0) before.area0.verifying
      area1 := c.area1.restarted c.restartWindow1 before.area1.verifying
      state := .active
      timer := fullStall c.stallSelect }
  let v := (u.rejudgeCtx i).notifyMasked i NoticeMask.restarted .restarted (.restarted i (u.ctx i).generation)
  if before.state = .failed then v.memberRecovered i else v

/-- Either landing area is faulted (R145). -/
def Ctx.areaFaulted (c : Ctx) : Bool := c.area0.faulted || c.area1.faulted

/-- The signal stage of a segment with a signal level, and whether it restarted the context (R34, R135, R136). -/
def State.signalStage (s : State) (i : Nat) (level : Bool) : State × Bool :=
  let before := s.ctx i
  if before.exclusive then (s, false)
  else
    let t := s.modCtx i fun c => { c with signal := level }
    if level && !before.signal then
      let u := if s.actions.notify then t.notifyMasked i NoticeMask.senderSignal .senderSignal (.senderSignal i) else t
      let v := u.rejudgeHolds s
      if s.actions.restart && !before.areaFaulted then (v.restart i, true) else (v, false)
    else (t.rejudgeHolds s, false)

end Sys2Proof.Machine
end

