-- ==== Sys2Proof/Machine/AreaOps.lean ====
section
/-! DEFINITION. The area manager (chapter 6) and the completion check (section 1.7). -/

namespace Sys2Proof.Machine

open Sys2Proof (NoticeMask)

/-- The half-notice test of R103 for the area of window `n`, which holds `n`. -/
def State.halfTest (s : State) (i n : Nat) : State :=
  let c := s.ctx i
  let a := c.area n
  if !a.halfSent && decide (halfUp (c.windowLength n) ≤ a.delivered) then
    (s.modCtx i fun c => c.setArea n { c.area n with halfSent := true }).notifyMasked i NoticeMask.halfFilled .halfFilled
      (.halfFilled i (n % 2) n a.delivered)
  else s

/-- An area as the first recording of a total leaves it: IDLE where its window starts at or above the total and nothing
has been delivered into it (R101). -/
def Area.trimmed (a : Area) (w total : Nat) : Area :=
  match a.state, a.window with
  | .ready, some n => if total ≤ n * w ∧ a.delivered = 0 then { a with state := .idle, window := none } else a
  | _, _ => a

/-- The half-notice test after the trim, for an area READY with a window that the total cuts short (R101). -/
def State.cutHalfTest (s : State) (i p : Nat) : State :=
  match ((s.ctx i).area p).state, ((s.ctx i).area p).window with
  | .ready, some n => if (s.ctx i).cutsWindow n then s.halfTest i n else s
  | _, _ => s

/-- What the area manager does when a total is first recorded (R101, R84): the trim, the re-evaluation it asks for, and
the half-notice tests. -/
def State.trimAreas (s : State) (i : Nat) : State :=
  let t := s.modCtx i fun c =>
    { c with area0 := c.area0.trimmed c.w c.endBound, area1 := c.area1.trimmed c.w c.endBound }
  ((t.rejudgeCtx i).cutHalfTest i 0).cutHalfTest i 1

/-- The completion check (R22, R23, R24). -/
def State.completionCheck (s : State) (i : Nat) : State :=
  let c := s.ctx i
  match c.total with
  | .manifest n expected =>
    if c.receiving && c.retired == n then
      if c.digest = expected then
        let t := s.modCtx i fun c => { c with state := .done, timer := .stopped }
        (t.notify i .transferDone (.transferDone i n c.digest)).memberDone i
      else s.fail i .digestMismatch
    else s
  | .absent | .implied _ => s

/-- Window `n` of a context meets the conditions of R104. -/
def State.retirable (s : State) (i n : Nat) : Bool :=
  let c := s.ctx i
  c.receiving && c.retired == n * c.w && (c.area n).state == .ready && (c.area n).window == some n &&
    firstCovers c.extents (n * c.w) (c.windowEnd n) && !s.pieceStaged i n

/-- The retirement of window `n`, up to its notice (R106, steps 1 to 3). -/
def State.retireWindow (s : State) (i n : Nat) : State :=
  let c := s.ctx i
  let t := s.modCtx i fun c =>
    { c.setArea n { c.area n with state := .filled } with
      retired := c.windowEnd n, extents := cutFirst c.extents (c.windowEnd n) }
  t.notify i .windowFilled (.windowFilled i (n % 2) n (c.windowLength n) (c.area n).digest)

/-- The evaluation is made at all: the retired edge has not reached the end bound (R105). -/
def Ctx.evaluates (c : Ctx) : Bool := c.retired != c.endBound

/-- One evaluation of retirement (R105): it tests the window at the retired edge. A retirement that reaches the recorded
total runs the completion check (R106, step 4). -/
def State.evaluateOnce (s : State) (i : Nat) : State :=
  let c := s.ctx i
  let n := c.retired / c.w
  if c.evaluates && s.retirable i n then
    let t := s.retireWindow i n
    if (t.ctx i).totalBytes == some (t.ctx i).retired then t.completionCheck i else t
  else s

/-- An evaluation of retirement and the evaluations that follow its retirements (R105, R106). Each retirement leaves its
area FILLED, so a run retires at most two windows. -/
def State.evaluateRetirement (s : State) (i : Nat) : State := (s.evaluateOnce i).evaluateOnce i

/-- The windows of pieces, each once, in the order of the pieces. -/
def windowsOf : List Piece → List Nat
  | [] => []
  | p :: ps => p.window :: (windowsOf ps).filter (· != p.window)

/-- The pieces of a job that lie in window `n`. -/
def inWindow (pieces : List Piece) (n : Nat) : List Piece := pieces.filter fun p => p.window == n

/-- The area of window `n` gains the pieces that lie in it (R102, R73). -/
def Ctx.gain (c : Ctx) (pieces : List Piece) (n : Nat) : Ctx :=
  let a := c.area n
  c.setArea n
    { a with
      delivered := a.delivered + ((inWindow pieces n).map fun p => p.stop - p.start).sum
      digest := a.digest.add (contributionSum (inWindow pieces n)) }

/-- The area manager takes the pieces of a current-generation job that completed OK: delivered bytes and digests, and in
ACTIVE or STALLED the half-notice tests, window by window (R102). -/
def State.takePieces (s : State) (i : Nat) (pieces : List Piece) : State :=
  let t := s.modCtx i fun c => (windowsOf pieces).foldl (fun c n => c.gain pieces n) c
  if (t.ctx i).receiving then (windowsOf pieces).foldl (fun s n => s.halfTest i n) t else t

end Sys2Proof.Machine
end

