-- ==== Sys2Proof/Machine/CommandOps.lean ====
section
/-! DEFINITION. The command unit (section 11.1): taking the entry a fetch returned, resolving an index, and the effects
that commands share. -/

namespace Sys2Proof.Machine

/-- The kind codes of the commands (section 11.5). -/
def codeOpen : BitVec 8 := 1
/-- The code of QUERY. -/
def codeQuery : BitVec 8 := 2
/-- The code of ADJUST. -/
def codeAdjust : BitVec 8 := 3
/-- The code of REFILL. -/
def codeRefill : BitVec 8 := 4
/-- The code of RESTART. -/
def codeRestart : BitVec 8 := 5
/-- The code of REVERIFY. -/
def codeReverify : BitVec 8 := 6
/-- The code of CLOSE. -/
def codeClose : BitVec 8 := 7
/-- The code of GROUP_JOIN. -/
def codeGroupJoin : BitVec 8 := 8
/-- The code of GROUP_LEAVE. -/
def codeGroupLeave : BitVec 8 := 9
/-- The code of SET_APERTURE. -/
def codeSetAperture : BitVec 8 := 10
/-- The code of CONFIGURE. -/
def codeConfigure : BitVec 8 := 11

/-- The fetch ends with no command taken: its reservation is released (R171, R174). -/
def State.endFetch (s : State) : State :=
  { s with
    command := { s.command with fetch := none }
    notice := { s.notice with reserved := false } }

/-- The fetch has returned OK and the command is taken: the head advances by 1 modulo N; the entry stays reserved for the
CMD_RESULT (R171, R174). -/
def State.takeFetched (s : State) : State :=
  { s with command := { s.command with fetch := none, head := (s.command.head + 1) % s.command.size } }

/-- A command fetch read returns OK with an entry: the entry is executed by `body`. A read that returns during a
soft-reset drain is discarded unexecuted (R171); with no fetch outstanding there is no return to take (log 4), and one of a
fetch that a full reset abandoned is not taken (R181). -/
def State.runCommand {α : Type} (s : State) (cmd : Sys2Proof.Reply α) (body : α → State → State) : State :=
  s.takeReply cmd fun m s =>
    if s.command.fetch.isNone then s
    else if s.resets.draining then s.endFetch
    else body m s.takeFetched

/-- What the resolution of an index yields (R7): the index, or the status and the index the CMD_RESULT carries. -/
inductive Resolved where
  | context (i : Nat)
  | refused (status : CmdStatus) (index : Nat)
  deriving DecidableEq, Repr

/-- Resolve a context index (R7). -/
def State.resolve (s : State) (index : BitVec 16) : Resolved :=
  if Config.contextCount ≤ index.toNat then .refused .badParam 0
  else if (s.ctx index.toNat).isOpen then .context index.toNat
  else .refused .noContext index.toNat

/-- A command that names a context by index: refused by R7, or `body` on the context. -/
def State.onContext (s : State) (hostTag : BitVec 16) (code : BitVec 8) (index : BitVec 16)
    (body : Nat → State → State) : State :=
  match s.resolve index with
  | .refused status i => s.finish hostTag code status i
  | .context i => body i s

/-- The first check of a list that fails gives its status; `none` when all pass. -/
def firstFailure : List (Bool × CmdStatus) → Option CmdStatus
  | [] => none
  | (passes, status) :: rest => if passes then firstFailure rest else some status

/-- End a command: with the failing status and no effect, or with its effect and OK. -/
def State.conclude (s : State) (hostTag : BitVec 16) (code : BitVec 8) (index : Nat) (failure : Option CmdStatus)
    (effect : State → State) : State :=
  match failure with
  | some status => s.finish hostTag code status index
  | none => (effect s).finish hostTag code .ok index

/-- A context enters FREE (R21): every field takes its "In FREE" value. -/
def State.enterFree (s : State) (i : Nat) : State := s.setCtx i Ctx.free

/-- The record goes to FREE when no job of the context is in flight (R19, R21, R123). -/
def State.freeIfIdle (s : State) (i : Nat) : State :=
  if (s.ctx i).current + (s.ctx i).older = 0 then s.enterFree i else s

/-- The ranges of all landing areas of contexts that are not FREE (R127): base and W of both areas of each. -/
def State.areaRanges (s : State) : List (Nat × Nat) :=
  (Table.keys s.contexts).flatMap fun i =>
    if (s.ctx i).state = .free then [] else [((s.ctx i).area0.base, (s.ctx i).w), ((s.ctx i).area1.base, (s.ctx i).w)]

/-- The aperture is enabled and a landing area overlaps its range (R127, check 4). -/
def State.apertureInUse (s : State) (n : Nat) : Bool :=
  (s.aperture n).enabled && s.areaRanges.any fun r => (s.aperture n).overlaps r.1 r.2

/-- What a snapshot shows of a context's group (R150). -/
def State.groupView (s : State) (i : Nat) : Option GroupView :=
  (s.ctx i).group.map fun g =>
    { number := g
      leader := (s.group g).members.headD 0
      members := (s.group g).members.length
      done := (s.group g).done
      failed := (s.group g).failed
      holdOnFailure := (s.group g).holdOnFailure
      place := (s.group g).members.findIdx (· == i) }

/-- The capture of a QUERY (R16). -/
def State.capture (s : State) (i : Nat) : Snapshot :=
  let c := s.ctx i
  { index := i
    record := { c with staged := [] }
    stagedCount := c.staged.length
    bucket := (c.key.map bucketOf).getD 0
    position := (c.key.map s.positionOf).getD 0
    effPriority := s.effPriority i
    effHold := s.effHold i
    group := s.groupView i }

/-- The QUERY in execution ends with its CMD_RESULT (R16). -/
def State.endQuery (s : State) (report : Sys2Proof.Report) : State :=
  match s.command.executing with
  | none => s
  | some q =>
    let status : CmdStatus := match report with
      | .ok => .ok
      | .fault => .badAddress
    let t := { s with
      command := { s.command with executing := none }
      delivery := { s.delivery with snapshotPort := .idle } }
    t.finish q.hostTag codeQuery status q.index

end Sys2Proof.Machine
end

