-- ==== Sys2Proof/Machine/Commands.lean ====
section
/-! DEFINITION. The meanings of the host commands (chapters 1, 6, 7, 8, 9, 10 and 11). Each is a command fetch read
returning OK with the entry (R171). -/

namespace Sys2Proof.Machine

open Sys2Proof (OpenCommand QueryCommand AdjustCommand RefillCommand ReverifyCommand IndexCommand JoinCommand
  ApertureCommand ConfigureCommand UnknownCommand Report Reply)

/-! ## OPEN -/

/-- The key an OPEN names. -/
def OpenCommand.key (m : OpenCommand) : Key := ⟨m.peer, m.tag⟩

/-- The checks of OPEN (R13). -/
def State.openChecks (s : State) (m : OpenCommand) : List (Bool × CmdStatus) :=
  [ (decide (m.windowSelect.toNat ≤ 4), .badParam),
    (m.base0.toNat % 64 == 0 && m.base1.toNat % 64 == 0, .badParam),
    (s.mayWrite m.base0.toNat (windowSize m.windowSelect), .badAddress),
    (s.mayWrite m.base1.toNat (windowSize m.windowSelect), .badAddress),
    ((s.lookup (OpenCommand.key m)).isNone, .keyExists),
    (decide ((s.bucket (bucketOf (OpenCommand.key m))).length < Config.bucketEntries), .keyCollision),
    (!(s.freeContexts 1).isEmpty, .tableFull) ]

/-- An area at OPEN (R3, R100). -/
def Area.opened (base window : Nat) : Area := { Area.free with base := base, state := .ready, window := some window }

/-- A record at OPEN: the "At OPEN" columns of R2, R3 and R4. -/
def OpenCommand.record (m : OpenCommand) : Ctx :=
  { Ctx.free with
    state := .active
    key := some (OpenCommand.key m)
    priority := m.priority
    mask := m.mask
    exclusive := m.exclusive
    hostHold := m.hostHold
    stallSelect := m.stallSelect
    abandonMultiplier := m.abandonMultiplier
    damageLimit := m.damageLimit
    quota := clampQuota m.quota
    windowSelect := m.windowSelect
    area0 := Area.opened m.base0.toNat 0
    area1 := Area.opened m.base1.toNat 1
    timer := fullStall m.stallSelect }

/-- OPEN once its command is taken (R13, R14). -/
def State.runOpen (s : State) (m : OpenCommand) : State :=
  match firstFailure (s.openChecks m) with
  | some status => s.finish m.hostTag codeOpen status 0
  | none =>
    let i := (s.freeContexts 1).headD 0
    ((s.insertKey (OpenCommand.key m) i).setCtx i (OpenCommand.record m)).finish m.hostTag codeOpen .ok i

/-- OPEN (R14). -/
def execOpenTransfer (cmd : Reply OpenCommand) (s : State) : Host.Outcome State Fault Refusal :=
  .next (s.runCommand cmd fun cmd s => s.runOpen cmd)

/-! ## QUERY -/

/-- The context a QUERY selects, by index or by key (R15, checks 1 and 2). -/
def State.querySelect (s : State) (m : QueryCommand) : Resolved :=
  if m.selector = 0 then s.resolve m.index
  else if m.selector = 1 then
    match s.lookup ⟨m.peer, m.tag⟩ with
    | some i => .context i
    | none => .refused .noContext 0
  else .refused .badParam 0

/-- QUERY once its command is taken (R15, R16). -/
def State.runQuery (s : State) (m : QueryCommand) : State :=
  match s.querySelect m with
  | .refused status i => s.finish m.hostTag codeQuery status i
  | .context i =>
    if m.address.toNat % 64 ≠ 0 then s.finish m.hostTag codeQuery .badParam i
    else if !s.mayWrite m.address.toNat Config.snapshotBytes then s.finish m.hostTag codeQuery .badAddress i
    else
      { s with
        command := { s.command with executing := some ⟨m.hostTag, i⟩ }
        delivery := { s.delivery with snapshotPort := .waiting ⟨m.address.toNat, s.capture i⟩ } }

/-- QUERY (R15). -/
def execQuery (cmd : Reply QueryCommand) (s : State) : Host.Outcome State Fault Refusal :=
  .next (s.runCommand cmd fun cmd s => s.runQuery cmd)

/-! ## ADJUST -/

/-- The timer after an ADJUST of the stall select or the multiplier (R148, "Timer restart"); `c` holds the new
values. -/
def Ctx.adjustTimer (c : Ctx) (stallNamed multiplierNamed : Bool) : StallTimer :=
  match c.timer with
  | .stopped => .stopped
  | .stall r => if stallNamed then fullStall c.stallSelect else .stall r
  | .abandon r => if stallNamed || multiplierNamed then fullAbandon c.stallSelect c.abandonMultiplier else .abandon r

/-- The record after an ADJUST (R148, R135, R86): each named setting replaced; setting exclusive sets the signal level
to 0; the timer restarted. -/
def Ctx.adjusted (c : Ctx) (m : AdjustCommand) : Ctx :=
  let d : Ctx :=
    { c with
      priority := m.priority.getD c.priority
      mask := m.mask.getD c.mask
      hostHold := m.hostHold.getD c.hostHold
      exclusive := m.exclusive.getD c.exclusive
      signal := if m.exclusive = some true then false else c.signal
      stallSelect := m.stallSelect.getD c.stallSelect
      abandonMultiplier := m.abandonMultiplier.getD c.abandonMultiplier
      damageLimit := m.damageLimit.getD c.damageLimit
      quota := (m.quota.map clampQuota).getD c.quota }
  { d with timer := d.adjustTimer m.stallSelect.isSome m.abandonMultiplier.isSome }

/-- The effects of ADJUST (R148). -/
def State.adjustCtx (s : State) (i : Nat) (m : AdjustCommand) : State :=
  (s.modCtx i fun c => c.adjusted m).rejudgeHolds s

/-- ADJUST (R148). -/
def execAdjust (cmd : Reply AdjustCommand) (s : State) : Host.Outcome State Fault Refusal :=
  .next (s.runCommand cmd fun cmd s => s.onContext cmd.hostTag codeAdjust cmd.index fun i s =>
    s.conclude cmd.hostTag codeAdjust i none fun s => s.adjustCtx i cmd)

/-! ## REFILL -/

/-- The context is FAILED and the area faulted: the faulted path (R109, R111). -/
def Ctx.faultedPath (c : Ctx) (p : Nat) : Bool := c.state == .failed && (c.area p).faulted

/-- The other area is FILLED holding a lower window number (R109, check 5). -/
def Ctx.otherFilledLower (c : Ctx) (p : Nat) : Bool :=
  (c.area (p + 1)).state == .filled &&
    decide ((c.area (p + 1)).window.getD 0 < (c.area p).window.getD 0)

/-- The checks of REFILL after the index (R109, checks 2 to 7). -/
def State.refillChecks (s : State) (i : Nat) (m : RefillCommand) : List (Bool × CmdStatus) :=
  let c := s.ctx i
  let p := m.area.toNat
  [ (decide (p ≤ 1), .badParam),
    (m.base.toNat % 64 == 0, .badParam),
    ((c.area p).state == .filled || c.faultedPath p, .wrongState),
    (c.faultedPath p || !c.otherFilledLower p, .wrongState),
    (!(c.area p).verifying, .areaBusy),
    (s.mayWrite m.base.toNat c.w, .badAddress) ]

/-- An area moved from window `n` to its next window, or to IDLE beyond the end bound (R110). -/
def Ctx.refilled (c : Ctx) (p base : Nat) : Area :=
  let n := (c.area p).window.getD 0 + 2
  let takes : Bool := decide (n * c.w < c.endBound)
  { base := base, state := if takes then .ready else .idle, window := if takes then some n else none, delivered := 0,
    digest := Tally.zero, halfSent := false, faulted := false, verify := .none }

/-- A faulted area of a FAILED context given a new base (R111). -/
def Ctx.rebased (c : Ctx) (p base : Nat) : Area := { c.area p with base := base, faulted := false }

/-- The effects of REFILL (R110, R111): eligibility is re-evaluated when the area becomes READY, and never by the faulted
path. -/
def State.refillArea (s : State) (i : Nat) (m : RefillCommand) : State :=
  let c := s.ctx i
  let p := m.area.toNat
  if c.faultedPath p then
    (s.modCtx i fun c => c.setArea p (c.rebased p m.base.toNat)).evaluateRetirement i
  else
    let t := s.modCtx i fun c => c.setArea p (c.refilled p m.base.toNat)
    (if ((t.ctx i).area p).state = .ready then t.rejudgeCtx i else t).evaluateRetirement i

/-- REFILL (R109). -/
def execRefill (cmd : Reply RefillCommand) (s : State) : Host.Outcome State Fault Refusal :=
  .next (s.runCommand cmd fun cmd s => s.onContext cmd.hostTag codeRefill cmd.index fun i s =>
    s.conclude cmd.hostTag codeRefill i (firstFailure (s.refillChecks i cmd)) fun s => s.refillArea i cmd)

/-! ## RESTART -/

/-- The checks of RESTART after the index (R145). -/
def Ctx.restartChecks (c : Ctx) : List (Bool × CmdStatus) :=
  [(c.state != .done, .wrongState), (!c.areaFaulted, .areaFaulted)]

/-- RESTART (R145). -/
def execRestart (cmd : Reply IndexCommand) (s : State) : Host.Outcome State Fault Refusal :=
  .next (s.runCommand cmd fun cmd s => s.onContext cmd.hostTag codeRestart cmd.index fun i s =>
    s.conclude cmd.hostTag codeRestart i (firstFailure (s.ctx i).restartChecks) fun s => s.restart i)

/-! ## REVERIFY -/

/-- The length of the window an area holds (R162). -/
def Ctx.areaLength (c : Ctx) (p : Nat) : Nat := c.windowLength ((c.area p).window.getD 0)

/-- The checks of REVERIFY after the index (R162, checks 2 to 6). -/
def State.reverifyChecks (s : State) (i : Nat) (m : ReverifyCommand) : List (Bool × CmdStatus) :=
  let c := s.ctx i
  let p := m.area.toNat
  [ (decide (p ≤ 1), .badParam),
    ((c.area p).state == .filled, .wrongState),
    (!(c.area p).verifying, .verifyBusy),
    (s.mayRead (c.area p).base (c.areaLength p), .badAddress),
    (decide (s.verify.length < Config.verifyLimit), .verifyBusy) ]

/-- The request a REVERIFY appends (R163). -/
def Ctx.verifyRequest (c : Ctx) (i p : Nat) : VerifyRequest :=
  { context := i, area := p, window := (c.area p).window.getD 0, base := (c.area p).base, length := c.areaLength p,
    bytesRead := 0, sums := Tally.zero, readOutstanding := false, aborted := false, byClose := false }

/-- The effects of REVERIFY (R163): the request joins the queue; into an empty queue it is at once active. -/
def State.appendVerify (s : State) (i p : Nat) : State :=
  let r := (s.ctx i).verifyRequest i p
  let t := s.setVerify i p .queued
  if s.verify.isEmpty then startVerify [r] t else { t with verify := s.verify ++ [r] }

/-- REVERIFY (R162). -/
def execReverify (cmd : Reply ReverifyCommand) (s : State) : Host.Outcome State Fault Refusal :=
  .next (s.runCommand cmd fun cmd s => s.onContext cmd.hostTag codeReverify cmd.index fun i s =>
    s.conclude cmd.hostTag codeReverify i (firstFailure (s.reverifyChecks i cmd)) fun s =>
      s.appendVerify i cmd.area.toNat)

/-! ## CLOSE -/

/-- The effects of CLOSE, in order (R19). -/
def State.closeCtx (s : State) (i : Nat) : State :=
  let t := match (s.ctx i).key with
    | some k => s.removeKey k
    | none => s
  let u := ((t.releaseUnwritten i).abortVerify i true).leaveGroup i
  (u.modCtx i fun c => { c with state := .closing, timer := .stopped }).freeIfIdle i

/-- CLOSE (R19). -/
def execClose (cmd : Reply IndexCommand) (s : State) : Host.Outcome State Fault Refusal :=
  .next (s.runCommand cmd fun cmd s => s.onContext cmd.hostTag codeClose cmd.index fun i s =>
    s.conclude cmd.hostTag codeClose i none fun s => s.closeCtx i)

/-! ## GROUP_JOIN and GROUP_LEAVE -/

/-- The checks of GROUP_JOIN after the index (R151, checks 2 to 5). -/
def State.joinChecks (s : State) (i : Nat) (m : JoinCommand) : List (Bool × CmdStatus) :=
  [ (decide (m.group.toNat < Config.groupCount), .badParam),
    ((s.ctx i).receiving, .wrongState),
    ((s.ctx i).group.isNone, .wrongState),
    (decide ((s.group m.group.toNat).members.length < Config.groupLimit), .groupFull) ]

/-- GROUP_JOIN (R152). -/
def execGroupJoin (cmd : Reply JoinCommand) (s : State) : Host.Outcome State Fault Refusal :=
  .next (s.runCommand cmd fun cmd s => s.onContext cmd.hostTag codeGroupJoin cmd.index fun i s =>
    s.conclude cmd.hostTag codeGroupJoin i (firstFailure (s.joinChecks i cmd)) fun s =>
      s.joinGroup i cmd.group.toNat cmd.holdOnFailure)

/-- GROUP_LEAVE (R153). -/
def execGroupLeave (cmd : Reply IndexCommand) (s : State) : Host.Outcome State Fault Refusal :=
  .next (s.runCommand cmd fun cmd s => s.onContext cmd.hostTag codeGroupLeave cmd.index fun i s =>
    s.conclude cmd.hostTag codeGroupLeave i (firstFailure [((s.ctx i).group.isSome, .wrongState)]) fun s =>
      s.leaveGroup i)

/-! ## SET_APERTURE, CONFIGURE and an entry that names no command -/

/-- The checks of SET_APERTURE (R127). -/
def State.apertureChecks (s : State) (m : ApertureCommand) : List (Bool × CmdStatus) :=
  [ (decide (m.aperture.toNat < Config.apertureCount), .badParam),
    (m.base.toNat % Config.aperturePage == 0 && m.limit.toNat % Config.aperturePage == 0, .badParam),
    (decide (m.base.toNat ≤ m.limit.toNat), .badParam),
    (!s.apertureInUse m.aperture.toNat, .apertureInUse) ]

/-- The effect of SET_APERTURE (R128). -/
def State.replaceAperture (s : State) (m : ApertureCommand) : State :=
  { s with delivery := { s.delivery with
      apertures := Table.set Aperture.off s.delivery.apertures m.aperture.toNat
        { base := m.base.toNat, limit := m.limit.toNat, enabled := m.enabled, write := m.write, read := m.read } } }

/-- SET_APERTURE (R127). -/
def execSetAperture (cmd : Reply ApertureCommand) (s : State) : Host.Outcome State Fault Refusal :=
  .next (s.runCommand cmd fun cmd s =>
    s.conclude cmd.hostTag codeSetAperture 0 (firstFailure (s.apertureChecks cmd)) fun s => s.replaceAperture cmd)

/-- The effects of CONFIGURE (R173, R137). -/
def State.applyConfigure (s : State) (m : ConfigureCommand) : State :=
  { s with
    actions := m.actions
    intake := { s.intake with unmatchedEnable := m.unmatchedEnable } }.rejudgeHolds s

/-- CONFIGURE (R173). -/
def execConfigure (cmd : Reply ConfigureCommand) (s : State) : Host.Outcome State Fault Refusal :=
  .next (s.runCommand cmd fun cmd s =>
    s.conclude cmd.hostTag codeConfigure 0 none fun s => s.applyConfigure cmd)

/-- BAD_COMMAND: an entry whose kind code names no command (R171). -/
def execBadCommand (cmd : Reply UnknownCommand) (s : State) : Host.Outcome State Fault Refusal :=
  .next (s.runCommand cmd fun cmd s => s.finish cmd.hostTag cmd.code .badCommand 0)

/-! ## The fetch -/

/-- The conditions of a command fetch (R171). -/
def State.mayFetch (s : State) : Bool :=
  s.admitting && s.command.head != s.command.tail && s.command.executing.isNone && s.command.fetch.isNone &&
    !s.command.fetchFault && !s.notice.full

/-- COMMAND_FETCH (R171): an entry of the notice queue is reserved and the entry at the head is read. -/
def execCommandFetch (s : State) : Host.Outcome State Fault Refusal :=
  .next (s.whenLive fun s =>
    if s.mayFetch then
      { s with
        command := { s.command with fetch := some (s.command.base + 64 * s.command.head) }
        notice := { s.notice with reserved := true } }
    else s)

/-- COMMAND_FETCH_FAULT (R171): the fetch read returns FAULT and shows command fetch fault, or returns during a
soft-reset drain; no command is taken. -/
def execCommandFetchFault (report : Reply Report) (s : State) : Host.Outcome State Fault Refusal :=
  .next (s.takeReply report fun report s =>
    if s.command.fetch.isNone then s
    else
      match report with
      | .fault =>
        let t := s.endFetch
        { t with command := { t.command with fetchFault := true } }
      | .ok => if s.resets.draining then s.endFetch else s)

end Sys2Proof.Machine
end

