-- ==== Sys2Proof/Machine/Flags.lean ====
section
/-! DEFINITION. The indications of the status word and the register window as a host read shows them (R130, R179,
section 11.5). Register reads change no state, but for the unmatched count (R45). -/

namespace Sys2Proof.Machine

/-- Quiesce is active (R129). -/
def State.quiesceActive (s : State) : Bool := s.delivery.quiesceLine || s.delivery.quiesceRequest

/-- Delivery stopped (R130). -/
def State.deliveryStopped (s : State) : Bool := s.quiesceActive && s.delivery.inFlight == 0

/-- The nine indications at offset 0x00, bit 0 first. -/
def State.indications (s : State) : List Bool :=
  [ s.resets.pending, s.resets.draining, s.resets.configInvalid, s.notice.overflow, s.command.fetchFault,
    s.notice.writeFault, s.quiesceActive, s.deliveryStopped, s.staging.constrained ]

/-- Indications as a number, the first the least significant bit. -/
def bitsNat : List Bool → Nat
  | [] => 0
  | b :: bs => b.toNat + 2 * bitsNat bs

/-- The registers a host can read without effect, and the bits the spec gives them (section 11.5). -/
inductive ReadableRegister where
  | status
  | freeCounts
  | inFlight
  | controls
  | commandBase
  | commandSize
  | commandTail
  | commandHead
  | noticeBase
  | noticeSize
  | noticeProducer
  | noticeConsumer
  deriving DecidableEq, Repr

/-- The offset of a register in the window (section 11.5). -/
def ReadableRegister.offset : ReadableRegister → Nat
  | .status => 0x00
  | .freeCounts => 0x04
  | .inFlight => 0x08
  | .controls => 0x0C
  | .commandBase => 0x18
  | .commandSize => 0x20
  | .commandTail => 0x24
  | .commandHead => 0x28
  | .noticeBase => 0x30
  | .noticeSize => 0x38
  | .noticeProducer => 0x3C
  | .noticeConsumer => 0x40

/-- The value a read shows: the fields the section names, every other bit left out of account (log 21). DESIGN CHOICE
(log 24): the ring bases, the tail and the consumer, to which the section gives write access only, read back the value
held. -/
def State.readRegister (s : State) : ReadableRegister → Nat
  | .status => bitsNat s.indications
  | .freeCounts => s.staging.freeBlocks + 2 ^ 16 * s.staging.freeRecords
  | .inFlight => s.delivery.inFlight
  | .controls => 2 ^ 2 * s.delivery.quiesceRequest.toNat
  | .commandBase => s.command.base
  | .commandSize => s.command.size
  | .commandTail => s.command.tail
  | .commandHead => s.command.head
  | .noticeBase => s.notice.base
  | .noticeSize => s.notice.size
  | .noticeProducer => s.notice.producer
  | .noticeConsumer => s.notice.consumer

end Sys2Proof.Machine
end

