-- ==== Sys2Proof/Machine/DeliverySteps.lean ====
section
/-! DEFINITION. Delivery and the host write port (chapter 7): grants, piece writes and their completions, snapshot
writes, quiesce. -/

namespace Sys2Proof.Machine

open Sys2Proof (Byte Report Reply)

/-! ## The arbiter -/

/-- The contexts that hold an ELIGIBLE record, in ascending index order (R119). -/
def State.candidates (s : State) : List Nat :=
  (Table.keys s.contexts).filter fun i =>
    s.staging.pool.any fun e => e.2.owner == i && e.2.state == .eligible

/-- The highest effective priority of some contexts (R119). -/
def State.topPriority (s : State) (cands : List Nat) : Nat :=
  cands.foldl (fun p i => max p (s.effPriority i).toNat) 0

/-- The context the arbiter chooses (R119). -/
def State.choose (s : State) : Option Nat :=
  let cands := s.candidates
  let level := s.topPriority cands
  firstAfter (s.pointer (BitVec.ofNat 2 level)) (cands.filter fun i => (s.effPriority i).toNat == level)

/-- The oldest ELIGIBLE record of a context (R120). -/
def State.oldestEligible (s : State) (i : Nat) : Option Nat :=
  (s.ctx i).staged.find? fun r => (s.staged r).any fun e => e.state == .eligible

/-- A piece write fixed at grant (R116). -/
def Ctx.pieceWrite (c : Ctx) (rec : StagedRecord) (p : Piece) : PieceWrite :=
  { window := p.window
    source := p.start - rec.offset
    address := (c.area p.window).base + (p.start - p.window * c.w)
    length := p.stop - p.start
    progress := .waiting }

/-- The arbiter may grant (R118). -/
def State.mayGrant (s : State) : Bool :=
  decide (s.delivery.inFlight < Config.maxInFlight) && !s.quiesceActive && s.admitting

/-- The grant of record `r` of context `i`, as one event (R120). -/
def State.grant (s : State) (i r : Nat) (rec : StagedRecord) : State :=
  let level := s.effPriority i
  let job : Job := { owner := i, older := false, writes := rec.pieces.map ((s.ctx i).pieceWrite rec) }
  let t := s.modCtx i fun c => { c with current := c.current + 1 }
  { t with
    staging := { s.staging with pool := Table.insert r { rec with state := .writing } s.staging.pool }
    delivery := { s.delivery with
      inFlight := s.delivery.inFlight + 1
      pointers := Table.set pointerReset s.delivery.pointers level.toNat i
      jobs := Table.insert r job s.delivery.jobs
      issueOrder := s.delivery.issueOrder ++ (List.range rec.pieces.length).map fun k => ⟨r, k⟩ } }

/-- One grant, or none where no record may be granted (R118, R119, R120). -/
def State.grantOne (s : State) : State :=
  if s.mayGrant then
    match s.choose with
    | none => s
    | some i =>
      match s.oldestEligible i with
      | none => s
      | some r =>
        match s.staged r with
        | none => s
        | some rec => s.grant i r rec
  else s

/-- WRITE_JOB_GRANT (R120). -/
def execWriteJobGrant (s : State) : Host.Outcome State Fault Refusal :=
  .next (s.whenLive State.grantOne)

/-! ## Completion of a job (R123) -/

/-- A write of a job was reported FAULT (R122). -/
def Job.faulted (j : Job) : Bool := j.writes.any fun w => w.progress == .fault

/-- A write still waits in the issue order or is issued and not reported. -/
def WriteProgress.open_ : WriteProgress → Bool
  | .waiting | .issued _ => true
  | .ok | .fault | .removed => false

/-- The job completes: none of its writes waits or is outstanding (R122). -/
def Job.complete (j : Job) : Bool := j.writes.all fun w => !w.progress.open_

/-- Step 1: the counts fall, by the job's older mark (R117, R123). -/
def State.lowerCounts (s : State) (i : Nat) (older : Bool) : State :=
  let t := s.modCtx i fun c =>
    if older then { c with older := c.older - 1 } else { c with current := c.current - 1 }
  { t with delivery := { t.delivery with inFlight := t.delivery.inFlight - 1 } }

/-- Step 2, marking: each area to which a piece write was reported FAULT (R125, R112). -/
def State.markFaulted (s : State) (i : Nat) (j : Job) : State :=
  s.modCtx i fun c =>
    (j.writes.filter fun w => w.progress == .fault).foldl
      (fun c w => c.setArea w.window { c.area w.window with faulted := true }) c

/-- Step 2: a FAULT completion (R125): areas are marked; a current-generation job fails an ACTIVE or STALLED context. In
CLOSING nothing is marked and nothing fails (R20). -/
def State.handleFault (s : State) (i : Nat) (j : Job) : State :=
  if (s.ctx i).state = .closing then s
  else
    let t := s.markFaulted i j
    if j.older then t else t.fail i .deliveryFault

/-- Step 3: an OK completion with the older mark off, outside CLOSING (R102). -/
def State.handleOk (s : State) (i : Nat) (j : Job) (pieces : List Piece) : State :=
  if j.older || (s.ctx i).state == .closing then s else s.takePieces i pieces

/-- Step 5: the fence goes off when the older count has fallen to 0 at this completion (R124). -/
def State.clearFence (s : State) (i : Nat) (older : Bool) : State :=
  if older && (s.ctx i).older == 0 then (s.modCtx i fun c => { c with fence := false }).rejudgeCtx i else s

/-- The completion of the job of record `r`, as one event, in the order of R123. -/
def State.completeJob (s : State) (r : Nat) (j : Job) : State :=
  let i := j.owner
  let pieces := match s.staged r with
    | some rec => rec.pieces
    | none => []
  let s1 := s.lowerCounts i j.older
  let s2 := if j.faulted then s1.handleFault i j else s1.handleOk i j pieces
  let s3 := s2.releaseRecord i r
  let s4 := { s3 with delivery := { s3.delivery with jobs := Table.erase s3.delivery.jobs r } }
  let s5 := s4.clearFence i j.older
  let s6 := if j.faulted || j.older then s5 else s5.evaluateRetirement i
  if (s6.ctx i).state = .closing then s6.freeIfIdle i else s6

/-! ## Piece writes (R121, R122) -/

/-- Give write `k` of a job a new progress. -/
def Job.setProgress (j : Job) (k : Nat) (p : WriteProgress) : Job :=
  { j with writes := j.writes.modify k fun w => { w with progress := p } }

/-- After a fault, the job's writes not yet issued are removed (R122). -/
def Job.dropWaiting (j : Job) : Job :=
  { j with writes := j.writes.map fun w => if w.progress == .waiting then { w with progress := .removed } else w }

/-- Write the job of record `r`. -/
def State.setJob (s : State) (r : Nat) (j : Job) : State :=
  { s with delivery := { s.delivery with jobs := Table.insert r j s.delivery.jobs } }

/-- Remove a job's piece writes from the issue order (R122). -/
def State.dropFromOrder (s : State) (r : Nat) : State :=
  { s with delivery := { s.delivery with issueOrder := s.delivery.issueOrder.filter fun q => q.record != r } }

/-- A piece write of the job of record `r` is reported, by the PCIe side or by the port itself (R121, R122): a fault
removes the job's waiting writes; the job completes when none of its writes is open. -/
def State.pieceReported (s : State) (r k : Nat) (j : Job) (report : Report) : State :=
  match report with
  | .ok =>
    let j' := j.setProgress k .ok
    let t := s.setJob r j'
    if j'.complete then t.completeJob r j' else t
  | .fault =>
    let j' := (j.setProgress k .fault).dropWaiting
    let t := (s.setJob r j').dropFromOrder r
    if j'.complete then t.completeJob r j' else t

/-- The bytes of a piece write, read from the record's blocks (R116, R85). -/
def State.pieceBytes (s : State) (rec : StagedRecord) (w : PieceWrite) : List Byte :=
  readPayload s.staging.payload rec.blocks w.source w.length

/-- No snapshot write waits ahead of the piece writes (R121). A notice write waits only behind a snapshot write. -/
def State.portClear (s : State) : Bool :=
  match s.delivery.snapshotPort with
  | .waiting _ => false
  | .idle | .issued _ => true

/-- Issue the next piece write in issue order, or report it FAULT at once (R121). -/
def State.issueNextPiece (s : State) : State :=
  if !s.portClear then s
  else
    match s.delivery.issueOrder with
    | [] => s
    | q :: rest =>
      let t := { s with delivery := { s.delivery with issueOrder := rest } }
      match s.job q.record, s.staged q.record with
      | some j, some rec =>
        match j.writes[q.piece]? with
        | some w =>
          if s.mayWrite w.address w.length then t.setJob q.record (j.setProgress q.piece (.issued (s.pieceBytes rec w)))
          else t.pieceReported q.record q.piece j .fault
        | none => t
      | _, _ => t

/-- PIECE_WRITE_ISSUE (R121). -/
def execPieceWriteIssue (s : State) : Host.Outcome State Fault Refusal :=
  .next (s.whenLive State.issueNextPiece)

/-- The write is issued and not yet reported. -/
def WriteProgress.outstanding : WriteProgress → Bool
  | .issued _ => true
  | .waiting | .ok | .fault | .removed => false

/-- The PCIe side reports a piece write; a report of a write that is not outstanding is not taken (R94, R122; log 5). -/
def State.takePieceReport (s : State) (r k : Nat) (report : Report) : State :=
  match s.job r with
  | none => s
  | some j =>
    if (j.writes[k]?).any fun w => w.progress.outstanding then s.pieceReported r k j report else s

/-- PIECE_WRITE_REPORT (R122). -/
def execPieceWriteReport (record : BitVec 12) (piece : BitVec 5) (report : Reply Report) (s : State) :
    Host.Outcome State Fault Refusal :=
  .next (s.takeReply report fun report s => s.takePieceReport record.toNat piece.toNat report)

/-! ## Snapshot writes -/

/-- A notice write that waited behind the snapshot write goes out after it (R121; log 11). -/
def PortSlot.goOut {α : Type} : PortSlot α → PortSlot α
  | .waiting w => .issued w
  | .idle => .idle
  | .issued w => .issued w

/-- Issue the waiting snapshot write, or report it FAULT at once (R121). -/
def State.issueSnapshot (s : State) : State :=
  match s.delivery.snapshotPort with
  | .waiting w =>
    let t := { s with delivery := { s.delivery with noticePort := s.delivery.noticePort.goOut } }
    if s.mayWrite w.address Config.snapshotBytes then
      { t with delivery := { t.delivery with snapshotPort := .issued w } }
    else t.endQuery .fault
  | .idle | .issued _ => s

/-- SNAPSHOT_WRITE_ISSUE (R121). -/
def execSnapshotWriteIssue (s : State) : Host.Outcome State Fault Refusal :=
  .next (s.whenLive State.issueSnapshot)

/-- The PCIe side reports the snapshot write, which ends the QUERY (R16). -/
def State.takeSnapshotReport (s : State) (report : Report) : State :=
  match s.delivery.snapshotPort with
  | .issued _ => s.endQuery report
  | .idle | .waiting _ => s

/-- SNAPSHOT_WRITE_REPORT (R16). -/
def execSnapshotWriteReport (report : Reply Report) (s : State) : Host.Outcome State Fault Refusal :=
  .next (s.takeReply report fun report s => s.takeSnapshotReport report)

/-! ## Quiesce (R129) -/

/-- The level of the QUIESCE line, which is driven from outside: no reset holds it back. -/
def State.setQuiesceLine (s : State) (level : Bool) : State :=
  { s with delivery := { s.delivery with quiesceLine := level } }

/-- QUIESCE_RISE (R129). -/
def execQuiesceRise (s : State) : Host.Outcome State Fault Refusal :=
  .next (s.setQuiesceLine true)

/-- QUIESCE_FALL (R129). -/
def execQuiesceFall (s : State) : Host.Outcome State Fault Refusal :=
  .next (s.setQuiesceLine false)

/-- QUIESCE_REQUEST: the control holds the value last written (R129, R179). DESIGN CHOICE (log 23): a write of the control
register is one command for one control, and this one touches neither reset control. -/
def execQuiesceRequest (value : Bool) (s : State) : Host.Outcome State Fault Refusal :=
  .next (s.whenLive fun s => { s with delivery := { s.delivery with quiesceRequest := value } })

end Sys2Proof.Machine
end

