-- ==== Sys2Proof/Machine/NoticeSteps.lean ====
section
/-! DEFINITION. The notice unit's ring writes, the rollup and the interrupt (sections 11.2, 11.3). -/

namespace Sys2Proof.Machine

open Sys2Proof (Report Reply ConsumerWrite)

/-- The ring has room (R177). -/
def NoticeUnit.room (n : NoticeUnit) : Bool := (n.producer + 1) % n.size != n.consumer

/-- The address of the entry at the producer index (R177). -/
def NoticeUnit.entryAddress (n : NoticeUnit) : Nat := n.base + 32 * n.producer

/-- No notice write has been handed to the port and not reported. -/
def PortSlot.isIdle {α : Type} : PortSlot α → Bool
  | .idle => true
  | .waiting _ | .issued _ => false

/-- A write handed to the port waits in the issue order. -/
def PortSlot.isWaiting {α : Type} : PortSlot α → Bool
  | .waiting _ => true
  | .idle | .issued _ => false

/-- The oldest notice in the queue is written to the entry at the producer index when the ring has room, no notice write
is outstanding and no notice write fault is shown (R177). The write goes out at once, or after a snapshot write that
waits ahead of it (R121; log 11). -/
def State.writeNotice (s : State) : State :=
  match s.notice.queue with
  | [] => s
  | n :: _ =>
    if s.notice.room && s.delivery.noticePort.isIdle && !s.notice.writeFault then
      let w : NoticeWrite := { address := s.notice.entryAddress, notice := n }
      { s with delivery := { s.delivery with
          noticePort := if s.delivery.snapshotPort.isWaiting then .waiting w else .issued w } }
    else s

/-- NOTICE_WRITE (R177). -/
def execNoticeWrite (s : State) : Host.Outcome State Fault Refusal :=
  .next (s.whenLive State.writeNotice)

/-- The interrupt message is sent and the flag cleared, if the flag is set (R178). -/
def NoticeUnit.interrupt (n : NoticeUnit) : NoticeUnit :=
  if n.armed then { n with armed := false, messages := n.messages + 1 } else n

/-- The oldest notice leaves the queue and the producer advances (R177). -/
def NoticeUnit.advance (n : NoticeUnit) : NoticeUnit :=
  { n with queue := n.queue.tail, producer := (n.producer + 1) % n.size }

/-- A notice write is reported (R177): OK takes the notice off the queue and advances the producer, which may send the
interrupt message (R178); FAULT shows notice write fault. -/
def State.takeNoticeReport (s : State) (report : Report) : State :=
  match s.delivery.noticePort with
  | .issued _ =>
    let t := { s with delivery := { s.delivery with noticePort := .idle } }
    match report with
    | .ok =>
      { t with notice := t.notice.advance.interrupt }
    | .fault => { t with notice := { t.notice with writeFault := true } }
  | .idle | .waiting _ => s

/-- NOTICE_WRITE_REPORT (R177). -/
def execNoticeWriteReport (report : Reply Report) (s : State) : Host.Outcome State Fault Refusal :=
  .next (s.takeReply report fun report s => s.takeNoticeReport report)

/-- The lowest-indexed context with a non-empty owed set (R176). -/
def State.oldestOwed (s : State) : Option Nat :=
  (Table.keys s.contexts).find? fun i => !(s.ctx i).owed.isEmpty

/-- A ROLLUP is queued when the queue has an unreserved free entry and some owed set is not empty (R176). -/
def State.queueRollup (s : State) : State :=
  if s.notice.full then s
  else
    match s.oldestOwed with
    | none => s
    | some i => (s.push (.rollup i (s.ctx i).owed)).modCtx i fun c => { c with owed := [] }

/-- ROLLUP (R176). -/
def execRollup (s : State) : Host.Outcome State Fault Refusal :=
  .next (s.whenLive State.queueRollup)

/-- A host write of the consumer index (R177, R178): ignored while RESET_PENDING is shown; otherwise it arms the
interrupt, and sends the message at once when notices are left unconsumed. -/
def State.writeConsumer (s : State) (value : BitVec 32) : State :=
  if s.resets.pending then s
  else
    let n := { s.notice with consumer := value.toNat % s.notice.size, armed := true }
    { s with notice := if n.producer != n.consumer then n.interrupt else n }

/-- A report advances the producer: it is taken, and says OK of the notice write that is out (R177). -/
def State.advancedBy (s : State) (report : Reply Report) : Bool :=
  report.issued == s.resets.count && report.value == .ok &&
    (match s.delivery.noticePort with
      | .issued _ => true
      | .idle | .waiting _ => false)

/-- A consumer write at the same moment as the report of a notice write (R178). Where the report advances the producer and
notices are left unconsumed, one message is sent, whatever the flag was, and the flag is left clear. DESIGN CHOICE (log 25):
where none are left, of which R178 says nothing, the report is taken first. -/
def State.writeConsumerWithReport (s : State) (value : BitVec 32) (report : Reply Report) : State :=
  let t := (s.takeReply report fun report s => s.takeNoticeReport report).writeConsumer value
  if s.advancedBy report && !s.resets.pending && t.notice.producer != t.notice.consumer then
    { t with notice := { t.notice with messages := s.notice.messages + 1 } }
  else t

/-- NOTICE_RING_CONSUMER_WRITE (R177, R178). -/
def execNoticeRingConsumerWrite (write : ConsumerWrite) (s : State) : Host.Outcome State Fault Refusal :=
  .next (s.whenLive fun s =>
    match write.moment with
    | .alone => s.writeConsumer write.value
    | .withReport report => s.writeConsumerWithReport write.value report)

end Sys2Proof.Machine
end

