-- ==== Sys2Proof/Machine/ResetSteps.lean ====
section
/-! DEFINITION. The register window's controls and the resets (sections 11.1, 11.4, 11.6). -/

namespace Sys2Proof.Machine

open Sys2Proof (RingRegisterWrite ResetCause)

/-! ## Register writes -/

/-- A write of the command ring tail (R170): ignored while RESET_PENDING or the drain is shown. -/
def State.writeTail (s : State) (value : BitVec 32) : State :=
  if s.admitting then { s with command := { s.command with tail := value.toNat % s.command.size } } else s

/-- COMMAND_RING_TAIL_WRITE (R170). -/
def execCommandRingTailWrite (value : BitVec 32) (s : State) : Host.Outcome State Fault Refusal :=
  .next (s.whenLive fun s => s.writeTail value)

/-- A write of a ring base or size register (R170, R177): taken only while RESET_PENDING is shown. -/
def State.writeRing (s : State) (reg : RingRegisterWrite) : State :=
  if s.resets.pending then
    match reg with
    | .commandBase v => { s with command := { s.command with base := v.toNat } }
    | .commandSize v => { s with command := { s.command with size := ringSize 16 4096 v } }
    | .noticeBase v => { s with notice := { s.notice with base := v.toNat } }
    | .noticeSize v => { s with notice := { s.notice with size := ringSize 64 65536 v } }
  else s

/-- REGISTER_WRITE (R170). -/
def execRegisterWrite (reg : RingRegisterWrite) (s : State) : Host.Outcome State Fault Refusal :=
  .next (s.whenLive fun s => s.writeRing reg)

/-- A write to the status word clears the indications it names at bits 3 to 5 (R179). -/
def State.clearStatus (s : State) (value : BitVec 32) : State :=
  { s with
    notice := { s.notice with
      overflow := s.notice.overflow && !value.getLsbD 3
      writeFault := s.notice.writeFault && !value.getLsbD 5 }
    command := { s.command with fetchFault := s.command.fetchFault && !value.getLsbD 4 } }

/-- STATUS_CLEAR (R179). -/
def execStatusClear (value : BitVec 32) (s : State) : Host.Outcome State Fault Refusal :=
  .next (s.whenLive fun s => s.clearStatus value)

/-- UNMATCHED_COUNT_READ (R45): the read returns the count and sets it to 0 as one event. -/
def execUnmatchedCountRead (s : State) : Host.Outcome State Fault Refusal :=
  .next (s.whenLive fun s =>
    { s with intake := { s.intake with unmatched := 0, unmatchedRead := s.intake.unmatched } })

/-! ## Reset acknowledge (R180) -/

/-- The ring registers are valid (R180). -/
def State.ringsValid (s : State) : Bool :=
  s.command.size != 0 && s.notice.size != 0 && s.command.base % 64 == 0 && s.notice.base % 32 == 0 &&
    rangesApart s.command.base (64 * s.command.size) s.notice.base (32 * s.notice.size) &&
    decide (s.command.base + 64 * s.command.size ≤ 2 ^ 64) && decide (s.notice.base + 32 * s.notice.size ≤ 2 ^ 64)

/-- A reset acknowledge (R180). -/
def State.acknowledge (s : State) : State :=
  if s.resets.pending && !s.resets.draining then
    if s.ringsValid then
      { s with
        resets := { s.resets with pending := false, configInvalid := false }
        command := { s.command with head := 0, tail := 0 }
        notice := { s.notice with producer := 0, consumer := 0, armed := true } }
    else { s with resets := { s.resets with configInvalid := true } }
  else s

/-- RESET_ACKNOWLEDGE (R180). DESIGN CHOICE (log 23): it leaves the quiesce-request control, a bit of the same register, as
it stands. -/
def execResetAcknowledge (s : State) : Host.Outcome State Fault Refusal :=
  .next (s.whenLive State.acknowledge)

/-! ## Soft reset (R182, R183) -/

/-- What the drain's clear makes of the part, as one event (R183, R1, R95, R132, R149, R169). -/
def State.clearDevice (s : State) : State :=
  { s with
    map := []
    contexts := []
    staging := Staging.empty s.staging.payload
    delivery := { s.delivery with
      inFlight := 0, pointers := [], jobs := [], issueOrder := [], snapshotPort := .idle, noticePort := .idle }
    groups := []
    verify := []
    command := { s.command with head := 0, tail := 0, fetch := none, executing := none, fetchFault := false }
    notice := { s.notice with
      producer := 0, consumer := 0, queue := [], reserved := false, overflow := false, writeFault := false,
      armed := false }
    resets := { s.resets with draining := false, pending := true } }

/-- No verify read is outstanding. -/
def State.noVerifyRead (s : State) : Bool := s.verify.all fun r => !r.readOutstanding

/-- Nothing remains outstanding (R183). A write handed to the port counts until its report (log 10). -/
def State.drained (s : State) : Bool :=
  s.delivery.inFlight == 0 && s.noVerifyRead && s.delivery.snapshotPort.isIdle && s.command.fetch.isNone &&
    s.delivery.noticePort.isIdle

/-- A soft-reset request (R182): it begins the drain; while RESET_PENDING is shown its drain ends at once. -/
def State.requestSoftReset (s : State) : State :=
  if s.resets.draining then s
  else if s.resets.pending then s.clearDevice
  else { s with resets := { s.resets with draining := true } }

/-- SOFT_RESET (R182). DESIGN CHOICE (log 23): it leaves the quiesce-request control, a bit of the same register, as it
stands. -/
def execSoftReset (s : State) : Host.Outcome State Fault Refusal :=
  .next (s.whenLive State.requestSoftReset)

/-- The end of the drain (R183). -/
def State.endDrain (s : State) : State :=
  if s.resets.draining && s.drained then s.clearDevice else s

/-- DRAIN_CLEAR (R183). -/
def execDrainClear (s : State) : Host.Outcome State Fault Refusal :=
  .next (s.whenLive State.endDrain)

/-! ## Full reset (R181) -/

/-- What a full reset returns to the reset values: everything but the bytes of the staging blocks (R94), the QUIESCE
line (R129), the waiting commands, and what has already gone out of the part (log 9). -/
def State.cleared (s : State) : State :=
  { State.reset with
    intake := { State.reset.intake with lanes := s.intake.lanes, unmatchedRead := s.intake.unmatchedRead }
    staging := Staging.empty s.staging.payload
    delivery := { State.reset.delivery with quiesceLine := s.delivery.quiesceLine }
    notice := { State.reset.notice with messages := s.notice.messages }
    pending := s.pending }

/-- A full reset (R181): one from the reset input lasts while the input is held and for 10 µs after; RESET_PENDING is
shown at its end (log 6). What comes back of a write or read issued before it has another count, and is not taken
(log 22). -/
def State.fullReset (s : State) (cause : ResetCause) : State :=
  let held := s.resets.held || cause == .resetInput
  { s.cleared with
    resets :=
      { pending := !held, draining := false, configInvalid := false, held := held, count := s.resets.count + 1 } }

/-- FULL_RESET (R181). -/
def execFullReset (cause : ResetCause) (s : State) : Host.Outcome State Fault Refusal :=
  .next (s.fullReset cause)

/-- RESET_INPUT_RELEASE (R181, section 11.6): a full reset held by the reset input ends. -/
def execResetInputRelease (s : State) : Host.Outcome State Fault Refusal :=
  .next (if s.resets.held then { s with resets := { s.resets with held := false, pending := true } } else s)

end Sys2Proof.Machine
end

