-- ==== Sys2Proof/Machine/Segments.lean ====
section
/-! DEFINITION. Segment intake (chapter 2): the meanings of DATA, MANIFEST, ABANDON and UNKNOWN_KIND_SEGMENT. -/

namespace Sys2Proof.Machine

open Sys2Proof (Byte M DataSegment ManifestSegment AbandonSegment UnknownSegment Segment Arrival Presented)

/-- A segment's answer: the disposition's code and contiguous edge, and the state the segment leaves. -/
structure Answer where
  code : DispositionCode
  edge : Nat
  state : State

/-- An answer given before the lookup has yielded a context: contiguous edge 0 (R28). -/
def State.answer0 (s : State) (code : DispositionCode) : Answer := ⟨code, 0, s⟩

/-- An answer given against context `i`: the contiguous edge is computed after every effect of the segment (R28). -/
def State.answer (s : State) (i : Nat) (code : DispositionCode) : Answer := ⟨code, (s.ctx i).edge, s⟩

/-- The disposition goes back on the link's return lane with the handle and the kind byte unchanged, and the link
becomes the last served (R25). -/
def Answer.returned (a : Answer) (link : BitVec 2) (handle : BitVec 16) (kind : BitVec 8) : State :=
  { a.state with intake := { a.state.intake with
      lanes := Table.set none a.state.intake.lanes link.toNat (some ⟨handle, kind, a.code, a.edge⟩)
      lastLink := link } }

/-- A segment refused UNKNOWN: the unmatched count rises and stays at its maximum; going from 0 to 1 it asks for
UNMATCHED when the enable is on (R45, R46). -/
def State.countUnmatched (s : State) (link : BitVec 2) (key : Key) : State :=
  let t := { s with intake := { s.intake with unmatched := min Config.unmatchedMax (s.intake.unmatched + 1) } }
  if s.intake.unmatched = 0 ∧ s.intake.unmatchedEnable = true then t.pushOrDrop (.unmatched link key.peer key.tag)
  else t

/-! ## DATA -/

/-- Offset, length and payload of a DATA segment as numbers. -/
def DataSegment.start (g : DataSegment) : Nat := g.offset.toNat
/-- The segment's end, offset plus length. -/
def DataSegment.stop (g : DataSegment) : Nat := g.offset.toNat + g.length.toNat
/-- The key a DATA segment carries. -/
def DataSegment.key (g : DataSegment) : Key := ⟨g.peer, g.tag⟩
/-- An end segment: its length is not a multiple of 4 (R26). -/
def DataSegment.isEnd (g : DataSegment) : Bool := g.length.toNat % 4 != 0

/-- The shape checks of a DATA segment after its kind (R30, checks 2 to 6). -/
def DataSegment.wellShaped (g : DataSegment) : Bool :=
  g.offset.toNat % 4 == 0 && decide (4 ≤ g.length.toNat) && decide (g.length.toNat ≤ Config.maxSegment) &&
    decide (DataSegment.stop g ≤ Config.maxOffset) && decide (g.tallyA.toNat < M) && decide (g.tallyB.toNat < M) &&
    g.payload.length == g.length.toNat

/-- The tally stage's comparison (R33, R69). -/
def DataSegment.tallyMatches (g : DataSegment) : Bool :=
  (segmentTally g.payload).a == g.tallyA.toNat && (segmentTally g.payload).b == g.tallyB.toNat

/-- The refusal of the range stage, if any (R35 for an end segment, R36 otherwise). -/
def Ctx.rangeRefusal (c : Ctx) (g : DataSegment) : Option DispositionCode :=
  if DataSegment.isEnd g then
    match c.total with
    | .absent => if DataSegment.stop g < highMark c.retired c.extents then some .malformed else none
    | .implied n => if DataSegment.stop g = n then none else some .malformed
    | .manifest n _ => if DataSegment.stop g = n then none else some .conflict
  else if c.endBound < DataSegment.stop g then some .beyondEnd else none

/-- The new ranges of a DATA segment in a context (R51). -/
def Ctx.newRangesOf (c : Ctx) (g : DataSegment) : List Extent :=
  newRanges c.retired c.extents (DataSegment.start g) (DataSegment.stop g)

/-- The piece list of a DATA segment in a context (R53). -/
def Ctx.piecesFor (c : Ctx) (g : DataSegment) : List Piece :=
  piecesOf c.w (DataSegment.start g) g.payload (c.newRangesOf g)

/-- The refusal of the staging stage, if any: quota first, then free space, then the constrained-mode test (R38, R86,
R88, R90). -/
def State.stagingRefusal (s : State) (i : Nat) (g : DataSegment) (pieces : List Piece) : Option DispositionCode :=
  let n := blocksFor g.length.toNat
  if (s.ctx i).quota < (s.ctx i).blocksHeld + n then some .quota
  else if s.staging.freeBlocks < n ∨ s.staging.freeRecords < 1 then some .stagingFull
  else if s.staging.constrained && !s.eligible i pieces then some .stagingFull
  else none

/-- Steps 1 and 2 of the commit: the new ranges into the extents, their contributions into the digest (R39). -/
def Ctx.received (c : Ctx) (ranges : List Extent) (pieces : List Piece) : Ctx :=
  { c with extents := insertExtents ranges c.extents, digest := c.digest.add (contributionSum pieces) }

/-- Step 3 of the commit: an end segment in a context with no total implies it, and the areas are trimmed (R39). -/
def State.implyTotal (s : State) (i : Nat) (g : DataSegment) : State :=
  if DataSegment.isEnd g = true ∧ (s.ctx i).total = .absent then
    (s.modCtx i fun c => { c with total := .implied (DataSegment.stop g) }).trimAreas i
  else s

/-- The commit of a DATA segment (R39). -/
def State.commit (s : State) (i : Nat) (g : DataSegment) : State :=
  let c := s.ctx i
  let pieces := c.piecesFor g
  let t := (s.modCtx i fun c => c.received (c.newRangesOf g) pieces).implyTotal i g
  (t.stage i (DataSegment.start g) g.payload pieces).revive i

/-- Trimming, extent limit, staging and commit (R37, R38, R39). -/
def State.trimStage (s : State) (i : Nat) (g : DataSegment) : Answer :=
  let c := s.ctx i
  let ranges := c.newRangesOf g
  if ranges.isEmpty then (s.revive i).answer i .duplicate
  else if Config.extentLimit < countAfter c.extents ranges then s.answer i .extentLimit
  else
    match s.stagingRefusal i g (c.piecesFor g) with
    | some code => s.answer i code
    | none => (s.commit i g).answer i .accepted

/-- The range stage and what follows it (R35, R36); a CONFLICT fails the context (R42). -/
def State.rangeStage (s : State) (i : Nat) (g : DataSegment) : Answer :=
  match (s.ctx i).rangeRefusal g with
  | some .conflict => (s.fail i .manifestConflict).answer i .conflict
  | some code => s.answer i code
  | none => s.trimStage i g

/-- The stages of a DATA segment from the context state on (R32, R33, R34). A lookup never yields a FREE or CLOSING
context (R8); such a record is answered as no context. -/
def State.dataStages (s : State) (i : Nat) (g : DataSegment) : Answer :=
  let c := s.ctx i
  match c.state with
  | .active | .stalled =>
    if DataSegment.tallyMatches g then (s.signalStage i g.signal).1.rangeStage i g
    else (s.countDamaged i).answer i .damaged
  | .done =>
    if DataSegment.stop g ≤ c.endBound then (s.modCtx i fun c => { c with damaged := 0 }).answer i .duplicate
    else s.answer i .beyondEnd
  | .failed =>
    if DataSegment.tallyMatches g then
      let t := s.signalStage i g.signal
      if t.2 then t.1.rangeStage i g else t.1.answer i .closed
    else s.answer i .closed
  | .free | .closing => (s.countUnmatched g.link (DataSegment.key g)).answer0 .unknown

/-- A DATA segment taken whole (R26, R29, R30, R31). -/
def State.takeData (s : State) (g : DataSegment) : Answer :=
  if !s.admitting then s.answer0 .notReady
  else if !DataSegment.wellShaped g then s.answer0 .malformed
  else
    match s.lookup (DataSegment.key g) with
    | none => (s.countUnmatched g.link (DataSegment.key g)).answer0 .unknown
    | some i => s.dataStages i g

/-! ## MANIFEST -/

/-- The key a MANIFEST carries. -/
def ManifestSegment.key (g : ManifestSegment) : Key := ⟨g.peer, g.tag⟩
/-- The digest a MANIFEST announces. -/
def ManifestSegment.expected (g : ManifestSegment) : Tally := ⟨g.expectedA.toNat, g.expectedB.toNat⟩

/-- The shape checks of a MANIFEST (R41). -/
def ManifestSegment.wellShaped (g : ManifestSegment) : Bool :=
  decide (1 ≤ g.total.toNat) && decide (g.total.toNat ≤ Config.maxOffset) && decide (g.expectedA.toNat < M) &&
    decide (g.expectedB.toNat < M) && g.payload.isEmpty

/-- What the comparison of a MANIFEST finds (R42): ACCEPTED, DUPLICATE or CONFLICT. -/
def Ctx.compareManifest (c : Ctx) (g : ManifestSegment) : DispositionCode :=
  match c.total with
  | .manifest n d => if n = g.total.toNat ∧ d = ManifestSegment.expected g then .duplicate else .conflict
  | .implied n =>
    if n ≠ g.total.toNat then .conflict
    else if g.total.toNat < highMark c.retired c.extents then .conflict else .accepted
  | .absent => if g.total.toNat < highMark c.retired c.extents then .conflict else .accepted

/-- The recording of a MANIFEST (R43). The areas are trimmed by the first recording of the total only (R101). -/
def State.recordManifest (s : State) (i : Nat) (g : ManifestSegment) : State :=
  let first : Bool := (s.ctx i).totalBytes.isNone
  let t := (s.modCtx i fun c => { c with total := .manifest g.total.toNat (ManifestSegment.expected g) }).revive i
  let u := if first then t.trimAreas i else t
  (u.evaluateRetirement i).completionCheck i

/-- The comparison of a MANIFEST and what follows from it (R42, R43). -/
def State.manifestStage (s : State) (i : Nat) (g : ManifestSegment) : Answer :=
  match (s.ctx i).compareManifest g with
  | .duplicate => (s.revive i).answer i .duplicate
  | .accepted => (s.recordManifest i g).answer i .accepted
  | _ => (s.fail i .manifestConflict).answer i .conflict

/-- The stages of a MANIFEST from the context state on (R41). -/
def State.manifestStages (s : State) (i : Nat) (g : ManifestSegment) : Answer :=
  match (s.ctx i).state with
  | .active | .stalled => (s.signalStage i g.signal).1.manifestStage i g
  | .failed =>
    let t := s.signalStage i g.signal
    if t.2 then t.1.manifestStage i g else t.1.answer i .closed
  | .done => s.answer i .closed
  | .free | .closing => (s.countUnmatched g.link (ManifestSegment.key g)).answer0 .unknown

/-- A MANIFEST taken whole (R27, R29, R31, R41). -/
def State.takeManifest (s : State) (g : ManifestSegment) : Answer :=
  if !s.admitting then s.answer0 .notReady
  else if !ManifestSegment.wellShaped g then s.answer0 .malformed
  else
    match s.lookup (ManifestSegment.key g) with
    | none => (s.countUnmatched g.link (ManifestSegment.key g)).answer0 .unknown
    | some i => s.manifestStages i g

/-! ## ABANDON -/

/-- The key an ABANDON carries. -/
def AbandonSegment.key (g : AbandonSegment) : Key := ⟨g.peer, g.tag⟩

/-- An ABANDON by the context's state (R44). -/
def State.abandonStages (s : State) (i : Nat) (g : AbandonSegment) : Answer :=
  match (s.ctx i).state with
  | .active | .stalled => (s.fail i .abandoned).answer i .accepted
  | .done | .failed => s.answer i .closed
  | .free | .closing => (s.countUnmatched g.link (AbandonSegment.key g)).answer0 .unknown

/-- An ABANDON taken whole (R27, R29, R31, R44). -/
def State.takeAbandon (s : State) (g : AbandonSegment) : Answer :=
  if !s.admitting then s.answer0 .notReady
  else if !g.payload.isEmpty then s.answer0 .malformed
  else
    match s.lookup (AbandonSegment.key g) with
    | none => (s.countUnmatched g.link (AbandonSegment.key g)).answer0 .unknown
    | some i => s.abandonStages i g

/-! ## A segment of unknown kind -/

/-- A segment whose kind names none of the three: MALFORMED, or NOT_READY while admission is closed (R29, R30). -/
def State.takeUnknownKind (s : State) : Answer :=
  s.answer0 (if s.admitting then .malformed else .notReady)

/-! ## Channels (R25) -/

/-- A segment taken whole: its disposition goes back on its link's lane with its kind byte. -/
def State.takeSegment (s : State) : Segment → State
  | .data g => (s.takeData g).returned g.link g.handle 1
  | .manifest g => (s.takeManifest g).returned g.link g.handle 2
  | .abandon g => (s.takeAbandon g).returned g.link g.handle 3
  | .unknownKind g => s.takeUnknownKind.returned g.link g.handle g.kind

/-- A segment is presented on its channel (R25): taken at once when intake is free and no segment waits at any channel,
and otherwise it waits at its channel. A channel that does not show ready is presented none (log 4). -/
def State.arrive (s : State) (seg : Segment) (arrival : Arrival) : State :=
  if s.channelReady seg.link then
    if arrival = .idle ∧ s.intake.channels = [] then s.takeSegment seg else s.setChannel seg.link.toNat (some seg)
  else s

/-- The channel intake serves next: the first with a segment presented, in ascending link order after the link last
served, wrapping from 3 to 0. -/
def State.nextChannel (s : State) : Option Nat :=
  firstAfter s.intake.lastLink.toNat ((List.range 4).filter fun k => (s.channel k).isSome)

/-- Intake takes the segment of the channel whose turn it is. -/
def State.serveNext (s : State) : State :=
  match s.nextChannel with
  | none => s
  | some k =>
    match s.channel k with
    | none => s
    | some seg => (s.setChannel k none).takeSegment seg

/-- DATA (R26). -/
def execData (seg : Presented DataSegment) (s : State) : Host.Outcome State Fault Refusal :=
  .next (s.arrive (.data seg.segment) seg.arrival)

/-- MANIFEST (R41). -/
def execManifest (seg : Presented ManifestSegment) (s : State) : Host.Outcome State Fault Refusal :=
  .next (s.arrive (.manifest seg.segment) seg.arrival)

/-- ABANDON (R44). -/
def execAbandon (seg : Presented AbandonSegment) (s : State) : Host.Outcome State Fault Refusal :=
  .next (s.arrive (.abandon seg.segment) seg.arrival)

/-- UNKNOWN_KIND_SEGMENT (R30). -/
def execUnknownKindSegment (seg : Presented UnknownSegment) (s : State) : Host.Outcome State Fault Refusal :=
  .next (s.arrive (.unknownKind seg.segment) seg.arrival)

end Sys2Proof.Machine
end

