-- ==== Sys2Proof/Machine/VerifySteps.lean ====
section
/-! DEFINITION. The verify engine's read returns (R165, R169) and the stall timers' expiries (R140, R141). -/

namespace Sys2Proof.Machine

open Sys2Proof (Byte ReadReturn NoticeMask Reply)

/-- A request after the bytes of its outstanding read have been taken into its sums (R165, R75): word i of the area at
absolute index nW / 4 + i; `start` is nW. The bytes are those of the read's length. -/
def VerifyRequest.takeBytes (r : VerifyRequest) (start : Nat) (data : List Byte) : VerifyRequest :=
  { r with
    bytesRead := r.bytesRead + r.nextRead
    sums := r.sums.add (tallyFrom (start / 4 + r.bytesRead / 4) (data.take r.nextRead))
    readOutstanding := false }

/-- The outcome when the last read has been taken (R165): the sums against the area's frozen window digest. -/
def State.compareSums (s : State) (r : VerifyRequest) : VerifyOutcome :=
  if r.sums = ((s.ctx r.context).area r.area).digest then .matched r.sums else .mismatch r.sums

/-- A request ends with an outcome and leaves the queue; `rest` remains (R165, R169). -/
def State.endVerify (s : State) (r : VerifyRequest) (rest : List VerifyRequest) (o : VerifyOutcome) : State :=
  ({ s with verify := rest }.verifyOutcome r o).nextVerify rest

/-- The outstanding read is the request's last. -/
def VerifyRequest.lastRead (r : VerifyRequest) : Bool := decide (r.length ≤ r.bytesRead + r.nextRead)

/-- A read of the active request returns (R165; in a soft-reset drain R169: a last read that returned OK or FAULT ends as
ever, any other return ends ABORTED with its data discarded). -/
def State.takeRead (s : State) (r : VerifyRequest) (rest : List VerifyRequest) (ret : ReadReturn) : State :=
  let returned := { r with readOutstanding := false }
  if r.aborted then s.endVerify returned rest .aborted
  else if s.resets.draining && !r.lastRead then s.endVerify returned rest .aborted
  else
    match ret with
    | .fault => s.endVerify returned rest (.readFault r.bytesRead)
    | .ok data =>
      let taken := r.takeBytes (r.window * (s.ctx r.context).w) data
      if r.lastRead then s.endVerify taken rest (s.compareSums taken) else startVerify (taken :: rest) s

/-- The return is taken when the active request has a read outstanding (R165, R169). -/
def State.takeReadReturn (s : State) (ret : ReadReturn) : State :=
  match s.verify with
  | [] => s
  | r :: rest => if r.readOutstanding then s.takeRead r rest ret else s

/-- VERIFY_READ_RETURN (R165). -/
def execVerifyReadReturn (ret : Reply ReadReturn) (s : State) : Host.Outcome State Fault Refusal :=
  .next (s.takeReply ret fun ret s => s.takeReadReturn ret)

/-! ## The stall timers -/

/-- A stall expiry (R140), taken once the stall interval has fully elapsed (R138). -/
def State.stallExpire (s : State) (i : Nat) : State :=
  if (s.ctx i).state = .active ∧ (s.ctx i).timer = .stall 0 then
    (s.modCtx i fun c =>
      { c with state := .stalled, timer := fullAbandon c.stallSelect c.abandonMultiplier }).notifyMasked i
        NoticeMask.stalled .stalled (.stalled i)
  else s

/-- STALL_EXPIRY (R140): of a timer that is not due nothing is taken (log 3). -/
def execStallExpiry (index : BitVec 12) (s : State) : Host.Outcome State Fault Refusal :=
  .next (s.whenLive fun s => s.stallExpire index.toNat)

/-- An abandon expiry (R141), taken once the abandon period has fully elapsed (R138). With abandon multiplier 0 the timer
runs toward no expiry. -/
def State.abandonExpire (s : State) (i : Nat) : State :=
  if (s.ctx i).state = .stalled ∧ (s.ctx i).timer = .abandon (some 0) then s.fail i .timedOut else s

/-- ABANDON_EXPIRY (R141): of a timer that is not due nothing is taken (log 3). -/
def execAbandonExpiry (index : BitVec 12) (s : State) : Host.Outcome State Fault Refusal :=
  .next (s.whenLive fun s => s.abandonExpire index.toNat)

/-- An expiry of the context's timer is due (R138). -/
def Ctx.expiryDue (c : Ctx) : Bool :=
  (c.state == .active && c.timer == .stall 0) || (c.state == .stalled && c.timer == .abandon (some 0))

/-- The lowest-indexed context with an expiry due. -/
def State.dueContext (s : State) : Option Nat := (Table.keys s.contexts).find? fun i => (s.ctx i).expiryDue

/-- The expiry that is due for a context. -/
def State.expire (s : State) (i : Nat) : State :=
  if (s.ctx i).state = .active then s.stallExpire i else s.abandonExpire i

/-- A stall timer after one millisecond (R138): it counts down to 0, and its expiry is then due. -/
def StallTimer.tick : StallTimer → StallTimer
  | .stopped => .stopped
  | .stall r => .stall (r - 1)
  | .abandon r => .abandon (r.map (· - 1))

/-- One millisecond with no command (log 2): every running stall timer counts down. -/
def State.tick (s : State) : State :=
  { s with contexts := s.contexts.map fun e => (e.1, { e.2 with timer := e.2.timer.tick }) }

end Sys2Proof.Machine
end

