-- ==== Sys2Proof/Machine/Dispatch.lean ====
section
/-! DEFINITION. One arm per command: a direct call of its meaning. -/

namespace Sys2Proof.Machine

def exec (i : Instr) (s : State) : Host.Outcome State Fault Refusal :=
  match i with
  | .data seg => Sys2Proof.Machine.execData seg s
  | .manifest seg => Sys2Proof.Machine.execManifest seg s
  | .abandon seg => Sys2Proof.Machine.execAbandon seg s
  | .openTransfer cmd => Sys2Proof.Machine.execOpenTransfer cmd s
  | .query cmd => Sys2Proof.Machine.execQuery cmd s
  | .snapshotWriteIssue => Sys2Proof.Machine.execSnapshotWriteIssue s
  | .snapshotWriteReport report => Sys2Proof.Machine.execSnapshotWriteReport report s
  | .adjust cmd => Sys2Proof.Machine.execAdjust cmd s
  | .refill cmd => Sys2Proof.Machine.execRefill cmd s
  | .restart cmd => Sys2Proof.Machine.execRestart cmd s
  | .reverify cmd => Sys2Proof.Machine.execReverify cmd s
  | .close cmd => Sys2Proof.Machine.execClose cmd s
  | .groupJoin cmd => Sys2Proof.Machine.execGroupJoin cmd s
  | .groupLeave cmd => Sys2Proof.Machine.execGroupLeave cmd s
  | .setAperture cmd => Sys2Proof.Machine.execSetAperture cmd s
  | .configure cmd => Sys2Proof.Machine.execConfigure cmd s
  | .badCommand cmd => Sys2Proof.Machine.execBadCommand cmd s
  | .commandFetch => Sys2Proof.Machine.execCommandFetch s
  | .commandFetchFault report => Sys2Proof.Machine.execCommandFetchFault report s
  | .writeJobGrant => Sys2Proof.Machine.execWriteJobGrant s
  | .pieceWriteIssue => Sys2Proof.Machine.execPieceWriteIssue s
  | .pieceWriteReport record piece report => Sys2Proof.Machine.execPieceWriteReport record piece report s
  | .stallExpiry index => Sys2Proof.Machine.execStallExpiry index s
  | .abandonExpiry index => Sys2Proof.Machine.execAbandonExpiry index s
  | .verifyReadReturn ret => Sys2Proof.Machine.execVerifyReadReturn ret s
  | .noticeWrite => Sys2Proof.Machine.execNoticeWrite s
  | .noticeWriteReport report => Sys2Proof.Machine.execNoticeWriteReport report s
  | .rollup => Sys2Proof.Machine.execRollup s
  | .quiesceRise => Sys2Proof.Machine.execQuiesceRise s
  | .quiesceFall => Sys2Proof.Machine.execQuiesceFall s
  | .quiesceRequest value => Sys2Proof.Machine.execQuiesceRequest value s
  | .resetAcknowledge => Sys2Proof.Machine.execResetAcknowledge s
  | .softReset => Sys2Proof.Machine.execSoftReset s
  | .drainClear => Sys2Proof.Machine.execDrainClear s
  | .fullReset cause => Sys2Proof.Machine.execFullReset cause s
  | .statusClear value => Sys2Proof.Machine.execStatusClear value s
  | .unmatchedCountRead => Sys2Proof.Machine.execUnmatchedCountRead s
  | .commandRingTailWrite value => Sys2Proof.Machine.execCommandRingTailWrite value s
  | .noticeRingConsumerWrite write => Sys2Proof.Machine.execNoticeRingConsumerWrite write s
  | .registerWrite reg => Sys2Proof.Machine.execRegisterWrite reg s
  | .unknownKindSegment seg => Sys2Proof.Machine.execUnknownKindSegment seg s
  | .resetInputRelease => Sys2Proof.Machine.execResetInputRelease s

end Sys2Proof.Machine
end

