-- ==== Sys2Proof/Machine/Step.lean ====
section
/-! DEFINITION. One step of the part: the command at the front of the queue, or what the part does with none. -/

namespace Sys2Proof.Machine

/-- What the part does with no command to take (log 2): intake serves the channel whose turn it is (R25); with no segment
waiting, an expiry that is due is taken (R138); with none due, one millisecond passes. -/
def State.idle (s : State) : State :=
  s.whenLive fun s =>
    if s.nextChannel.isSome then s.serveNext
    else
      match s.dueContext with
      | some i => s.expire i
      | none => s.tick

/-- One step: take the command at the front of the queue and run it with the queue's rest; on an empty queue the part goes
on by itself. -/
def step (s : State) : Host.Outcome State Fault Refusal :=
  match s.pending with
  | [] => .next s.idle
  | c :: rest => exec c { s with pending := rest }

/-- The state with the command a word spells at the front of its queue; unchanged where the word spells none. -/
def State.withFetchWord (s : State) (nbits w : Nat) : State :=
  match decodeTableWord nbits w with
  | some c => { s with pending := c :: s.pending }
  | none => s

end Sys2Proof.Machine
end

