-- ==== Sys2Proof/Machine/Formats.lean ====
section
/-! DEFINITION. The formats the part writes (section 11.5): dispositions, notice entries, query snapshots. -/

namespace Sys2Proof.Machine

open Sys2Proof (Byte NoticeMask)

/-! ## Codes -/

/-- Disposition codes, from 0. -/
def DispositionCode.number : DispositionCode → Nat
  | .accepted => 0
  | .duplicate => 1
  | .notReady => 2
  | .unknown => 3
  | .malformed => 4
  | .damaged => 5
  | .closed => 6
  | .beyondEnd => 7
  | .extentLimit => 8
  | .quota => 9
  | .stagingFull => 10
  | .conflict => 11

/-- Status codes, from 0. -/
def CmdStatus.number : CmdStatus → Nat
  | .ok => 0
  | .badCommand => 1
  | .badParam => 2
  | .badAddress => 3
  | .noContext => 4
  | .keyExists => 5
  | .keyCollision => 6
  | .tableFull => 7
  | .wrongState => 8
  | .areaBusy => 9
  | .areaFaulted => 10
  | .groupFull => 11
  | .verifyBusy => 12
  | .apertureInUse => 13

/-- Cause codes, from 1. -/
def FailCause.number : FailCause → Nat
  | .digestMismatch => 1
  | .manifestConflict => 2
  | .deliveryFault => 3
  | .abandoned => 4
  | .timedOut => 5
  | .damageLimit => 6

/-- Outcome codes, from 1. -/
def VerifyOutcome.number : VerifyOutcome → Nat
  | .matched _ => 1
  | .mismatch _ => 2
  | .readFault _ => 3
  | .aborted => 4

/-- Kind codes of the context notices. -/
def OwedKind.number : OwedKind → Nat
  | .windowFilled => 2
  | .halfFilled => 3
  | .transferDone => 4
  | .transferFailed => 5
  | .stalled => 6
  | .resumed => 7
  | .senderSignal => 8
  | .restarted => 9
  | .groupDone => 10
  | .groupFailed => 11
  | .verifyResult => 12

/-- An owed set as coded in ROLLUP and the snapshot: bit n set for kind code n. -/
def owedBits (owed : List OwedKind) : Nat :=
  ((owedKinds.filter fun k => owed.contains k).map fun k => 2 ^ k.number).sum

/-- Kind codes of notices. -/
def Notice.number : Notice → Nat
  | .cmdResult .. => 1
  | .windowFilled .. => 2
  | .halfFilled .. => 3
  | .transferDone .. => 4
  | .transferFailed .. => 5
  | .stalled .. => 6
  | .resumed .. => 7
  | .senderSignal .. => 8
  | .restarted .. => 9
  | .groupDone .. => 10
  | .groupFailed .. => 11
  | .verifyResult .. => 12
  | .unmatched .. => 13
  | .rollup .. => 14

/-- The context index a notice carries, 0 for UNMATCHED. -/
def Notice.charged : Notice → Nat
  | .cmdResult i .. => i
  | .windowFilled i .. => i
  | .halfFilled i .. => i
  | .transferDone i .. => i
  | .transferFailed i _ => i
  | .stalled i => i
  | .resumed i => i
  | .senderSignal i => i
  | .restarted i _ => i
  | .groupDone i .. => i
  | .groupFailed i .. => i
  | .verifyResult i .. => i
  | .unmatched .. => 0
  | .rollup i _ => i

/-! ## Entries as fields at byte offsets -/

/-- A field of an entry: byte offset, length in bytes, value. -/
structure EntryField where
  at_ : Nat
  size : Nat
  value : Nat

/-- The byte of an entry at a position: of the field that names the position, or `fill` where none does. -/
def entryByte (fill : Nat → Byte) (fields : List EntryField) (k : Nat) : Byte :=
  match fields.find? fun f => decide (f.at_ ≤ k) && decide (k < f.at_ + f.size) with
  | some f => BitVec.ofNat 8 (f.value / 256 ^ (k - f.at_))
  | none => fill k

/-- An entry of `n` bytes. -/
def entryBytes (n : Nat) (fill : Nat → Byte) (fields : List EntryField) : List Byte :=
  (List.range n).map (entryByte fill fields)

/-- The 12 bytes of a disposition. -/
def Disposition.bytes (d : Disposition) : List Byte :=
  entryBytes 12 (fun _ => 0) [⟨0, 2, d.handle.toNat⟩, ⟨2, 1, d.kind.toNat⟩, ⟨3, 1, d.code.number⟩, ⟨4, 8, d.edge⟩]

/-- The fields of an outcome after its code: A and B, or the faulting area offset, or none (R165). -/
def VerifyOutcome.fields : VerifyOutcome → List EntryField
  | .matched d => [⟨16, 4, d.a⟩, ⟨20, 4, d.b⟩]
  | .mismatch d => [⟨16, 4, d.a⟩, ⟨20, 4, d.b⟩]
  | .readFault offset => [⟨16, 4, offset⟩]
  | .aborted => []

/-- The fields of a notice beyond its kind code and index. -/
def Notice.further : Notice → List EntryField
  | .cmdResult _ hostTag code status => [⟨4, 2, hostTag.toNat⟩, ⟨6, 1, code.toNat⟩, ⟨7, 1, status.number⟩]
  | .windowFilled _ area window bytes d => [⟨4, 1, area⟩, ⟨8, 8, window⟩, ⟨16, 4, bytes⟩, ⟨20, 4, d.a⟩, ⟨24, 4, d.b⟩]
  | .halfFilled _ area window delivered => [⟨4, 1, area⟩, ⟨8, 8, window⟩, ⟨16, 4, delivered⟩]
  | .transferDone _ total d => [⟨8, 8, total⟩, ⟨20, 4, d.a⟩, ⟨24, 4, d.b⟩]
  | .transferFailed _ cause => [⟨4, 1, cause.number⟩]
  | .stalled _ => []
  | .resumed _ => []
  | .senderSignal _ => []
  | .restarted _ generation => [⟨4, 1, generation.toNat⟩]
  | .groupDone _ group members => [⟨4, 1, group⟩, ⟨5, 1, members⟩]
  | .groupFailed _ group cause member => [⟨4, 1, group⟩, ⟨5, 1, cause.number⟩, ⟨6, 2, member⟩]
  | .verifyResult _ area window o => [⟨4, 1, area⟩, ⟨5, 1, o.number⟩, ⟨8, 8, window⟩] ++ o.fields
  | .unmatched link peer tag => [⟨4, 1, link.toNat⟩, ⟨5, 1, peer.toNat⟩, ⟨8, 4, tag.toNat⟩]
  | .rollup _ owed => [⟨4, 2, owedBits owed⟩]

/-- The 32 bytes of a notice entry; a byte the section does not name is a free value (log 16). -/
def Notice.bytes (n : Notice) : List Byte :=
  entryBytes 32 Config.unnamedNoticeByte ([⟨0, 1, n.number⟩, ⟨2, 2, n.charged⟩] ++ n.further)

/-! ## The query snapshot -/

/-- State codes of a snapshot; it shows no other state (R15). -/
def CtxState.number : CtxState → Nat
  | .free => 0
  | .active => 1
  | .stalled => 2
  | .done => 3
  | .failed => 4
  | .closing => 5

/-- Flags as a byte, the first bit 0. -/
def flagBits : List Bool → Nat
  | [] => 0
  | b :: bs => b.toNat + 2 * flagBits bs

/-- A notice mask as its byte: bits 0 to 4. -/
def maskByte (m : NoticeMask) : Nat := flagBits [m.halfFilled, m.stalled, m.resumed, m.senderSignal, m.restarted]

/-- The source of a total: 0 absent, 1 IMPLIED, 2 MANIFEST. -/
def Total.source : Total → Nat
  | .absent => 0
  | .implied _ => 1
  | .manifest _ _ => 2

/-- The phase of a stall timer. -/
def StallTimer.phase : StallTimer → Nat
  | .stopped => 0
  | .stall _ => 1
  | .abandon _ => 2

/-- The remaining time a snapshot shows: all ones when STOPPED or running toward no expiry. -/
def StallTimer.shown : StallTimer → Nat
  | .stall r => r
  | .abandon (some r) => r
  | .stopped | .abandon none => 0xFFFFFFFF

/-- Area state codes. -/
def AreaState.number : AreaState → Nat
  | .idle => 0
  | .ready => 1
  | .filled => 2

/-- Verify status codes. -/
def VerifyStatus.number : VerifyStatus → Nat
  | .none => 0
  | .queued => 1
  | .active => 2
  | .matched => 3
  | .mismatch => 4
  | .readFault => 5
  | .aborted => 6

/-- The fields of an area, its 32 bytes starting at an offset. -/
def Area.fields (o : Nat) (a : Area) : List EntryField :=
  [ ⟨o, 8, a.base⟩, ⟨o + 8, 1, a.state.number⟩, ⟨o + 9, 1, flagBits [a.halfSent, a.faulted]⟩,
    ⟨o + 10, 1, a.verify.number⟩, ⟨o + 12, 4, a.delivered⟩, ⟨o + 16, 8, a.window.getD 0⟩, ⟨o + 24, 4, a.digest.a⟩,
    ⟨o + 28, 4, a.digest.b⟩ ]

/-- The extent slots from slot `k`: start word index in 5 bytes, end offset in 6. -/
def extentFields : Nat → List Extent → List EntryField
  | _, [] => []
  | k, e :: es => ⟨160 + 12 * k, 5, e.start / 4⟩ :: ⟨160 + 12 * k + 5, 6, e.stop⟩ :: extentFields (k + 1) es

/-- The fields a snapshot shows of the group: absent, the number reads 0xFFFF and the others 0. -/
def groupFields : Option GroupView → List EntryField
  | none => [⟨60, 2, 0xFFFF⟩]
  | some g =>
    [ ⟨60, 2, g.number⟩, ⟨74, 2, g.leader⟩, ⟨76, 1, g.members⟩, ⟨77, 1, g.done⟩, ⟨78, 1, g.failed⟩, ⟨79, 1, g.place⟩,
      ⟨80, 1, g.holdOnFailure.toNat⟩ ]

/-- The fields of a snapshot. -/
def Snapshot.fields (n : Snapshot) : List EntryField :=
  let c := n.record
  let expected := c.expected.getD Tally.zero
  [ ⟨0, 2, n.index⟩, ⟨2, 1, c.state.number⟩, ⟨3, 1, (c.key.map fun k => k.peer.toNat).getD 0⟩,
    ⟨4, 4, (c.key.map fun k => k.tag.toNat).getD 0⟩, ⟨8, 2, n.bucket⟩, ⟨10, 1, n.position⟩, ⟨11, 1, c.priority.toNat⟩,
    ⟨12, 1, maskByte c.mask⟩, ⟨13, 1, flagBits [c.exclusive, c.hostHold, n.effHold, c.fence, c.signal]⟩,
    ⟨14, 1, c.stallSelect.toNat⟩, ⟨15, 1, c.abandonMultiplier.toNat⟩, ⟨16, 1, c.damageLimit.toNat⟩,
    ⟨17, 1, c.windowSelect.toNat⟩, ⟨18, 2, c.quota⟩, ⟨20, 1, n.effPriority.toNat⟩, ⟨21, 1, c.total.source⟩,
    ⟨22, 1, c.generation.toNat⟩, ⟨23, 1, c.damaged⟩, ⟨24, 8, c.totalBytes.getD 0⟩, ⟨32, 4, expected.a⟩,
    ⟨36, 4, expected.b⟩, ⟨40, 4, c.digest.a⟩, ⟨44, 4, c.digest.b⟩, ⟨48, 8, c.retired⟩, ⟨56, 1, c.extents.length⟩,
    ⟨57, 1, c.timer.phase⟩, ⟨58, 1, (c.cause.map FailCause.number).getD 0⟩, ⟨62, 2, owedBits c.owed⟩,
    ⟨64, 4, c.timer.shown⟩, ⟨68, 2, n.stagedCount⟩, ⟨70, 2, c.blocksHeld⟩, ⟨72, 1, c.current⟩, ⟨73, 1, c.older⟩ ] ++
    groupFields n.group ++ c.area0.fields 96 ++ c.area1.fields 128 ++ extentFields 0 c.extents

/-- The 512 bytes of a snapshot; bytes not named are written 0. -/
def Snapshot.bytes (n : Snapshot) : List Byte := entryBytes Config.snapshotBytes (fun _ => 0) n.fields

end Sys2Proof.Machine
end

