-- ==== Sys2Proof/Safety.lean ====
section
/-! DEFINITION. What counts as a safe state of the part, in the terms the statements use: the canonical forms of its
tables, and the relations the rules say hold between the parts of its state. -/

namespace Sys2Proof.Machine

/-- Every table and the staging memory in canonical form, so that equal contents are equal data; a segment waits at the
channel of its own link (R25). -/
structure CanonicalForm (s : State) : Prop where
  lanes : Table.wf none s.intake.lanes
  channels : Table.wf none s.intake.channels
  linked : ∀ k seg, s.channel k = some seg → seg.link.toNat = k
  map : Table.wf [] s.map
  contexts : Table.wf Ctx.free s.contexts
  groups : Table.wf Group.unused s.groups
  pointers : Table.wf pointerReset s.delivery.pointers
  apertures : Table.wf Aperture.off s.delivery.apertures
  pool : Table.sorted s.staging.pool
  jobs : Table.sorted s.delivery.jobs
  payload : memoryWf s.staging.payload

/-- The notice queue within its 64 entries, the reserved one counted, and the reservation exactly while a command is
being fetched or executed (R174); a QUERY in execution exactly while the port holds its snapshot write (R16); a notice
write handed to the port is the oldest notice of the queue (R177). -/
structure NoticeSafe (s : State) : Prop where
  bounded : s.notice.occupied ≤ Config.noticeLimit
  reserved : s.notice.reserved = (s.command.fetch.isSome || s.command.executing.isSome)
  oneCommand : s.command.fetch.isSome = true → s.command.executing = none
  snapshot : s.command.executing.isSome = !s.delivery.snapshotPort.isIdle
  oldest : ∀ w, s.delivery.noticePort = .waiting w ∨ s.delivery.noticePort = .issued w →
    s.notice.queue.head? = some w.notice

/-- The conservation laws of staging (R79), with the pool in order; and constrained mode as R89 leaves it between the two
thresholds: on below 512 free blocks, off at 1024 or more. -/
structure StagingConserved (s : State) : Prop where
  sorted : Table.sorted s.staging.pool
  blocks : s.staging.freeBlocks + blocksIn s.staging.pool = Config.blockCount
  records : s.staging.freeRecords + s.staging.pool.length = Config.recordCount
  mode : (s.staging.freeBlocks < 512 → s.staging.constrained = true) ∧
    (s.staging.constrained = true → s.staging.freeBlocks < 1024)

/-- The device-wide in-flight count is the number of write jobs and at most 16 (R117); the jobs are those of the WRITING
records, of the same context (R116). -/
structure DeliverySafe (s : State) : Prop where
  pool : Table.sorted s.staging.pool
  jobs : Table.sorted s.delivery.jobs
  count : s.delivery.inFlight = s.delivery.jobs.length
  limit : s.delivery.inFlight ≤ Config.maxInFlight
  writing : ∀ r, (s.job r).isSome = true ↔ ∃ rec, s.staged r = some rec ∧ rec.state = .writing
  owner : ∀ r j rec, s.job r = some j → s.staged r = some rec → j.owner = rec.owner

/-- A context has its key in the lookup map exactly when it is ACTIVE, STALLED, DONE or FAILED, no key stands in the map
twice, and a bucket holds at most 4 entries (R8). -/
structure MapSafe (s : State) : Prop where
  found : ∀ i, (s.ctx i).isOpen = true → ∃ k, (s.ctx i).key = some k ∧ ⟨k, i⟩ ∈ s.bucket (bucketOf k)
  entry : ∀ b e, e ∈ s.bucket b → b = bucketOf e.key ∧ (s.ctx e.index).isOpen = true ∧ (s.ctx e.index).key = some e.key
  once : ∀ b, ((s.bucket b).map MapEntry.key).Nodup
  limit : ∀ b, (s.bucket b).length ≤ Config.bucketEntries

/-- A group's counts are the numbers of its members in DONE and in FAILED, its members are listed once and at most 16,
a context's group field names the group whose list holds it, and a member is ACTIVE, STALLED, DONE or FAILED (R150). -/
structure GroupSafe (s : State) : Prop where
  done : ∀ g, (s.group g).done = ((s.group g).members.filter fun i => (s.ctx i).state == .done).length
  failed : ∀ g, (s.group g).failed = ((s.group g).members.filter fun i => (s.ctx i).state == .failed).length
  once : ∀ g, (s.group g).members.Nodup
  limit : ∀ g, (s.group g).members.length ≤ Config.groupLimit
  field : ∀ i g, (s.ctx i).group = some g ↔ i ∈ (s.group g).members
  open_ : ∀ g, ∀ i ∈ (s.group g).members, (s.ctx i).isOpen = true

/-- While RESET_PENDING is shown or a full reset is in progress, the part holds no context, no key, no staged record, no
job, no group, no verify request, no notice and no command, and nothing is outstanding (R1, R95, R169, R180 to R183);
while a full reset is in progress no segment stands at a channel (R25). -/
structure QuietInReset (s : State) : Prop where
  indications : ¬ (s.resets.pending = true ∧ s.resets.draining = true)
  during : s.resets.held = true →
    s.resets.pending = false ∧ s.resets.draining = false ∧ s.intake.channels = []
  quiet : s.resets.pending = true ∨ s.resets.held = true →
    s.contexts = [] ∧ s.map = [] ∧ s.staging.pool = [] ∧ s.delivery.jobs = [] ∧ s.delivery.issueOrder = [] ∧
    s.delivery.inFlight = 0 ∧ s.groups = [] ∧ s.verify = [] ∧ s.notice.queue = [] ∧ s.notice.reserved = false ∧
    s.command.fetch = none ∧ s.command.executing = none ∧ s.delivery.snapshotPort = .idle ∧
    s.delivery.noticePort = .idle

/-- A verify queue of at most 8 requests, of which only the active one has a read outstanding (R161). -/
structure VerifySafe (s : State) : Prop where
  limit : s.verify.length ≤ Config.verifyLimit
  oneRead : ∀ r ∈ s.verify.tail, r.readOutstanding = false

/-- The two counts of a context are the numbers of its WRITING jobs with the older mark off and on, its fence is on
exactly while the second is above 0 (R117); a FREE record has no job and no staged record (R1); the staged list of a
context holds that context's records, each once, every record in use stands in its owner's list, and the blocks held are
the blocks of the records listed (R82). -/
structure CountsSafe (s : State) : Prop where
  current : ∀ i, (s.ctx i).current = (s.delivery.jobs.filter fun e => e.2.owner == i && !e.2.older).length
  older : ∀ i, (s.ctx i).older = (s.delivery.jobs.filter fun e => e.2.owner == i && e.2.older).length
  fence : ∀ i, (s.ctx i).fence = decide (0 < (s.ctx i).older)
  unused : ∀ i, (s.ctx i).state = .free → (s.ctx i).current = 0 ∧ (s.ctx i).older = 0 ∧ (s.ctx i).staged = []
  listed : ∀ i, ∀ r ∈ (s.ctx i).staged, ∃ rec, s.staged r = some rec ∧ rec.owner = i
  once : ∀ i, (s.ctx i).staged.Nodup
  every : ∀ r rec, s.staged r = some rec → r ∈ (s.ctx rec.owner).staged
  blocks : ∀ i, (s.ctx i).blocksHeld = ((s.ctx i).staged.map fun r =>
    match s.staged r with
    | some rec => rec.blocks.length
    | none => 0).sum

/-- Ranges in start order, none empty, pairwise disjoint and not adjacent (R48). -/
def Ordered (l : List Extent) : Prop :=
  (∀ e ∈ l, e.start < e.stop) ∧ l.Pairwise fun a b => a.stop < b.start

/-- A byte offset lies in some range of a list. -/
def Covered (l : List Extent) (x : Nat) : Prop := ∃ e ∈ l, e.start ≤ x ∧ x < e.stop

/-- Every extent list holds at most 24 ranges, ordered, disjoint and non-adjacent, within [retired edge, end bound)
(R48); every retired edge is a multiple of its window size or equals its total, and is within the end bound (R47); an area
holds a window exactly when it is not IDLE, and that window has the area's parity (R98, R99). -/
structure ExtentsSafe (s : State) : Prop where
  limit : ∀ i, (s.ctx i).extents.length ≤ Config.extentLimit
  ordered : ∀ i, Ordered (s.ctx i).extents
  within : ∀ i, ∀ e ∈ (s.ctx i).extents, (s.ctx i).retired ≤ e.start ∧ e.stop ≤ (s.ctx i).endBound
  edge : ∀ i, (s.ctx i).retired % (s.ctx i).w = 0 ∨ (s.ctx i).totalBytes = some (s.ctx i).retired
  bound : ∀ i, (s.ctx i).retired ≤ (s.ctx i).endBound
  holds : ∀ i p, ((s.ctx i).area p).state = .idle ↔ ((s.ctx i).area p).window = none
  parity : ∀ i p n, ((s.ctx i).area p).window = some n → n % 2 = p % 2

/-! ## What the statements say of commands -/

/-- A host command can be taken: the part is in no full reset and no drain, and a fetch read is outstanding (R171). -/
def Fetched (s : State) : Prop :=
  s.resets.held = false ∧ s.resets.draining = false ∧ s.command.fetch.isSome = true

/-- Segments are admitted: no full reset is in progress, and neither RESET_PENDING nor the drain is shown (R29). -/
def Admitting (s : State) : Prop :=
  s.resets.held = false ∧ s.resets.pending = false ∧ s.resets.draining = false

/-- Intake takes a segment that is presented: admission is open (R29), and no segment waits at a channel (R25). -/
def Taking (s : State) : Prop := Admitting s ∧ s.intake.channels = []

/-- The state a host command leaves whose one effect is its CMD_RESULT: the head has advanced and the result stands in the
reserved entry at the end of the queue (R171, R172, R174). -/
def State.ended (s : State) (hostTag : BitVec 16) (code : BitVec 8) (status : CmdStatus) (index : Nat) : State :=
  { s with
    command := { s.command with fetch := none, head := (s.command.head + 1) % s.command.size }
    notice := { s.notice with
      reserved := false, queue := s.notice.queue ++ [Notice.cmdResult index hostTag code status] } }

/-- The last notice queued is the command's CMD_RESULT with status OK (R172). -/
def EndsOk (t : State) (hostTag : BitVec 16) (code : BitVec 8) (index : Nat) : Prop :=
  t.notice.queue.getLast? = some (.cmdResult index hostTag code .ok) ∧ t.notice.reserved = false

/-- Tag, kind code and index of a command that names a context by index (R7). -/
def namedIndex : Sys2Proof.Instr → Option (BitVec 16 × BitVec 8 × BitVec 16)
  | .query cmd => if cmd.value.selector = 0 then some (cmd.value.hostTag, 2, cmd.value.index) else none
  | .adjust cmd => some (cmd.value.hostTag, 3, cmd.value.index)
  | .refill cmd => some (cmd.value.hostTag, 4, cmd.value.index)
  | .restart cmd => some (cmd.value.hostTag, 5, cmd.value.index)
  | .reverify cmd => some (cmd.value.hostTag, 6, cmd.value.index)
  | .close cmd => some (cmd.value.hostTag, 7, cmd.value.index)
  | .groupJoin cmd => some (cmd.value.hostTag, 8, cmd.value.index)
  | .groupLeave cmd => some (cmd.value.hostTag, 9, cmd.value.index)
  | _ => none

/-- How many full resets had been taken when the read or write was issued that a command answers; none for a command that
does more than answer one (R94, R131, R169, R181; log 22). -/
def issuedAt : Sys2Proof.Instr → Option Nat
  | .openTransfer cmd => some cmd.issued
  | .query cmd => some cmd.issued
  | .adjust cmd => some cmd.issued
  | .refill cmd => some cmd.issued
  | .restart cmd | .close cmd | .groupLeave cmd => some cmd.issued
  | .reverify cmd => some cmd.issued
  | .groupJoin cmd => some cmd.issued
  | .setAperture cmd => some cmd.issued
  | .configure cmd => some cmd.issued
  | .badCommand cmd => some cmd.issued
  | .commandFetchFault report | .snapshotWriteReport report | .noticeWriteReport report => some report.issued
  | .pieceWriteReport _ _ report => some report.issued
  | .verifyReadReturn ret => some ret.issued
  | _ => none

/-- The state a segment leaves that changed nothing but its link's return lane and the last link served (R25). -/
def State.answered (s : State) (link : BitVec 2) (handle : BitVec 16) (kind : BitVec 8) (code : DispositionCode)
    (edge : Nat) : State :=
  { s with intake := { s.intake with
      lanes := Table.set none s.intake.lanes link.toNat (some ⟨handle, kind, code, edge⟩), lastLink := link } }

/-- The settings that only host commands and resets change, and the reset indications. -/
structure HostSettings where
  actions : Sys2Proof.ActionSet
  unmatchedEnable : Bool
  apertures : Table Aperture
  quiesceLine : Bool
  quiesceRequest : Bool
  commandBase : Nat
  commandSize : Nat
  commandTail : Nat
  commandHead : Nat
  noticeBase : Nat
  noticeSize : Nat
  consumer : Nat
  resets : ResetUnit
  deriving DecidableEq, Repr

/-- The host settings of a state. -/
def State.hostSettings (s : State) : HostSettings :=
  { actions := s.actions, unmatchedEnable := s.intake.unmatchedEnable, apertures := s.delivery.apertures,
    quiesceLine := s.delivery.quiesceLine, quiesceRequest := s.delivery.quiesceRequest, commandBase := s.command.base,
    commandSize := s.command.size, commandTail := s.command.tail, commandHead := s.command.head,
    noticeBase := s.notice.base, noticeSize := s.notice.size, consumer := s.notice.consumer, resets := s.resets }

/-! ### Notices -/

/-- A notice charged to context `i` is in the queue, or its kind in what `i` is owed (R174, R175). -/
def Charged (t : State) (i : Nat) (k : OwedKind) (n : Notice) : Prop := n ∈ t.notice.queue ∨ k ∈ (t.ctx i).owed

/-- Between two states one notice charged to `i` went out: into the queue when that was not full and nothing was owed, and
else into what `i` is owed, with overflow shown (R174, R175). -/
def NoticeGiven (s t : State) (i : Nat) (k : OwedKind) (n : Notice) : Prop :=
  if s.notice.full = false ∧ (s.ctx i).owed = [] then
    t.notice = { s.notice with queue := s.notice.queue ++ [n] } ∧ (t.ctx i).owed = []
  else t.notice = { s.notice with overflow := true } ∧ ∀ x, x ∈ (t.ctx i).owed ↔ x = k ∨ x ∈ (s.ctx i).owed

/-- Between two states no notice went out and `i` is owed what it was. -/
def NoNotice (s t : State) (i : Nat) : Prop := t.notice = s.notice ∧ (t.ctx i).owed = (s.ctx i).owed

/-! ### Records judged again -/

/-- The state R83 gives a record that is not WRITING. -/
def State.fitState (t : State) (rec : StagedRecord) : RecordState :=
  if (∀ p ∈ rec.pieces, ((t.ctx rec.owner).area p.window).state = .ready ∧
      ((t.ctx rec.owner).area p.window).window = some p.window) ∧
      t.effHold rec.owner = false ∧ (t.ctx rec.owner).fence = false then .eligible
  else .parked

/-- A record after those not WRITING of the contexts picked took the state R83 gives them (R84). -/
def State.judgedAgain (t : State) (pick : Nat → Bool) (rec : StagedRecord) : StagedRecord :=
  if rec.state ≠ .writing ∧ pick rec.owner = true then { rec with state := t.fitState rec } else rec

/-- The effective hold of a context is not the same in two states. -/
def State.holdChanged (s t : State) (i : Nat) : Bool := t.effHold i != s.effHold i

/-- Between two states the records of the contexts picked were judged again, and no record came, went or changed
otherwise (R84). -/
def Rejudged (s t : State) (pick : Nat → Bool) : Prop := ∀ r, t.staged r = (s.staged r).map (t.judgedAgain pick)

/-- Between two states the records of every other context than `i` were judged again where its effective hold changed,
and did not change otherwise (R134). -/
def OthersRejudged (s t : State) (i : Nat) : Prop :=
  ∀ r rec, s.staged r = some rec → rec.owner ≠ i → t.staged r = some (t.judgedAgain (s.holdChanged t) rec)

/-- Between two states blocks were released: constrained mode is as R89 sets it from the free blocks left. -/
def ModeSet (s t : State) : Prop :=
  t.staging.constrained = decide (t.staging.freeBlocks < if s.staging.constrained then 1024 else 512)

/-! ### Failure, completion, restart -/

/-- Context `i` failed with a cause between two states (R143): cause, state and timer; its unwritten records are freed;
TRANSFER_FAILED is queued, or owed; and its group counts it, with GROUP_FAILED queued, or owed to the leader, and the
failure hold where it applies, when it is the first (R156, R158). -/
structure Failed (s t : State) (i : Nat) (cause : FailCause) : Prop where
  failed : (t.ctx i).state = .failed
  recorded : (t.ctx i).cause = some cause
  stopped : (t.ctx i).timer = .stopped
  freed : ∀ r rec, s.staged r = some rec → rec.owner = i → rec.state ≠ .writing → t.staged r = none
  told : Charged t i .transferFailed (.transferFailed i cause)
  counted : ∀ g, (s.ctx i).group = some g → t.group g = { s.group g with failed := (s.group g).failed + 1 }
  first : ∀ g, (s.ctx i).group = some g → (s.group g).failed = 0 →
    Charged t ((s.group g).members.headD 0) .groupFailed (.groupFailed ((s.group g).members.headD 0) g cause i)
  later : ∀ g, (s.ctx i).group = some g → (s.group g).failed ≠ 0 →
    ∀ leader h why member, Notice.groupFailed leader h why member ∈ t.notice.queue →
      Notice.groupFailed leader h why member ∈ s.notice.queue
  held : ∀ g j, (s.ctx i).group = some g → (s.group g).holdOnFailure = true → (s.ctx j).group = some g →
    (s.ctx j).exclusive = false → t.effHold j = true
  otherGroups : ∀ h, (s.ctx i).group ≠ some h → t.group h = s.group h
  others : OthersRejudged s t i
  mode : ModeSet s t

/-- Context `i` entered FAILED with a cause between two states, nothing else of it having changed before (R143): its
WRITING records are kept, TRANSFER_FAILED is queued when there is room and nothing is owed, and what R143 lists as left
stays. -/
structure EnteredFailed (s t : State) (i : Nat) (cause : FailCause) : Prop extends Failed s t i cause where
  kept : ∀ r rec, s.staged r = some rec → rec.owner = i → rec.state = .writing → t.staged r = some rec
  queued : s.notice.full = false → (s.ctx i).owed = [] → Notice.transferFailed i cause ∈ t.notice.queue
  owed : s.notice.full = true ∨ (s.ctx i).owed ≠ [] → OwedKind.transferFailed ∈ (t.ctx i).owed
  keyKept : (t.ctx i).key = (s.ctx i).key
  settings : (t.ctx i).priority = (s.ctx i).priority ∧ (t.ctx i).mask = (s.ctx i).mask ∧
    (t.ctx i).exclusive = (s.ctx i).exclusive ∧ (t.ctx i).hostHold = (s.ctx i).hostHold ∧
    (t.ctx i).stallSelect = (s.ctx i).stallSelect ∧ (t.ctx i).abandonMultiplier = (s.ctx i).abandonMultiplier ∧
    (t.ctx i).damageLimit = (s.ctx i).damageLimit ∧ (t.ctx i).quota = (s.ctx i).quota ∧
    (t.ctx i).windowSelect = (s.ctx i).windowSelect
  progress : (t.ctx i).total = (s.ctx i).total ∧ (t.ctx i).digest = (s.ctx i).digest ∧
    (t.ctx i).retired = (s.ctx i).retired ∧ (t.ctx i).extents = (s.ctx i).extents
  areas : (t.ctx i).area0 = (s.ctx i).area0 ∧ (t.ctx i).area1 = (s.ctx i).area1 ∧ t.verify = s.verify
  delivery : (t.ctx i).generation = (s.ctx i).generation ∧ (t.ctx i).fence = (s.ctx i).fence ∧
    (t.ctx i).signal = (s.ctx i).signal ∧ (t.ctx i).group = (s.ctx i).group

/-- Context `i` entered DONE between two states (R23): the manifest's total is reached with the expected digest,
TRANSFER_DONE is queued, or owed; and its group counts it, with GROUP_DONE queued, or owed to the leader, when it is the
last member to be DONE, and with none otherwise (R156, R157). -/
structure Completed (s t : State) (i : Nat) : Prop where
  done : (t.ctx i).state = .done
  stopped : (t.ctx i).timer = .stopped
  whole : ∃ n, (t.ctx i).total = .manifest n (t.ctx i).digest ∧ (t.ctx i).retired = n ∧
    Charged t i .transferDone (.transferDone i n (t.ctx i).digest)
  counted : ∀ g, (s.ctx i).group = some g → t.group g = { s.group g with done := (s.group g).done + 1 }
  last : ∀ g, (s.ctx i).group = some g → (s.group g).done + 1 = (s.group g).members.length →
    Charged t ((s.group g).members.headD 0) .groupDone
      (.groupDone ((s.group g).members.headD 0) g (s.group g).members.length)
  notLast : (∀ g, (s.ctx i).group = some g → (s.group g).done + 1 ≠ (s.group g).members.length) →
    ∀ leader h n, Notice.groupDone leader h n ∈ t.notice.queue → Notice.groupDone leader h n ∈ s.notice.queue
  otherGroups : ∀ h, (s.ctx i).group ≠ some h → t.group h = s.group h

/-- The window a restart leaves area 1: none when a manifest's total is at most W (R100). -/
def Ctx.secondWindow (c : Ctx) : Option Nat :=
  match c.total with
  | .manifest n _ => if n ≤ windowSize c.windowSelect then none else some 1
  | .absent | .implied _ => some 1

/-- An area on its base as a restart leaves it, READY with a window or IDLE with none, but for its verify status (R100). -/
def Area.fresh (base : Nat) (window : Option Nat) (status : VerifyStatus) : Area :=
  { base := base, state := if window.isSome then .ready else .idle, window := window, delivered := 0, digest := ⟨0, 0⟩,
    halfSent := false, faulted := false, verify := status }

/-- Context `i` was restarted between two states (R146), for a context of which no area is faulted; a verify request a
restart aborted before is left as log 14 says. -/
structure Restarted (s t : State) (i : Nat) : Prop where
  active : (t.ctx i).state = .active ∧ (t.ctx i).timer = .stall (stallInterval (s.ctx i).stallSelect) ∧
    (t.ctx i).cause = none ∧ (t.ctx i).damaged = 0
  generation : (t.ctx i).generation = (s.ctx i).generation + 1
  progress : (t.ctx i).retired = 0 ∧ (t.ctx i).extents = [] ∧ (t.ctx i).digest = ⟨0, 0⟩
  total : (t.ctx i).total = match (s.ctx i).total with
    | .manifest n d => .manifest n d
    | .absent | .implied _ => .absent
  jobs : (t.ctx i).current = 0 ∧ (t.ctx i).older = (s.ctx i).older + (s.ctx i).current ∧
    (t.ctx i).fence = decide (0 < (s.ctx i).older + (s.ctx i).current)
  older : ∀ r j, s.job r = some j → t.job r = some (if j.owner = i then { j with older := true } else j)
  area0 : (t.ctx i).area0 = Area.fresh (s.ctx i).area0.base (some 0) (t.ctx i).area0.verify
  area1 : (t.ctx i).area1 = Area.fresh (s.ctx i).area1.base (s.ctx i).secondWindow (t.ctx i).area1.verify
  unverified : ∀ p, p < 2 → ((s.ctx i).area p).verify ≠ .queued → ((s.ctx i).area p).verify ≠ .active →
    ((t.ctx i).area p).verify = .none
  queuedAborted : ∀ q ∈ s.verify.tail, q.context = i →
    Charged t i .verifyResult (.verifyResult i q.area q.window .aborted) ∧
      (q.aborted = false → ((s.ctx i).area q.area).verify = .queued → ((t.ctx i).area q.area).verify = .aborted)
  activeMarked : ∀ a rest, s.verify = a :: rest → a.context = i → a.readOutstanding = true →
    t.verify = { a with aborted := true, byClose := a.aborted && a.byClose } :: rest.filter (fun q => q.context != i) ∧
      (a.aborted = false → ((s.ctx i).area a.area).verify = .active → ((t.ctx i).area a.area).verify = .aborted)
  activeOther : ∀ a rest, s.verify = a :: rest → a.context ≠ i →
    t.verify = a :: rest.filter (fun q => q.context != i)
  settings : (t.ctx i).key = (s.ctx i).key ∧ (t.ctx i).priority = (s.ctx i).priority ∧
    (t.ctx i).mask = (s.ctx i).mask ∧ (t.ctx i).exclusive = (s.ctx i).exclusive ∧
    (t.ctx i).hostHold = (s.ctx i).hostHold ∧ (t.ctx i).stallSelect = (s.ctx i).stallSelect ∧
    (t.ctx i).abandonMultiplier = (s.ctx i).abandonMultiplier ∧ (t.ctx i).damageLimit = (s.ctx i).damageLimit ∧
    (t.ctx i).quota = (s.ctx i).quota ∧ (t.ctx i).windowSelect = (s.ctx i).windowSelect ∧
    (t.ctx i).group = (s.ctx i).group
  told : (s.effMask i).restarted = true → Charged t i .restarted (.restarted i ((s.ctx i).generation + 1))
  freed : ∀ r rec, s.staged r = some rec → rec.owner = i →
    t.staged r = if rec.state = .writing then some rec else none
  mode : ModeSet s t
  others : OthersRejudged s t i
  group : ∀ g, (s.ctx i).group = some g →
    t.group g =
      { s.group g with
        failed := if (s.ctx i).state = .failed then (s.group g).failed - 1 else (s.group g).failed }
  otherGroups : ∀ h, (s.ctx i).group ≠ some h → t.group h = s.group h
  otherContexts : ∀ j, j ≠ i → (t.ctx j).state = (s.ctx j).state ∧ (t.ctx j).key = (s.ctx j).key ∧
    (t.ctx j).digest = (s.ctx j).digest ∧ (t.ctx j).total = (s.ctx j).total ∧
    (t.ctx j).retired = (s.ctx j).retired ∧ (t.ctx j).extents = (s.ctx j).extents ∧
    (t.ctx j).staged = (s.ctx j).staged ∧ (t.ctx j).timer = (s.ctx j).timer
  rest : t.map = s.map ∧ t.intake = s.intake ∧ t.actions = s.actions ∧ t.resets = s.resets

/-- The signal stage of a segment of context `i`, not exclusive, with a signal level between two states (R135, R136): the
level is recorded; a rise queues SENDER_SIGNAL, or owes it, when the action set has NOTIFY and the mask holds it, and
restarts the context when the set has RESTART and no area is faulted (an earlier restart's aborted verify request left as
log 14 says); records are judged again by the hold; and nothing else changes. -/
structure Signalled (s u : State) (i : Nat) (level : Bool) : Prop where
  recorded : (u.ctx i).signal = level
  restarts : level = true → (s.ctx i).signal = false → s.actions.restart = true → (s.ctx i).area0.faulted = false →
    (s.ctx i).area1.faulted = false →
    Restarted s u i ∧
      (s.actions.notify = true → (s.effMask i).senderSignal = true → Charged u i .senderSignal (.senderSignal i))
  stays : ¬(level = true ∧ (s.ctx i).signal = false ∧ s.actions.restart = true ∧ (s.ctx i).area0.faulted = false ∧
      (s.ctx i).area1.faulted = false) →
    u.ctx i = { s.ctx i with signal := level, owed := (u.ctx i).owed } ∧ (∀ j, j ≠ i → u.ctx j = s.ctx j) ∧
      (if level = true ∧ (s.ctx i).signal = false ∧ s.actions.notify = true ∧ (s.effMask i).senderSignal = true then
        NoticeGiven s u i .senderSignal (.senderSignal i)
      else NoNotice s u i) ∧
      Rejudged s u (s.holdChanged u) ∧ u.staging.payload = s.staging.payload ∧
      u.staging.freeBlocks = s.staging.freeBlocks ∧ u.groups = s.groups ∧ u.verify = s.verify ∧
      u.delivery = s.delivery
  rest : u.map = s.map ∧ u.intake = s.intake ∧ u.actions = s.actions ∧ u.command = s.command ∧ u.resets = s.resets

/-! ### Areas and jobs -/

/-- What the first recording of a total makes of an area (R101, R103): IDLE when its window starts at or above the total
and nothing was delivered; with the half-notice flag when the total cuts its window and half of what remains was
delivered. -/
def Ctx.cutArea (c : Ctx) (total : Nat) (a : Area) : Area :=
  let w := windowSize c.windowSelect
  match a.state, a.window with
  | .ready, some n =>
    if total ≤ n * w ∧ a.delivered = 0 then { a with state := .idle, window := none }
    else if n * w < total ∧ total < n * w + w ∧ (total - n * w + 1) / 2 ≤ a.delivered then { a with halfSent := true }
    else a
  | _, _ => a

/-- Area `p` of context `i` between two states of which the second has a first total (R101, R103): cut by it, with
HALF_FILLED queued or owed when that sets the flag and the mask holds it; and FILLED when its window then retired. -/
def AreaCut (s t : State) (i total p : Nat) : Prop :=
  let a := (s.ctx i).area p
  let b := (s.ctx i).cutArea total a
  ((t.ctx i).area p = b ∨
      ((t.ctx i).area p = { b with state := .filled } ∧ b.state = .ready ∧ (s.ctx i).retired < (t.ctx i).retired)) ∧
    ∀ n, a.window = some n → b.halfSent = true → a.halfSent = false → (s.effMask i).halfFilled = true →
      Charged t i .halfFilled (.halfFilled i p n a.delivered)

/-- The end of window `n` of a context (R104, condition 3): (n + 1)W, or the total where it lies strictly within the
window (R97). -/
def Ctx.windowStop (c : Ctx) (n : Nat) : Nat :=
  let w := windowSize c.windowSelect
  match c.totalBytes with
  | some total => if n * w < total ∧ total < (n + 1) * w then total else (n + 1) * w
  | none => (n + 1) * w

/-- A current-generation record of context `i` but those gone has a piece in window `n` (R104, condition 4). -/
def State.pieceLeft (s : State) (i : Nat) (gone : Nat → Bool) (n : Nat) : Bool :=
  (s.ctx i).staged.any fun q =>
    !gone q &&
      (match s.job q with
        | some j => !j.older
        | none => true) &&
      (match s.staged q with
        | some rec => rec.pieces.any fun p => p.window == n
        | none => false)

/-- Conditions 2 to 4 of R104 for window `n`: its area is READY and holds it, the first extent covers it from its start to
its end, and no piece of it is left. -/
def Ctx.whole (c : Ctx) (left : Nat → Bool) (n : Nat) : Bool :=
  (c.area n).state == .ready && (c.area n).window == some n &&
    (match c.extents with
      | first :: _ => decide (first.start ≤ n * windowSize c.windowSelect) && decide (c.windowStop n ≤ first.stop)
      | [] => false) &&
    !left n

/-- Between two states retirement was evaluated for context `i`, which stood as `c`, with the pieces left that `left` tells
(R104, R105, R106). The window at the retired edge retires exactly when the context is ACTIVE or STALLED and the window is
whole, and so does the one behind it; a third cannot, since its area is FILLED. The edge goes to the end of the last, the
extents below it are cut, the areas retired are FILLED, and each has its WINDOW_FILLED queued or owed. -/
structure Retires (s t : State) (i : Nat) (c : Ctx) (left : Nat → Bool) : Prop where
  edge : (t.ctx i).retired =
    let n := c.retired / windowSize c.windowSelect
    if c.receiving = true ∧ c.retired ≠ c.endBound ∧ c.whole left n = true then
      (if c.windowStop n ≠ c.endBound ∧ c.whole left (n + 1) = true then c.windowStop (n + 1) else c.windowStop n)
    else c.retired
  extents : ∀ x, Covered (t.ctx i).extents x ↔ Covered c.extents x ∧ (t.ctx i).retired ≤ x
  areas : ∀ p, p < 2 → ((t.ctx i).area p).window = (c.area p).window ∧
    ((t.ctx i).area p).state = match (c.area p).window with
      | some m =>
        if c.retired ≤ m * windowSize c.windowSelect ∧ m * windowSize c.windowSelect < (t.ctx i).retired then .filled
        else (c.area p).state
      | none => (c.area p).state
  told : ∀ m, c.retired ≤ m * windowSize c.windowSelect → m * windowSize c.windowSelect < (t.ctx i).retired →
    Charged t i .windowFilled
      (.windowFilled i (m % 2) m (c.windowStop m - m * windowSize c.windowSelect) ((t.ctx i).area m).digest)
  only : ∀ j p m length d, Notice.windowFilled j p m length d ∈ t.notice.queue →
    Notice.windowFilled j p m length d ∈ s.notice.queue ∨
      (j = i ∧ p = m % 2 ∧ c.retired ≤ m * windowSize c.windowSelect ∧
        m * windowSize c.windowSelect < (t.ctx i).retired ∧
        length = c.windowStop m - m * windowSize c.windowSelect ∧ d = ((t.ctx i).area m).digest)

/-- Between two states the completion check was made of context `i`, which stood as `c` (R22, R23, R24): at the retirement
that reaches a manifest's total it is DONE or FAILED(DIGEST_MISMATCH) by its digest, and otherwise its state stays. -/
structure Checked (s t : State) (i : Nat) (c : Ctx) : Prop where
  ends : ∀ total d, c.total = .manifest total d → c.retired ≠ total → (t.ctx i).retired = total →
    if c.digest = d then Completed s t i else Failed s t i .digestMismatch
  stays : (∀ total d, c.total = .manifest total d → (t.ctx i).retired = total → c.retired = total) →
    (t.ctx i).state = c.state

/-- The job of record `r` completed between two states (R117, R123, R124): record and job are gone, the counts have
fallen, and constrained mode is as the release leaves it. -/
structure JobEnded (s t : State) (r : Nat) (j : Job) : Prop where
  gone : t.job r = none ∧ t.staged r = none
  inFlight : t.delivery.inFlight = s.delivery.inFlight - 1
  otherJobs : ∀ q, q ≠ r → t.job q = s.job q
  mode : ModeSet s t
  rest : t.map = s.map ∧ t.verify = s.verify ∧ t.hostSettings = s.hostSettings

/-- The counts and the fence of the owner after its job completed. -/
structure CountsFell (s t : State) (j : Job) : Prop where
  current : (t.ctx j.owner).current = if j.older then (s.ctx j.owner).current else (s.ctx j.owner).current - 1
  older : (t.ctx j.owner).older = if j.older then (s.ctx j.owner).older - 1 else (s.ctx j.owner).older
  fence : (t.ctx j.owner).fence =
    if j.older = true ∧ (s.ctx j.owner).older ≤ 1 then false else (s.ctx j.owner).fence

/-- The fence of a job's owner goes off at its completion: the owner's records are judged again (R84, R124). -/
def Job.clearsFence (j : Job) (s : State) (i : Nat) : Bool :=
  j.older && decide ((s.ctx j.owner).older ≤ 1) && i == j.owner

/-- The job of record `r` completed FAULT between two states, its owner not CLOSING, writes to the areas of some windows
reported FAULT (R123, R125): those areas are faulted; a job of the current generation fails an ACTIVE or STALLED context
with cause DELIVERY_FAULT; otherwise no state and no notice changes. -/
structure FaultCompleted (s t : State) (r : Nat) (j : Job) (windows : List Nat) : Prop where
  ended : JobEnded s t r j
  counts : CountsFell s t j
  marked : ∀ p, p < 2 → (t.ctx j.owner).area p =
    { (s.ctx j.owner).area p with
      faulted := ((s.ctx j.owner).area p).faulted || windows.any fun n => n % 2 == p }
  fails : j.older = false → (s.ctx j.owner).receiving = true → Failed s t j.owner .deliveryFault
  stays : ¬(j.older = false ∧ (s.ctx j.owner).receiving = true) →
    (t.ctx j.owner).state = (s.ctx j.owner).state ∧ (t.ctx j.owner).cause = (s.ctx j.owner).cause ∧
      t.notice = s.notice ∧ t.groups = s.groups ∧
      ∀ q rec, q ≠ r → s.staged q = some rec → t.staged q = some (t.judgedAgain (j.clearsFence s) rec)
  progress : (t.ctx j.owner).retired = (s.ctx j.owner).retired ∧
    (t.ctx j.owner).extents = (s.ctx j.owner).extents ∧ (t.ctx j.owner).digest = (s.ctx j.owner).digest

/-- The job of record `r` completed between two states, its owner CLOSING (R20): FREE when it was the last, and otherwise
CLOSING with its counts lowered; no area, no notice and no other context changes. -/
structure ClosingCompleted (s t : State) (r : Nat) (j : Job) : Prop where
  ended : JobEnded s t r j
  freed : (if j.older then (s.ctx j.owner).current + ((s.ctx j.owner).older - 1)
      else (s.ctx j.owner).current - 1 + (s.ctx j.owner).older) = 0 → t.ctx j.owner = Ctx.free
  waits : (if j.older then (s.ctx j.owner).current + ((s.ctx j.owner).older - 1)
      else (s.ctx j.owner).current - 1 + (s.ctx j.owner).older) ≠ 0 →
    CountsFell s t j ∧ (t.ctx j.owner).state = .closing ∧ (t.ctx j.owner).area0 = (s.ctx j.owner).area0 ∧
      (t.ctx j.owner).area1 = (s.ctx j.owner).area1 ∧ (t.ctx j.owner).retired = (s.ctx j.owner).retired
  quiet : t.notice = s.notice ∧ t.groups = s.groups ∧ (∀ k, k ≠ j.owner → t.ctx k = s.ctx k) ∧
    ∀ q rec, s.staged q = some rec → rec.owner ≠ j.owner → t.staged q = some rec

/-! ## The rules' tables of checks, as the statements read them -/

/-- The first check of OPEN that fails (R13). -/
def State.openRefusal (s : State) (m : Sys2Proof.OpenCommand) : Option CmdStatus :=
  if 4 < m.windowSelect.toNat then some .badParam
  else if m.base0.toNat % 64 ≠ 0 ∨ m.base1.toNat % 64 ≠ 0 then some .badParam
  else if s.mayWrite m.base0.toNat (windowSize m.windowSelect) = false then some .badAddress
  else if s.mayWrite m.base1.toNat (windowSize m.windowSelect) = false then some .badAddress
  else if (s.lookup ⟨m.peer, m.tag⟩).isSome = true then some .keyExists
  else if 4 ≤ (s.bucket (bucketOf ⟨m.peer, m.tag⟩)).length then some .keyCollision
  else if (List.range 4096).all (fun i => (s.ctx i).state != .free) = true then some .tableFull
  else none

/-- The first check of REFILL after the index that fails (R109). -/
def State.refillRefusal (s : State) (m : Sys2Proof.RefillCommand) : Option CmdStatus :=
  let c := s.ctx m.index.toNat
  let a := c.area m.area.toNat
  let other := c.area (m.area.toNat + 1)
  let faultedPath := c.state = .failed ∧ a.faulted = true
  if 1 < m.area.toNat then some .badParam
  else if m.base.toNat % 64 ≠ 0 then some .badParam
  else if a.state ≠ .filled ∧ ¬faultedPath then some .wrongState
  else if ¬faultedPath ∧ other.state = .filled ∧ other.window.getD 0 < a.window.getD 0 then some .wrongState
  else if a.verify = .queued ∨ a.verify = .active then some .areaBusy
  else if s.mayWrite m.base.toNat (windowSize c.windowSelect) = false then some .badAddress
  else none

/-- The first check of RESTART after the index that fails (R145). -/
def Ctx.restartRefusal (c : Ctx) : Option CmdStatus :=
  if c.state = .done then some .wrongState
  else if c.area0.faulted = true ∨ c.area1.faulted = true then some .areaFaulted
  else none

/-- The first check of REVERIFY after the index that fails (R162), L by R97. -/
def State.reverifyRefusal (s : State) (m : Sys2Proof.ReverifyCommand) : Option CmdStatus :=
  let c := s.ctx m.index.toNat
  let a := c.area m.area.toNat
  let start := a.window.getD 0 * windowSize c.windowSelect
  let length := match c.totalBytes with
    | some n => if start < n ∧ n < start + windowSize c.windowSelect then n - start else windowSize c.windowSelect
    | none => windowSize c.windowSelect
  if 1 < m.area.toNat then some .badParam
  else if a.state ≠ .filled then some .wrongState
  else if a.verify = .queued ∨ a.verify = .active then some .verifyBusy
  else if s.mayRead a.base length = false then some .badAddress
  else if 8 ≤ s.verify.length then some .verifyBusy
  else none

/-- The first check of GROUP_JOIN after the index that fails (R151). -/
def State.joinRefusal (s : State) (m : Sys2Proof.JoinCommand) : Option CmdStatus :=
  let c := s.ctx m.index.toNat
  if 256 ≤ m.group.toNat then some .badParam
  else if c.state ≠ .active ∧ c.state ≠ .stalled then some .wrongState
  else if c.group.isSome = true then some .wrongState
  else if 16 ≤ (s.group m.group.toNat).members.length then some .groupFull
  else none

/-- What the range, extent-limit and staging stages answer a DATA segment of context `i`, where they refuse it and fail
nothing (R35, R36, R38, R55, R86, R88, R90). -/
def State.dataRefusal (s : State) (i : Nat) (g : Sys2Proof.DataSegment) : Option DispositionCode :=
  let c := s.ctx i
  let stop := g.offset.toNat + g.length.toNat
  let blocks := (g.length.toNat + 2047) / 2048
  let ending := g.length.toNat % 4 ≠ 0
  let later : Option DispositionCode :=
    if ¬ending ∧ c.endBound < stop then some .beyondEnd
    else if c.newRangesOf g = [] then none
    else if 24 < countAfter c.extents (c.newRangesOf g) then some .extentLimit
    else if c.quota < c.blocksHeld + blocks then some .quota
    else if s.staging.freeBlocks < blocks ∨ s.staging.freeRecords = 0 then some .stagingFull
    else if s.staging.constrained = true ∧ s.eligible i (c.piecesFor g) = false then some .stagingFull
    else none
  match c.total with
  | .absent => if ending ∧ stop < highMark c.retired c.extents then some .malformed else later
  | .implied n => if ending ∧ stop ≠ n then some .malformed else later
  | .manifest n _ => if ending ∧ stop ≠ n then none else later

/-- The commands that are no act of the host and no reset: segments, the part's own writes and reads, their reports, and
expiries. -/
def isTraffic : Sys2Proof.Instr → Bool
  | .data _ | .manifest _ | .abandon _ | .unknownKindSegment _ | .snapshotWriteIssue | .snapshotWriteReport _
  | .commandFetch | .commandFetchFault _ | .writeJobGrant | .pieceWriteIssue | .pieceWriteReport _ _ _ | .stallExpiry _
  | .abandonExpiry _ | .verifyReadReturn _ | .noticeWrite | .noticeWriteReport _ | .rollup => true
  | _ => false

/-- The state changes of a context that R5 lists, each with the commands whose events make it; a reset frees any
record (R1). -/
def transitionAllowed (c : Sys2Proof.Instr) (from_ to_ : CtxState) : Bool :=
  from_ == to_ ||
  match to_ with
  | .active =>
    match c with
    | .openTransfer _ => from_ == .free
    | .restart _ => from_ == .stalled || from_ == .failed
    | .data _ | .manifest _ => from_ == .stalled || from_ == .failed
    | _ => false
  | .stalled =>
    match c with
    | .stallExpiry _ => from_ == .active
    | _ => false
  | .done =>
    match c with
    | .manifest _ | .pieceWriteReport _ _ _ | .refill _ => from_ == .active || from_ == .stalled
    | _ => false
  | .failed =>
    match c with
    | .data _ | .manifest _ | .abandon _ | .pieceWriteIssue | .pieceWriteReport _ _ _ | .refill _ =>
      from_ == .active || from_ == .stalled
    | .abandonExpiry _ => from_ == .stalled
    | _ => false
  | .closing =>
    match c with
    | .close _ => from_ == .active || from_ == .stalled || from_ == .done || from_ == .failed
    | _ => false
  | .free =>
    match c with
    | .close _ => from_ == .active || from_ == .stalled || from_ == .done || from_ == .failed
    | .pieceWriteIssue | .pieceWriteReport _ _ _ => from_ == .closing
    | .fullReset _ | .softReset | .drainClear => true
    | _ => false

end Sys2Proof.Machine
end

