-- ==== Sys2Proof/Certificates/Slice0/Obligations.lean ====
section
/-! DEFINITION. The statements for the provers. Unless a docstring names a log entry, each formalises the rule it
cites. -/

open Sys2Proof Sys2Proof.Machine

/-! ## The queue and the whole part -/

/-- A step with a command at the front of the queue is that command run with the queue's rest. -/
def Obligations.StepRunsTheFrontCommand : Prop :=
  ∀ (c : Instr) (s : State) (rest : List Instr),
    s.pending = c :: rest → step s = exec c { s with pending := rest }

/-- Every command takes the part to a next state, and no command touches the queue: the spec names no event that stops
the part. -/
def Obligations.EveryCommandAnswersNext : Prop :=
  ∀ (c : Instr) (s : State), ∃ t, exec c s = .next t ∧ t.pending = s.pending

/-- Segments at the channels, and a step on an empty queue (the model's choices, logs 1 and 2). A segment presented to a busy
intake, or while another waits, stands at its channel; a channel that holds one takes no other; to a free intake a segment is
taken whole. What taking one does, does not depend on what stands at the channels, and leaves that as it is. On an empty queue intake takes the segment of the first channel after the link last served, wrapping from 3 to
0; with none waiting, the lowest context whose stall or abandon period has elapsed has its expiry; with none due, one
millisecond passes: each running stall timer counts down, and nothing else changes. -/
def Obligations.EmptyQueueCountsTimersDown : Prop :=
  ∀ s : State,
    (∀ (seg : Segment) (arrival : Arrival), s.resets.held = false →
      (s.channel seg.link.toNat ≠ none → exec (seg.presented arrival) s = .next s) ∧
        (s.intake.channels = [] → exec (seg.presented .idle) s = .next (s.takeSegment seg)) ∧
        (s.channel seg.link.toNat = none → arrival = .busy ∨ s.intake.channels ≠ [] →
          ∃ t, exec (seg.presented arrival) s = .next t ∧
            t = { s with intake := { s.intake with channels := t.intake.channels } } ∧
            t.channel seg.link.toNat = some seg ∧ ∀ k, k ≠ seg.link.toNat → t.channel k = s.channel k)) ∧
      (∀ seg : Segment, s.resets.held = false →
        ∃ u, exec (seg.presented .idle) { s with intake := { s.intake with channels := [] } } = .next u ∧
          s.takeSegment seg = { u with intake := { u.intake with channels := s.intake.channels } }) ∧
      (s.pending = [] →
        (s.resets.held = true → step s = .next s) ∧
          (s.resets.held = false → ∀ (k : Nat) (seg : Segment), k < 4 → s.channel k = some seg →
            let last := s.intake.lastLink.toNat
            (last < k ∧ ∀ l, last < l → l < k → s.channel l = none) ∨
              (k ≤ last ∧ (∀ l, last < l → l < 4 → s.channel l = none) ∧ ∀ l, l < k → s.channel l = none) →
            ∃ t, step s = .next t ∧ t = (s.setChannel k none).takeSegment seg ∧ t.intake.lastLink = seg.link ∧
              t.channel k = none ∧ ∀ l, l ≠ k → t.channel l = s.channel l) ∧
          (s.resets.held = false → (∀ k, k < 4 → s.channel k = none) →
            let stallDue := fun i => (s.ctx i).state = .active ∧ (s.ctx i).timer = .stall 0
            let abandonDue := fun i => (s.ctx i).state = .stalled ∧ (s.ctx i).timer = .abandon (some 0)
            (∀ index : BitVec 12, CanonicalForm s → (∀ j, j < index.toNat → ¬stallDue j ∧ ¬abandonDue j) →
              (stallDue index.toNat → step s = exec (.stallExpiry index) s) ∧
                (abandonDue index.toNat → step s = exec (.abandonExpiry index) s)) ∧
              ((∀ i, ¬stallDue i ∧ ¬abandonDue i) →
                ∃ t, step s = .next t ∧ t = { s with contexts := t.contexts } ∧
                  ∀ i, t.ctx i =
                    { s.ctx i with
                      timer := match (s.ctx i).timer with
                        | .stopped => .stopped
                        | .stall r => .stall (r - 1)
                        | .abandon none => .abandon none
                        | .abandon (some r) => .abandon (some (r - 1)) })))

/-- The state after reset meets every invariant stated below. -/
def Obligations.ResetMeetsEveryInvariant : Prop :=
  CanonicalForm State.reset ∧ NoticeSafe State.reset ∧ StagingConserved State.reset ∧ DeliverySafe State.reset ∧
    CountsSafe State.reset ∧ MapSafe State.reset ∧ GroupSafe State.reset ∧ QuietInReset State.reset ∧
    VerifySafe State.reset ∧ ExtentsSafe State.reset

/-- Every step keeps the tables and the staging memory in canonical form (the model's own representation), and every segment
that waits at the channel of its link. -/
def Obligations.CanonicalFormKept : Prop :=
  ∀ s t : State, CanonicalForm s → step s = .next t → CanonicalForm t

/-- Every step keeps the notice queue within its 64 entries, the reserved one counted, and the reservation exactly while a
command is fetched or executed. -/
def Obligations.NoticeQueueBoundKept : Prop :=
  ∀ s t : State, NoticeSafe s → step s = .next t → NoticeSafe t

/-- Every step keeps the conservation of staging blocks and records, and constrained mode on below 512 free blocks and off at
1024 or more. -/
def Obligations.StagingConservationKept : Prop :=
  ∀ s t : State, StagingConserved s → step s = .next t → StagingConserved t

/-- Every step keeps the in-flight count equal to the number of write jobs and at most 16, the jobs those of the WRITING
records, and each context's two counts, fence, staged list and blocks held in step with its jobs and records. The conservation of
staging, stated above, rules out states in which no free record is left for a segment that was told of one. -/
def Obligations.InFlightCountsKept : Prop :=
  ∀ s t : State, StagingConserved s → DeliverySafe s → CountsSafe s → step s = .next t → DeliverySafe t ∧ CountsSafe t

/-- Every step keeps a context's key in the lookup map exactly while it is ACTIVE, STALLED, DONE or FAILED, and no key
twice in the map. -/
def Obligations.LookupMapKept : Prop :=
  ∀ s t : State, MapSafe s → step s = .next t → MapSafe t

/-- Every step keeps a group's counts equal to its members in DONE and in FAILED, its member list without repeats and at
most 16 long, and the contexts' group fields in step with the lists. -/
def Obligations.GroupCountsKept : Prop :=
  ∀ s t : State, GroupSafe s → step s = .next t → GroupSafe t

/-- Every step keeps the part empty and quiet while RESET_PENDING is shown or a full reset is in progress. -/
def Obligations.QuietInResetKept : Prop :=
  ∀ s t : State, QuietInReset s → step s = .next t → QuietInReset t

/-- Every step keeps the verify queue at most 8 requests long, with at most its active request being read. -/
def Obligations.VerifyQueueKept : Prop :=
  ∀ s t : State, VerifySafe s → step s = .next t → VerifySafe t

/-- Every step keeps every extent list at most 24 ranges, ordered, disjoint, non-adjacent and within the retired edge and
the end bound, every retired edge at a multiple of W or at the total, and every area holding a window of its parity exactly
while it is not IDLE. -/
def Obligations.ExtentListsKept : Prop :=
  ∀ s t : State, ExtentsSafe s → step s = .next t → ExtentsSafe t

/-- A command changes the state of a context only as R5 lists: to the states, and by the events, of its table. -/
def Obligations.ContextStatesFollowTheTable : Prop :=
  ∀ (c : Instr) (s t : State) (i : Nat), exec c s = .next t →
    transitionAllowed c (s.ctx i).state (t.ctx i).state = true

/-- A context's key and window size select do not change while it is not FREE. -/
def Obligations.KeyAndWindowSizeFixedUntilFree : Prop :=
  ∀ (c : Instr) (s t : State) (i : Nat), exec c s = .next t → (s.ctx i).state ≠ .free → (t.ctx i).state ≠ .free →
    (t.ctx i).key = (s.ctx i).key ∧ (t.ctx i).windowSelect = (s.ctx i).windowSelect

/-- Segments, the part's own reads and writes, their reports and expiries change no aperture, no ring register but the
producer, no action set, no enable, no quiesce source and no reset indication. -/
def Obligations.TrafficKeepsHostSettings : Prop :=
  ∀ (c : Instr) (s t : State), isTraffic c = true → exec c s = .next t → t.hostSettings = s.hostSettings

/-! ## Formats -/

/-- A host command written as its 64-byte entry is read back whole, whatever its fields hold. -/
def Obligations.CommandEntryRoundTrip : Prop :=
  ∀ (c : Instr) (e : Reply (List Byte)), c.wellFormed = true → encodeEntry c = some e →
    e.value.length = 64 ∧ decodeEntry e = c

/-- Section 11.5, field by field: the 12 bytes of a disposition, the 32 bytes of each kind of notice entry and the 512 bytes of
a query snapshot, at their offsets, each value cut to its field's width; the codes of their enumerated fields; and 0 in every
byte of a snapshot that the section does not name. -/
def Obligations.WrittenFormatsReadBack : Prop :=
  let owedCode := fun (owed : List OwedKind) =>
    [OwedKind.windowFilled, .halfFilled, .transferDone, .transferFailed, .stalled, .resumed, .senderSignal, .restarted,
      .groupDone, .groupFailed, .verifyResult].zipIdx.foldl (fun n k => if k.1 ∈ owed then n + 2 ^ (k.2 + 2) else n) 0
  let bit := fun (flag : Bool) (place : Nat) => if flag then 2 ^ place else 0
  [DispositionCode.accepted, .duplicate, .notReady, .unknown, .malformed, .damaged, .closed, .beyondEnd, .extentLimit, .quota,
      .stagingFull, .conflict].map DispositionCode.number = List.range 12 ∧
    [CmdStatus.ok, .badCommand, .badParam, .badAddress, .noContext, .keyExists, .keyCollision, .tableFull, .wrongState,
      .areaBusy, .areaFaulted, .groupFull, .verifyBusy, .apertureInUse].map CmdStatus.number = List.range 14 ∧
    [FailCause.digestMismatch, .manifestConflict, .deliveryFault, .abandoned, .timedOut, .damageLimit].map
      FailCause.number = [1, 2, 3, 4, 5, 6] ∧
    [CtxState.active, .stalled, .done, .failed].map CtxState.number = [1, 2, 3, 4] ∧
    [AreaState.idle, .ready, .filled].map AreaState.number = [0, 1, 2] ∧
    [VerifyStatus.none, .queued, .active, .matched, .mismatch, .readFault, .aborted].map VerifyStatus.number =
      List.range 7 ∧
    (∀ d : Disposition, d.edge ≤ 2 ^ 40 →
      d.bytes.length = 12 ∧ field d.bytes 0 2 = d.handle.toNat ∧ field d.bytes 2 1 = d.kind.toNat ∧
        field d.bytes 3 1 = d.code.number ∧ field d.bytes 4 8 = d.edge) ∧
    (∀ n : Notice,
      let holds := fun (start size value : Nat) => field n.bytes start size = value % 256 ^ size
      n.bytes.length = 32 ∧
        match n with
        | .cmdResult i tag code status =>
          holds 0 1 1 ∧ holds 2 2 i ∧ holds 4 2 tag.toNat ∧ holds 6 1 code.toNat ∧ holds 7 1 status.number
        | .windowFilled i area window count d =>
          holds 0 1 2 ∧ holds 2 2 i ∧ holds 4 1 area ∧ holds 8 8 window ∧ holds 16 4 count ∧ holds 20 4 d.a ∧
            holds 24 4 d.b
        | .halfFilled i area window delivered =>
          holds 0 1 3 ∧ holds 2 2 i ∧ holds 4 1 area ∧ holds 8 8 window ∧ holds 16 4 delivered
        | .transferDone i total d => holds 0 1 4 ∧ holds 2 2 i ∧ holds 8 8 total ∧ holds 20 4 d.a ∧ holds 24 4 d.b
        | .transferFailed i cause => holds 0 1 5 ∧ holds 2 2 i ∧ holds 4 1 cause.number
        | .stalled i => holds 0 1 6 ∧ holds 2 2 i
        | .resumed i => holds 0 1 7 ∧ holds 2 2 i
        | .senderSignal i => holds 0 1 8 ∧ holds 2 2 i
        | .restarted i generation => holds 0 1 9 ∧ holds 2 2 i ∧ holds 4 1 generation.toNat
        | .groupDone leader group members =>
          holds 0 1 10 ∧ holds 2 2 leader ∧ holds 4 1 group ∧ holds 5 1 members
        | .groupFailed leader group cause member =>
          holds 0 1 11 ∧ holds 2 2 leader ∧ holds 4 1 group ∧ holds 5 1 cause.number ∧ holds 6 2 member
        | .verifyResult i area window outcome =>
          holds 0 1 12 ∧ holds 2 2 i ∧ holds 4 1 area ∧ holds 8 8 window ∧
            (match outcome with
              | .matched d => holds 5 1 1 ∧ holds 16 4 d.a ∧ holds 20 4 d.b
              | .mismatch d => holds 5 1 2 ∧ holds 16 4 d.a ∧ holds 20 4 d.b
              | .readFault offset => holds 5 1 3 ∧ holds 16 4 offset
              | .aborted => holds 5 1 4)
        | .unmatched link peer tag =>
          holds 0 1 13 ∧ holds 2 2 0 ∧ holds 4 1 link.toNat ∧ holds 5 1 peer.toNat ∧ holds 8 4 tag.toNat
        | .rollup i owed => holds 0 1 14 ∧ holds 2 2 i ∧ holds 4 2 (owedCode owed)) ∧
    ∀ n : Snapshot, n.record.extents.length ≤ 24 →
      let c := n.record
      let holds := fun (start size value : Nat) => field n.bytes start size = value % 256 ^ size
      let area := fun (start : Nat) (a : Area) =>
        holds start 8 a.base ∧ holds (start + 8) 1 a.state.number ∧
          holds (start + 9) 1 (bit a.halfSent 0 + bit a.faulted 1) ∧ holds (start + 10) 1 a.verify.number ∧
          holds (start + 11) 1 0 ∧ holds (start + 12) 4 a.delivered ∧ holds (start + 16) 8 (a.window.getD 0) ∧
          holds (start + 24) 4 a.digest.a ∧ holds (start + 28) 4 a.digest.b
      n.bytes.length = 512 ∧ holds 0 2 n.index ∧ holds 2 1 c.state.number ∧
        (match c.key with
          | some k => holds 3 1 k.peer.toNat ∧ holds 4 4 k.tag.toNat
          | none => holds 3 1 0 ∧ holds 4 4 0) ∧
        holds 8 2 n.bucket ∧ holds 10 1 n.position ∧ holds 11 1 c.priority.toNat ∧
        holds 12 1 (bit c.mask.halfFilled 0 + bit c.mask.stalled 1 + bit c.mask.resumed 2 + bit c.mask.senderSignal 3 +
          bit c.mask.restarted 4) ∧
        holds 13 1 (bit c.exclusive 0 + bit c.hostHold 1 + bit n.effHold 2 + bit c.fence 3 + bit c.signal 4) ∧
        holds 14 1 c.stallSelect.toNat ∧ holds 15 1 c.abandonMultiplier.toNat ∧ holds 16 1 c.damageLimit.toNat ∧
        holds 17 1 c.windowSelect.toNat ∧ holds 18 2 c.quota ∧ holds 20 1 n.effPriority.toNat ∧
        (match c.total with
          | .absent => holds 21 1 0 ∧ holds 24 8 0 ∧ holds 32 4 0 ∧ holds 36 4 0
          | .implied total => holds 21 1 1 ∧ holds 24 8 total ∧ holds 32 4 0 ∧ holds 36 4 0
          | .manifest total d => holds 21 1 2 ∧ holds 24 8 total ∧ holds 32 4 d.a ∧ holds 36 4 d.b) ∧
        holds 22 1 c.generation.toNat ∧ holds 23 1 c.damaged ∧ holds 40 4 c.digest.a ∧ holds 44 4 c.digest.b ∧
        holds 48 8 c.retired ∧ holds 56 1 c.extents.length ∧
        (match c.timer with
          | .stopped => holds 57 1 0 ∧ holds 64 4 0xFFFFFFFF
          | .stall r => holds 57 1 1 ∧ holds 64 4 r
          | .abandon (some r) => holds 57 1 2 ∧ holds 64 4 r
          | .abandon none => holds 57 1 2 ∧ holds 64 4 0xFFFFFFFF) ∧
        (match c.cause with
          | some cause => holds 58 1 cause.number
          | none => holds 58 1 0) ∧
        (match n.group with
          | some g => holds 60 2 g.number ∧ holds 74 2 g.leader ∧ holds 76 1 g.members ∧ holds 77 1 g.done ∧
              holds 78 1 g.failed ∧ holds 79 1 g.place ∧ holds 80 1 (bit g.holdOnFailure 0)
          | none => holds 60 2 0xFFFF ∧ holds 74 7 0) ∧
        holds 62 2 (owedCode c.owed) ∧ holds 68 2 n.stagedCount ∧ holds 70 2 c.blocksHeld ∧ holds 72 1 c.current ∧
        holds 73 1 c.older ∧ holds 59 1 0 ∧ holds 81 15 0 ∧ area 96 c.area0 ∧ area 128 c.area1 ∧
        (∀ k e, c.extents[k]? = some e →
          holds (160 + 12 * k) 5 (e.start / 4) ∧ holds (160 + 12 * k + 5) 6 e.stop ∧ holds (160 + 12 * k + 11) 1 0) ∧
        (∀ k, c.extents.length ≤ k → k < 24 → holds (160 + 12 * k) 12 0) ∧ holds 448 64 0

/-! ## Keys, ranges and tallies -/

/-- The bucket of a key: the tag, the tag shifted right by 11 and by 22, and the peer times 8, combined by exclusive or,
the low 11 bits kept; the same from the low 11 bits of each. A lookup finds an entry of that bucket with that key, and OPEN
puts its entry into that bucket. -/
def Obligations.BucketOfAKey : Prop :=
  ∀ k : Key,
    bucketOf k = (k.tag.toNat ^^^ k.tag.toNat / 2 ^ 11 ^^^ k.tag.toNat / 2 ^ 22 ^^^ 8 * k.peer.toNat) % 2048 ∧
      bucketOf k =
        (k.tag.toNat % 2048 ^^^ k.tag.toNat / 2 ^ 11 % 2048 ^^^ k.tag.toNat / 2 ^ 22 ^^^ 8 * k.peer.toNat) ∧
      bucketOf k < 2048 ∧ k.tag.toNat / 2 ^ 22 < 2 ^ 10 ∧ 8 * k.peer.toNat ≤ 2040 ∧
      (∀ (s : State) (i : Nat), s.lookup k = some i → ⟨k, i⟩ ∈ s.bucket (bucketOf k)) ∧
      ∀ (s t : State) (m : Reply OpenCommand) (b i : Nat), k = ⟨m.value.peer, m.value.tag⟩ →
        exec (.openTransfer m) s = .next t →
        ⟨k, i⟩ ∈ t.bucket b → ⟨k, i⟩ ∉ s.bucket b → b = bucketOf k

/-- The new ranges of a segment are exactly its bytes at or above the retired edge and in no extent, as ordered,
non-adjacent ranges, one more than the extents at most. -/
def Obligations.NewRangesAreTheUncoveredBytes : Prop :=
  ∀ (retired start stop : Nat) (extents : List Extent), Ordered extents →
    Ordered (newRanges retired extents start stop) ∧
      (newRanges retired extents start stop).length ≤ extents.length + 1 ∧
      ∀ x, Covered (newRanges retired extents start stop) x ↔
        start ≤ x ∧ x < stop ∧ retired ≤ x ∧ ¬ Covered extents x

/-- Inserting new ranges gives the union as ordered, non-adjacent ranges, and its length is the count the limit stage
computes: extents before, plus new ranges, minus touchings. -/
def Obligations.InsertionIsTheUnion : Prop :=
  ∀ extents ranges : List Extent, Ordered extents → Ordered ranges →
    (∀ x, Covered ranges x → ¬ Covered extents x) →
    Ordered (insertExtents ranges extents) ∧
      (∀ x, Covered (insertExtents ranges extents) x ↔ Covered extents x ∨ Covered ranges x) ∧
      (insertExtents ranges extents).length = countAfter extents ranges

/-- The pieces of a segment cover exactly the bytes of its new ranges; they stand in ascending order and do not overlap; each
lies within one new range and one window, carries that window's number, and contributes the tally of the payload bytes it
covers at their absolute word indices. -/
def Obligations.PiecesPartitionTheNewRanges : Prop :=
  ∀ (select : BitVec 3) (offset : Nat) (payload : List Byte) (ranges : List Extent),
    (∀ r ∈ ranges, r.start < r.stop ∧ r.stop ≤ r.start + 16384) →
    let pieces := piecesOf (windowSize select) offset payload ranges
    (∀ x, (∃ p ∈ pieces, p.start ≤ x ∧ x < p.stop) ↔ ∃ r ∈ ranges, r.start ≤ x ∧ x < r.stop) ∧
      (ranges.Pairwise (fun a b => a.stop ≤ b.start) → pieces.Pairwise fun a b => a.stop ≤ b.start) ∧
      ∀ p ∈ pieces,
        p.start < p.stop ∧ (∃ r ∈ ranges, r.start ≤ p.start ∧ p.stop ≤ r.stop) ∧
          p.window * windowSize select ≤ p.start ∧ p.stop ≤ (p.window + 1) * windowSize select ∧
          p.window = p.start / windowSize select ∧
          p.contribution = tallyFrom (p.start / 4) ((payload.drop (p.start - offset)).take (p.stop - p.start))

/-- Retiring a window that the first extent covers leaves the contiguous edge as it was. -/
def Obligations.RetirementKeepsTheContiguousEdge : Prop :=
  ∀ (retired stop : Nat) (extents : List Extent), Ordered extents → retired < stop →
    firstCovers extents retired stop = true →
    contiguousEdge stop (cutFirst extents stop) = contiguousEdge retired extents ∧
      Ordered (cutFirst extents stop) ∧
      ∀ x, Covered (cutFirst extents stop) x ↔ Covered extents x ∧ stop ≤ x

/-- The tally of a run of bytes is the sum of the tallies of its parts at their own word indices, wherever it is divided
at a word, so a verify sum does not depend on how the window is divided into reads; sums stay below M. A piece that is the
whole segment at word index `b` contributes (A, B + (b mod M) · A), reduced, for the segment's tally (A, B). -/
def Obligations.TalliesAddAndShift : Prop :=
  (∀ (k : Nat) (xs ys : List Byte), xs.length % 4 = 0 →
    tallyFrom k (xs ++ ys) = (tallyFrom k xs).add (tallyFrom (k + xs.length / 4) ys) ∧
      (tallyFrom k xs).a < M ∧ (tallyFrom k xs).b < M) ∧
    ∀ (b : Nat) (payload : List Byte),
      tallyFrom b payload =
        ⟨(segmentTally payload).a, ((segmentTally payload).b + b % M * (segmentTally payload).a) % M⟩

/-! ## Segments -/

/-- While RESET_PENDING or the drain is shown, every segment of every kind that intake takes gets NOT_READY with contiguous edge 0, and
nothing but its link's return lane and the last link served changes. -/
def Obligations.SegmentsNotReadyInReset : Prop :=
  ∀ s : State, s.resets.held = false → s.intake.channels = [] → s.resets.pending = true ∨ s.resets.draining = true →
    (∀ g, exec (.data ⟨g, .idle⟩) s = .next (s.answered g.link g.handle 1 .notReady 0)) ∧
      (∀ g, exec (.manifest ⟨g, .idle⟩) s = .next (s.answered g.link g.handle 2 .notReady 0)) ∧
      (∀ g, exec (.abandon ⟨g, .idle⟩) s = .next (s.answered g.link g.handle 3 .notReady 0)) ∧
      ∀ g, exec (.unknownKindSegment ⟨g, .idle⟩) s = .next (s.answered g.link g.handle g.kind .notReady 0)

/-- An admitted segment that fails a shape check, a segment of unknown kind among them, gets MALFORMED with contiguous
edge 0, and nothing but its link's return lane and the last link served changes. -/
def Obligations.IllFormedSegmentsAnsweredMalformed : Prop :=
  ∀ s : State, Taking s →
    (∀ g : DataSegment,
      g.offset.toNat % 4 ≠ 0 ∨ g.length.toNat < 4 ∨ 16384 < g.length.toNat ∨
        2 ^ 40 < g.offset.toNat + g.length.toNat ∨ g.tallyA.toNat = M ∨ g.tallyB.toNat = M ∨
        g.payload.length ≠ g.length.toNat →
      exec (.data ⟨g, .idle⟩) s = .next (s.answered g.link g.handle 1 .malformed 0)) ∧
      (∀ g : ManifestSegment,
        g.total.toNat = 0 ∨ 2 ^ 40 < g.total.toNat ∨ g.expectedA.toNat = M ∨ g.expectedB.toNat = M ∨ g.payload ≠ [] →
        exec (.manifest ⟨g, .idle⟩) s = .next (s.answered g.link g.handle 2 .malformed 0)) ∧
      (∀ g : AbandonSegment, g.payload ≠ [] →
        exec (.abandon ⟨g, .idle⟩) s = .next (s.answered g.link g.handle 3 .malformed 0)) ∧
      ∀ g, exec (.unknownKindSegment ⟨g, .idle⟩) s = .next (s.answered g.link g.handle g.kind .malformed 0)

/-- A well-formed DATA, MANIFEST or ABANDON whose key is not in the lookup map gets UNKNOWN with contiguous edge 0. The
unmatched count rises by 1 and stays at its maximum; going from 0 to 1 with the enable on, it queues UNMATCHED, which a
full queue drops. Nothing else changes. -/
def Obligations.UnknownSegmentsCounted : Prop :=
  ∀ s : State, Taking s →
    let counted := fun (t : State) (link : BitVec 2) (handle : BitVec 16) (kind : BitVec 8) (peer : BitVec 8)
        (tag : BitVec 32) =>
      t = { s with
        intake := { s.intake with
          unmatched := min (2 ^ 32 - 1) (s.intake.unmatched + 1)
          lanes := Table.set none s.intake.lanes link.toNat (some ⟨handle, kind, .unknown, 0⟩)
          lastLink := link }
        notice := { s.notice with
          queue :=
            if s.intake.unmatched = 0 ∧ s.intake.unmatchedEnable = true ∧ s.notice.full = false then
              s.notice.queue ++ [Notice.unmatched link peer tag]
            else s.notice.queue } }
    (∀ g : DataSegment, DataSegment.wellShaped g = true → s.lookup ⟨g.peer, g.tag⟩ = none →
      ∃ t, exec (.data ⟨g, .idle⟩) s = .next t ∧ counted t g.link g.handle 1 g.peer g.tag) ∧
      (∀ g : ManifestSegment, ManifestSegment.wellShaped g = true → s.lookup ⟨g.peer, g.tag⟩ = none →
        ∃ t, exec (.manifest ⟨g, .idle⟩) s = .next t ∧ counted t g.link g.handle 2 g.peer g.tag) ∧
      ∀ g : AbandonSegment, g.payload = [] → s.lookup ⟨g.peer, g.tag⟩ = none →
        ∃ t, exec (.abandon ⟨g, .idle⟩) s = .next t ∧ counted t g.link g.handle 3 g.peer g.tag

/-- A DATA segment of an ACTIVE or STALLED context that passes every stage and does not change the signal level (SenderSignalActs
says what a change does before these stages) is ACCEPTED. Its new ranges join the extents and its contributions the digest; an
end segment implies the total, which cuts the areas, with HALF_FILLED where due; timer and damaged count restart, and a STALLED
context is ACTIVE with RESUMED. The lowest free record holds the whole payload in the lowest free blocks, and the other bytes
of staging stay. The other records are judged again only when the total was implied. Every other context keeps its record. -/
def Obligations.AcceptedDataIsCommitted : Prop :=
  ∀ (s : State) (g : DataSegment) (i : Nat), Taking s → StagingConserved s → DataSegment.wellShaped g = true →
    s.lookup ⟨g.peer, g.tag⟩ = some i → (s.ctx i).receiving = true → DataSegment.tallyMatches g = true →
    (s.ctx i).exclusive = true ∨ g.signal = (s.ctx i).signal → (s.ctx i).rangeRefusal g = none →
    (s.ctx i).newRangesOf g ≠ [] → countAfter (s.ctx i).extents ((s.ctx i).newRangesOf g) ≤ 24 →
    (s.ctx i).blocksHeld + (g.length.toNat + 2047) / 2048 ≤ (s.ctx i).quota →
    (g.length.toNat + 2047) / 2048 ≤ s.staging.freeBlocks → 1 ≤ s.staging.freeRecords →
    s.staging.constrained = false ∨ s.eligible i ((s.ctx i).piecesFor g) = true →
    let c := s.ctx i
    let stop := g.offset.toNat + g.length.toNat
    let blocks := (g.length.toNat + 2047) / 2048
    let implies := decide (g.length.toNat % 4 ≠ 0) && c.total == .absent
    let resumes := c.state = .stalled ∧ (s.effMask i).resumed = true
    ∃ t r rec, exec (.data ⟨g, .idle⟩) s = .next t ∧
      t.lane g.link = some ⟨g.handle, 1, .accepted, (t.ctx i).edge⟩ ∧ t.intake.lastLink = g.link ∧
      t.intake = (s.answered g.link g.handle 1 .accepted (t.ctx i).edge).intake ∧
      t.ctx i =
        { c with
          state := .active, timer := fullStall c.stallSelect, damaged := 0
          extents := insertExtents (c.newRangesOf g) c.extents
          digest := c.digest.add (contributionSum (c.piecesFor g))
          total := if implies then .implied stop else c.total
          blocksHeld := c.blocksHeld + blocks, staged := c.staged ++ [r]
          area0 := (t.ctx i).area0, area1 := (t.ctx i).area1, owed := (t.ctx i).owed } ∧
      (if implies then
        (resumes → Charged t i .resumed (.resumed i)) ∧ (ExtentsSafe s → ∀ p, p < 2 → AreaCut s t i stop p)
      else
        (t.ctx i).area0 = c.area0 ∧ (t.ctx i).area1 = c.area1 ∧ (resumes → NoticeGiven s t i .resumed (.resumed i)) ∧
          (¬resumes → NoNotice s t i)) ∧
      s.staged r = none ∧ (∀ q, q < r → s.staged q ≠ none) ∧ t.staged r = some rec ∧
      rec.owner = i ∧ rec.offset = g.offset.toNat ∧ rec.length = g.length.toNat ∧
      rec.pieces = c.piecesFor g ∧ rec.blocks.length = blocks ∧
      (∀ k ∈ rec.blocks, blockUsed s.staging.pool k = false) ∧ (rec.blocks.Pairwise fun a b => a < b) ∧
      (∀ k, ∀ b ∈ rec.blocks, k < b → blockUsed s.staging.pool k = false → k ∈ rec.blocks) ∧
      readPayload t.staging.payload rec.blocks 0 g.length.toNat = g.payload ∧
      (∀ a, a / 2048 ∉ rec.blocks → readByte t.staging.payload a = readByte s.staging.payload a) ∧
      rec.state = t.fitState rec ∧
      t.staging.freeBlocks = s.staging.freeBlocks - blocks ∧ t.staging.freeRecords = s.staging.freeRecords - 1 ∧
      t.staging.constrained =
        decide (t.staging.freeBlocks < if s.staging.constrained then 1024 else 512) ∧
      (∀ q, q ≠ r → t.staged q = (s.staged q).map (t.judgedAgain fun k => k == i && implies)) ∧
      (∀ j, j ≠ i → t.ctx j = s.ctx j) ∧ t.map = s.map ∧ t.delivery = s.delivery ∧ t.groups = s.groups ∧
      t.verify = s.verify ∧ t.command = s.command ∧ t.resets = s.resets

/-- A DATA segment with no new byte, and a MANIFEST identical to the recorded one, that find the context ACTIVE or STALLED
and do not change the signal level, are answered DUPLICATE: the timer restarts, the damaged count becomes 0, a STALLED
context returns to ACTIVE, with RESUMED queued or owed when the mask holds it, and nothing else of the context changes. -/
def Obligations.DuplicatesOnlyRestartTheTimer : Prop :=
  ∀ (s : State) (i : Nat), Taking s → (s.ctx i).receiving = true →
    let kept := fun (t : State) =>
      t.ctx i =
          { s.ctx i with
            state := .active, timer := fullStall (s.ctx i).stallSelect, damaged := 0, owed := (t.ctx i).owed } ∧
        (if (s.ctx i).state = .stalled ∧ (s.effMask i).resumed = true then NoticeGiven s t i .resumed (.resumed i)
        else NoNotice s t i) ∧
        (∀ j, j ≠ i → t.ctx j = s.ctx j) ∧ t.map = s.map ∧ t.staging = s.staging ∧ t.delivery = s.delivery ∧
        t.groups = s.groups ∧ t.verify = s.verify ∧ t.command = s.command ∧ t.resets = s.resets
    (∀ g : DataSegment, DataSegment.wellShaped g = true → s.lookup ⟨g.peer, g.tag⟩ = some i →
      DataSegment.tallyMatches g = true → (s.ctx i).exclusive = true ∨ g.signal = (s.ctx i).signal →
      (s.ctx i).rangeRefusal g = none → (s.ctx i).newRangesOf g = [] →
      ∃ t, exec (.data ⟨g, .idle⟩) s = .next t ∧ t.lane g.link = some ⟨g.handle, 1, .duplicate, (s.ctx i).edge⟩ ∧
        t.intake = (s.answered g.link g.handle 1 .duplicate (s.ctx i).edge).intake ∧ kept t) ∧
      ∀ g : ManifestSegment, ManifestSegment.wellShaped g = true → s.lookup ⟨g.peer, g.tag⟩ = some i →
        (s.ctx i).exclusive = true ∨ g.signal = (s.ctx i).signal →
        (s.ctx i).total = .manifest g.total.toNat ⟨g.expectedA.toNat, g.expectedB.toNat⟩ →
        ∃ t, exec (.manifest ⟨g, .idle⟩) s = .next t ∧ t.lane g.link = some ⟨g.handle, 2, .duplicate, (s.ctx i).edge⟩ ∧
          t.intake = (s.answered g.link g.handle 2 .duplicate (s.ctx i).edge).intake ∧ kept t

/-- A DATA segment in DONE is DUPLICATE within the total, whatever its tally, and BEYOND_END past it; a MANIFEST or ABANDON in
DONE is CLOSED. In FAILED an ABANDON is CLOSED, and so are, with the signal level unchanged, DATA and MANIFEST. But for the
damaged count that a DUPLICATE sets to 0, the segment changes nothing beside its link's lane and the last link served. -/
def Obligations.DataInDoneAndFailed : Prop :=
  ∀ (s : State) (i : Nat), Taking s →
    let answers := fun (c : Instr) (link : BitVec 2) (handle : BitVec 16) (kind : BitVec 8) (code : DispositionCode)
        (d : Ctx) =>
      ∃ t, exec c s = .next t ∧ t.lane link = some ⟨handle, kind, code, (s.ctx i).edge⟩ ∧ t.ctx i = d ∧
        t.intake = (s.answered link handle kind code (s.ctx i).edge).intake ∧
        (∀ j, j ≠ i → t.ctx j = s.ctx j) ∧ t.map = s.map ∧ t.staging = s.staging ∧ t.delivery = s.delivery ∧
        t.groups = s.groups ∧ t.verify = s.verify ∧ t.command = s.command ∧ t.notice = s.notice ∧
        t.actions = s.actions ∧ t.resets = s.resets
    (∀ g : DataSegment, DataSegment.wellShaped g = true → s.lookup ⟨g.peer, g.tag⟩ = some i →
      let answered := answers (.data ⟨g, .idle⟩) g.link g.handle 1
      ((s.ctx i).state = .done →
        (g.offset.toNat + g.length.toNat ≤ (s.ctx i).endBound → answered .duplicate { s.ctx i with damaged := 0 }) ∧
          ((s.ctx i).endBound < g.offset.toNat + g.length.toNat → answered .beyondEnd (s.ctx i))) ∧
        ((s.ctx i).state = .failed →
          DataSegment.tallyMatches g = false ∨ (s.ctx i).exclusive = true ∨ g.signal = (s.ctx i).signal →
          answered .closed (s.ctx i))) ∧
      (∀ g : ManifestSegment, ManifestSegment.wellShaped g = true → s.lookup ⟨g.peer, g.tag⟩ = some i →
        (s.ctx i).state = .done ∨
          ((s.ctx i).state = .failed ∧ ((s.ctx i).exclusive = true ∨ g.signal = (s.ctx i).signal)) →
        answers (.manifest ⟨g, .idle⟩) g.link g.handle 2 .closed (s.ctx i)) ∧
      ∀ g : AbandonSegment, g.payload = [] → s.lookup ⟨g.peer, g.tag⟩ = some i →
        (s.ctx i).state = .done ∨ (s.ctx i).state = .failed →
        answers (.abandon ⟨g, .idle⟩) g.link g.handle 3 .closed (s.ctx i)

/-- A DATA segment of an ACTIVE or STALLED context whose tally differs is answered DAMAGED with the edge as it stands. The
damaged count rises by 1 up to 255; where that reaches a nonzero damage limit the context enters FAILED with cause
DAMAGE_LIMIT, and otherwise nothing else changes. Of intake only the link's lane and the last link served change. -/
def Obligations.DamagedSegmentsCounted : Prop :=
  ∀ (s : State) (g : DataSegment) (i : Nat), Taking s → StagingConserved s → DataSegment.wellShaped g = true →
    s.lookup ⟨g.peer, g.tag⟩ = some i → (s.ctx i).receiving = true → DataSegment.tallyMatches g = false →
    ∃ t, exec (.data ⟨g, .idle⟩) s = .next t ∧ t.lane g.link = some ⟨g.handle, 1, .damaged, (s.ctx i).edge⟩ ∧
      t.intake = (s.answered g.link g.handle 1 .damaged (s.ctx i).edge).intake ∧
      (t.ctx i).damaged = min 255 ((s.ctx i).damaged + 1) ∧
      (if (s.ctx i).damageLimit.toNat ≠ 0 ∧ (s.ctx i).damageLimit.toNat ≤ min 255 ((s.ctx i).damaged + 1) then
        EnteredFailed s t i .damageLimit
      else
        t.ctx i = { s.ctx i with damaged := min 255 ((s.ctx i).damaged + 1) } ∧ (∀ j, j ≠ i → t.ctx j = s.ctx j) ∧
          t.map = s.map ∧ t.staging = s.staging ∧ t.delivery = s.delivery ∧ t.groups = s.groups ∧
          t.verify = s.verify ∧ t.command = s.command ∧ t.notice = s.notice ∧ t.resets = s.resets)

/-- The refusals of a DATA segment at the range, extent-limit and staging stages, in their order: an end segment that
disagrees with an implied total or lies below the data received is MALFORMED, a segment past the end bound BEYOND_END,
more than 24 extents after insertion EXTENT_LIMIT, blocks beyond the quota QUOTA, too few free blocks or no free record,
or in constrained mode a record that would be PARKED, STAGING_FULL. With the signal level unchanged the segment changes
nothing but its link's lane and the last link served. -/
def Obligations.RefusedDataChangesNothing : Prop :=
  ∀ (s : State) (g : DataSegment) (i : Nat), Taking s → DataSegment.wellShaped g = true →
    s.lookup ⟨g.peer, g.tag⟩ = some i → (s.ctx i).receiving = true → DataSegment.tallyMatches g = true →
    (s.ctx i).exclusive = true ∨ g.signal = (s.ctx i).signal →
    ∀ code : DispositionCode, s.dataRefusal i g = some code →
      ∃ t, exec (.data ⟨g, .idle⟩) s = .next t ∧ t.lane g.link = some ⟨g.handle, 1, code, (s.ctx i).edge⟩ ∧
        t.intake = (s.answered g.link g.handle 1 code (s.ctx i).edge).intake ∧
        (∀ j, t.ctx j = s.ctx j) ∧ t.map = s.map ∧ t.staging = s.staging ∧ t.delivery = s.delivery ∧
        t.groups = s.groups ∧ t.verify = s.verify ∧ t.command = s.command ∧ t.notice = s.notice ∧ t.resets = s.resets

/-- An end segment that disagrees with a manifest's total, a MANIFEST that differs from the recorded one, from an implied
total, or lies below the data received, and an ABANDON, fail an ACTIVE or STALLED context, with cause MANIFEST_CONFLICT
for the first two and ABANDONED for the last. The edge answered is that before the segment. TRANSFER_FAILED and, of a first
failure in its group, GROUP_FAILED are queued or owed, and the group's failure hold begins where its flag is set. -/
def Obligations.ConflictAndAbandonFailTheContext : Prop :=
  ∀ (s : State) (i : Nat), Taking s → StagingConserved s → (s.ctx i).receiving = true →
    (∀ (g : DataSegment) (n : Nat) (d : Tally), DataSegment.wellShaped g = true →
      s.lookup ⟨g.peer, g.tag⟩ = some i → DataSegment.tallyMatches g = true →
      (s.ctx i).exclusive = true ∨ g.signal = (s.ctx i).signal → g.length.toNat % 4 ≠ 0 →
      (s.ctx i).total = .manifest n d → g.offset.toNat + g.length.toNat ≠ n →
      ∃ t, exec (.data ⟨g, .idle⟩) s = .next t ∧ t.lane g.link = some ⟨g.handle, 1, .conflict, (s.ctx i).edge⟩ ∧
        t.intake = (s.answered g.link g.handle 1 .conflict (s.ctx i).edge).intake ∧ EnteredFailed s t i .manifestConflict) ∧
      (∀ g : ManifestSegment, ManifestSegment.wellShaped g = true → s.lookup ⟨g.peer, g.tag⟩ = some i →
        (s.ctx i).exclusive = true ∨ g.signal = (s.ctx i).signal →
        (∃ n d, (s.ctx i).total = .manifest n d ∧ (n ≠ g.total.toNat ∨ d ≠ ⟨g.expectedA.toNat, g.expectedB.toNat⟩)) ∨
          (∃ n, (s.ctx i).total = .implied n ∧ n ≠ g.total.toNat) ∨
          ((s.ctx i).expected = none ∧ g.total.toNat < highMark (s.ctx i).retired (s.ctx i).extents) →
        ∃ t, exec (.manifest ⟨g, .idle⟩) s = .next t ∧ t.lane g.link = some ⟨g.handle, 2, .conflict, (s.ctx i).edge⟩ ∧
          t.intake = (s.answered g.link g.handle 2 .conflict (s.ctx i).edge).intake ∧ EnteredFailed s t i .manifestConflict) ∧
      ∀ g : AbandonSegment, g.payload = [] → s.lookup ⟨g.peer, g.tag⟩ = some i →
        ∃ t, exec (.abandon ⟨g, .idle⟩) s = .next t ∧ t.lane g.link = some ⟨g.handle, 3, .accepted, (s.ctx i).edge⟩ ∧
          t.intake = (s.answered g.link g.handle 3 .accepted (s.ctx i).edge).intake ∧ EnteredFailed s t i .abandoned

/-- A MANIFEST that conflicts with nothing and does not change the signal level is recorded: total and expected digest
become the manifest's, a STALLED context has RESUMED, and a first total cuts the areas, with HALF_FILLED where due, and has the
records judged again. If the retired edge then equals the total, the context is DONE with an equal digest, with TRANSFER_DONE
and the last member's GROUP_DONE, and FAILED(DIGEST_MISMATCH) with another; otherwise it is ACTIVE with its timer restarted.
Windows retire exactly by R104, judged by the total and the areas it leaves. Digest and contiguous edge stay. The extents and
areas are as the invariant above states. -/
def Obligations.ManifestIsRecorded : Prop :=
  ∀ (s : State) (g : ManifestSegment) (i : Nat), Taking s → ExtentsSafe s → StagingConserved s →
    ManifestSegment.wellShaped g = true →
    s.lookup ⟨g.peer, g.tag⟩ = some i → (s.ctx i).receiving = true →
    (s.ctx i).exclusive = true ∨ g.signal = (s.ctx i).signal →
    (s.ctx i).total = .absent ∨ (s.ctx i).total = .implied g.total.toNat →
    highMark (s.ctx i).retired (s.ctx i).extents ≤ g.total.toNat →
    let c := s.ctx i
    ∃ t, exec (.manifest ⟨g, .idle⟩) s = .next t ∧ t.lane g.link = some ⟨g.handle, 2, .accepted, c.edge⟩ ∧
      t.intake = (s.answered g.link g.handle 2 .accepted c.edge).intake ∧
      (t.ctx i).total = .manifest g.total.toNat ⟨g.expectedA.toNat, g.expectedB.toNat⟩ ∧
      (t.ctx i).digest = c.digest ∧ (t.ctx i).damaged = 0 ∧ (t.ctx i).edge = c.edge ∧ c.retired ≤ (t.ctx i).retired ∧
      (c.state = .stalled → (s.effMask i).resumed = true → Charged t i .resumed (.resumed i)) ∧
      (c.total = .absent → ∀ p, p < 2 → AreaCut s t i g.total.toNat p) ∧
      (c.total ≠ .absent → ∀ p, p < 2 → (t.ctx i).area p = c.area p ∨
        ((t.ctx i).area p = { c.area p with state := .filled } ∧ c.retired < (t.ctx i).retired)) ∧
      (∀ n, c.retired = n * windowSize c.windowSelect → (t.ctx i).retired ≠ c.retired →
        Charged t i .windowFilled
          (.windowFilled i (n % 2) n (min (windowSize c.windowSelect) (g.total.toNat - c.retired)) (c.area n).digest)) ∧
      Retires s t i
        { c with
          total := .manifest g.total.toNat ⟨g.expectedA.toNat, g.expectedB.toNat⟩
          area0 := if c.total = .absent then c.cutArea g.total.toNat c.area0 else c.area0
          area1 := if c.total = .absent then c.cutArea g.total.toNat c.area1 else c.area1 }
        (s.pieceLeft i fun _ => false) ∧
      (if (t.ctx i).retired = g.total.toNat then
        (if c.digest = ⟨g.expectedA.toNat, g.expectedB.toNat⟩ then Completed s t i else Failed s t i .digestMismatch)
      else (t.ctx i).state = .active ∧ (t.ctx i).timer = fullStall c.stallSelect ∧ t.groups = s.groups) ∧
      ((t.ctx i).state ≠ .failed → (t.ctx i).retired = c.retired →
        Rejudged s t fun j => j == i && c.total == .absent) ∧
      (t.ctx i).key = c.key ∧ (t.ctx i).signal = c.signal ∧ (t.ctx i).generation = c.generation ∧ t.map = s.map ∧
      t.verify = s.verify ∧ t.command = s.command ∧ t.delivery = s.delivery ∧ t.hostSettings = s.hostSettings

/-- A DATA that matches its tally, and a MANIFEST, of a context in ACTIVE, STALLED or FAILED that is not exclusive record
the segment's signal level. A rise queues SENDER_SIGNAL, or owes it, when the action set has NOTIFY and the mask holds it;
holds the context when it has HOLD, so that no record of it stays ELIGIBLE; and restarts the context when it has RESTART
and no area is faulted, with RESTARTED queued or owed when the mask holds it. The generation changes at no other level. The
stage comes first: the segment then goes on as it would in the state the stage leaves, where the level no longer changes, and
in a context still FAILED it is answered CLOSED. What the restart makes of a verify request that an earlier restart aborted is
the model's choice (log 14). -/
def Obligations.SenderSignalActs : Prop :=
  ∀ (s : State) (i : Nat), Taking s → (s.ctx i).exclusive = false →
    (s.ctx i).receiving = true ∨ (s.ctx i).state = .failed →
    let c := s.ctx i
    let acts := fun (t : State) (level : Bool) =>
      let rises := level = true ∧ c.signal = false
      (t.ctx i).signal = level ∧
        (rises → s.actions.notify = true → (s.effMask i).senderSignal = true →
          Notice.senderSignal i ∈ t.notice.queue ∨ OwedKind.senderSignal ∈ (t.ctx i).owed) ∧
        (level = true → s.actions.hold = true → t.effHold i = true) ∧
        (rises → s.actions.hold = true → s.effHold i = false →
          ∀ r rec, t.staged r = some rec → rec.owner = i → rec.state ≠ .eligible) ∧
        (if rises ∧ s.actions.restart = true ∧ c.area0.faulted = false ∧ c.area1.faulted = false then
          (t.ctx i).generation = c.generation + 1 ∧ (t.ctx i).current = 0 ∧ (t.ctx i).older = c.older + c.current ∧
            (t.ctx i).fence = decide (0 < c.older + c.current) ∧
            ((t.ctx i).state ≠ .failed → (t.ctx i).cause = none) ∧
            ((s.effMask i).restarted = true →
              Notice.restarted i (c.generation + 1) ∈ t.notice.queue ∨ OwedKind.restarted ∈ (t.ctx i).owed)
        else (t.ctx i).generation = c.generation)
    (∀ g : DataSegment, DataSegment.wellShaped g = true → s.lookup ⟨g.peer, g.tag⟩ = some i →
      DataSegment.tallyMatches g = true →
      ∃ t, exec (.data ⟨g, .idle⟩) s = .next t ∧ acts t g.signal ∧
        (CanonicalForm s → StagingConserved s → ∃ u, Signalled s u i g.signal ∧
          (if (u.ctx i).receiving then exec (.data ⟨g, .idle⟩) u = .next t
          else t = u.answered g.link g.handle 1 .closed (u.ctx i).edge))) ∧
      ∀ g : ManifestSegment, ManifestSegment.wellShaped g = true → s.lookup ⟨g.peer, g.tag⟩ = some i →
        ∃ t, exec (.manifest ⟨g, .idle⟩) s = .next t ∧ acts t g.signal ∧
          (CanonicalForm s → StagingConserved s → ∃ u, Signalled s u i g.signal ∧
            (if (u.ctx i).receiving then exec (.manifest ⟨g, .idle⟩) u = .next t
            else t = u.answered g.link g.handle 2 .closed (u.ctx i).edge))

/-! ## Host commands -/

/-- A command that names a context by index resolves it first: 4096 or more ends it BAD_PARAM with index 0, a FREE or
CLOSING record NO_CONTEXT with the index as given, and nothing else changes. Resolved, none of them ends so with
NO_CONTEXT. The entry was fetched since the last full reset. -/
def Obligations.IndexIsResolvedFirst : Prop :=
  ∀ (c : Instr) (s : State) (tag : BitVec 16) (code : BitVec 8) (index : BitVec 16), Fetched s →
    namedIndex c = some (tag, code, index) → issuedAt c = some s.resets.count →
    (4096 ≤ index.toNat → exec c s = .next (s.ended tag code .badParam 0)) ∧
      (index.toNat < 4096 → (s.ctx index.toNat).state = .free ∨ (s.ctx index.toNat).state = .closing →
        exec c s = .next (s.ended tag code .noContext index.toNat)) ∧
      (index.toNat < 4096 → (s.ctx index.toNat).isOpen = true →
        ∀ t, exec c s = .next t → t ≠ s.ended tag code .noContext index.toNat)

/-- OPEN's checks, in their order: the first that fails gives its status with index 0, and nothing else changes. -/
def Obligations.OpenChecksInOrder : Prop :=
  ∀ (m : OpenCommand) (s : State) (status : CmdStatus), Fetched s →
    s.openRefusal m = some status →
    exec (.openTransfer (s.reply m)) s = .next (s.ended m.hostTag 1 status 0)

/-- OPEN with every check passed takes the lowest-indexed FREE record, gives it the "At OPEN" values, and inserts the key
with its index at the end of the key's bucket, where a lookup finds it. No other record changes, and the one notice queued
is the CMD_RESULT with status OK and the index. -/
def Obligations.OpenTakesTheLowestFreeRecord : Prop :=
  ∀ (m : OpenCommand) (s : State) (i : Nat), Fetched s → m.windowSelect.toNat ≤ 4 → m.base0.toNat % 64 = 0 →
    m.base1.toNat % 64 = 0 → s.mayWrite m.base0.toNat (windowSize m.windowSelect) = true →
    s.mayWrite m.base1.toNat (windowSize m.windowSelect) = true → s.lookup ⟨m.peer, m.tag⟩ = none →
    (s.bucket (bucketOf ⟨m.peer, m.tag⟩)).length < 4 → i < 4096 → (s.ctx i).state = .free →
    (∀ j, j < i → (s.ctx j).state ≠ .free) →
    ∃ t, exec (.openTransfer (s.reply m)) s = .next t ∧ t.lookup ⟨m.peer, m.tag⟩ = some i ∧
      t.ctx i =
        { state := .active, key := some ⟨m.peer, m.tag⟩, priority := m.priority, mask := m.mask,
          exclusive := m.exclusive, hostHold := m.hostHold, stallSelect := m.stallSelect,
          abandonMultiplier := m.abandonMultiplier, damageLimit := m.damageLimit,
          quota := max 1 (min m.quota.toNat 4096), windowSelect := m.windowSelect, total := .absent, digest := ⟨0, 0⟩,
          retired := 0, extents := [],
          area0 :=
            { base := m.base0.toNat, state := .ready, window := some 0, delivered := 0, digest := ⟨0, 0⟩,
              halfSent := false, faulted := false, verify := .none }
          area1 :=
            { base := m.base1.toNat, state := .ready, window := some 1, delivered := 0, digest := ⟨0, 0⟩,
              halfSent := false, faulted := false, verify := .none }
          staged := [], blocksHeld := 0, current := 0, older := 0, generation := 0, fence := false, signal := false,
          damaged := 0, timer := .stall (stallInterval m.stallSelect), cause := none, group := none, owed := [] } ∧
      t.bucket (bucketOf ⟨m.peer, m.tag⟩) = s.bucket (bucketOf ⟨m.peer, m.tag⟩) ++ [⟨⟨m.peer, m.tag⟩, i⟩] ∧
      (∀ b, b ≠ bucketOf ⟨m.peer, m.tag⟩ → t.bucket b = s.bucket b) ∧ (∀ j, j ≠ i → t.ctx j = s.ctx j) ∧
      t.notice = (s.ended m.hostTag 1 .ok i).notice ∧ t.command = (s.ended m.hostTag 1 .ok i).command ∧
      t.intake = s.intake ∧ t.staging = s.staging ∧ t.delivery = s.delivery ∧ t.groups = s.groups ∧
      t.verify = s.verify ∧ t.actions = s.actions ∧ t.resets = s.resets

/-- QUERY: a selector other than 0 and 1 is BAD_PARAM with index 0; by index, 4096 or more is BAD_PARAM with index 0 and a
FREE or CLOSING record NO_CONTEXT with the index; by key, a key not in the map is NO_CONTEXT with index 0; then, with the
index selected, an address not a multiple of 64 is BAD_PARAM and one outside the apertures BAD_ADDRESS. A refused QUERY
hands no write to the port and changes nothing else. -/
def Obligations.QueryChecksInOrder : Prop :=
  ∀ (m : QueryCommand) (s : State), Fetched s →
    let refused := fun (status : CmdStatus) (index : Nat) =>
      exec (.query (s.reply m)) s = .next (s.ended m.hostTag 2 status index)
    (1 < m.selector.toNat → refused .badParam 0) ∧
      (m.selector = 0 → 4096 ≤ m.index.toNat → refused .badParam 0) ∧
      (m.selector = 0 → m.index.toNat < 4096 →
        (s.ctx m.index.toNat).state = .free ∨ (s.ctx m.index.toNat).state = .closing →
        refused .noContext m.index.toNat) ∧
      (m.selector = 1 → s.lookup ⟨m.peer, m.tag⟩ = none → refused .noContext 0) ∧
      ∀ i, (m.selector = 0 ∧ m.index.toNat = i ∧ i < 4096 ∧ (s.ctx i).isOpen = true) ∨
          (m.selector = 1 ∧ s.lookup ⟨m.peer, m.tag⟩ = some i) →
        (m.address.toNat % 64 ≠ 0 → refused .badParam i) ∧
          (m.address.toNat % 64 = 0 → s.mayWrite m.address.toNat 512 = false → refused .badAddress i)

/-- A QUERY that passes its checks captures the record as it stands, with the number of its staged records in their place,
its place in the map and its effective priority and hold, hands the snapshot write to the port, and stays in execution
with no CMD_RESULT. Nothing else changes. The settings followed are those of the leader, who is the first member of the group,
or of the context itself in none: the effective priority, and the mask, are the leader's; the effective hold is on when the
leader's host hold is, or, of a context that is not exclusive, when its group has the flag and a failed member, or its signal
level is 1 and the action set holds HOLD. -/
def Obligations.QueryCapturesTheRecord : Prop :=
  ∀ (m : QueryCommand) (s : State) (i : Nat), Fetched s →
    (m.selector = 0 ∧ m.index.toNat = i ∧ i < 4096 ∧ (s.ctx i).isOpen = true) ∨
      (m.selector = 1 ∧ s.lookup ⟨m.peer, m.tag⟩ = some i) →
    m.address.toNat % 64 = 0 → s.mayWrite m.address.toNat 512 = true →
    ∃ t n, exec (.query (s.reply m)) s = .next t ∧
      t = { s with
        command := { s.command with
          fetch := none, head := (s.command.head + 1) % s.command.size, executing := some ⟨m.hostTag, i⟩ }
        delivery := { s.delivery with snapshotPort := .waiting ⟨m.address.toNat, n⟩ } } ∧
      n.index = i ∧ n.record = { s.ctx i with staged := [] } ∧ n.stagedCount = (s.ctx i).staged.length ∧
      n.effPriority = s.effPriority i ∧ n.effHold = s.effHold i ∧
      (∀ lead, ((s.ctx i).group = none ∧ lead = i) ∨
          (∃ g more, (s.ctx i).group = some g ∧ (s.group g).members = lead :: more) →
        n.effPriority = (s.ctx lead).priority ∧ s.effMask i = (s.ctx lead).mask ∧
          (n.effHold = true ↔
            (s.ctx lead).hostHold = true ∨
              ((s.ctx i).exclusive = false ∧ ∃ g, (s.ctx i).group = some g ∧ (s.group g).holdOnFailure = true ∧
                0 < (s.group g).failed) ∨
              ((s.ctx i).exclusive = false ∧ (s.ctx i).signal = true ∧ s.actions.hold = true))) ∧
      (∀ k, (s.ctx i).key = some k → n.bucket = bucketOf k ∧
        n.position = (s.bucket (bucketOf k)).findIdx fun e => e.key == k) ∧
      ((s.ctx i).group = none → n.group = none) ∧
      ∀ g, (s.ctx i).group = some g → ∃ v, n.group = some v ∧ v.number = g ∧ v.leader = (s.group g).members.headD 0 ∧
        v.members = (s.group g).members.length ∧ v.done = (s.group g).done ∧ v.failed = (s.group g).failed ∧
        v.holdOnFailure = (s.group g).holdOnFailure ∧ v.place = (s.group g).members.findIdx fun j => j == i

/-- A waiting snapshot write is issued when its range lies within one enabled, write-permitted aperture, and otherwise
reported FAULT at once; a report ends the QUERY: its CMD_RESULT carries OK or BAD_ADDRESS with the index, takes the
reserved entry, and no command is in execution. -/
def Obligations.SnapshotWriteEndsTheQuery : Prop :=
  ∀ (s : State) (w : SnapshotWrite) (q : QueryExec), s.resets.held = false → s.command.executing = some q →
    let endedBy := fun (t : State) (status : CmdStatus) =>
      t.command = { s.command with executing := none } ∧ t.delivery.snapshotPort = .idle ∧
        t.notice = { s.notice with
          reserved := false, queue := s.notice.queue ++ [Notice.cmdResult q.index q.hostTag 2 status] } ∧
        t.contexts = s.contexts ∧ t.staging = s.staging ∧ t.delivery.jobs = s.delivery.jobs ∧
        t.delivery.issueOrder = s.delivery.issueOrder ∧ t.map = s.map ∧ t.resets = s.resets
    (s.delivery.snapshotPort = .waiting w → s.mayWrite w.address 512 = true →
      ∃ t, exec .snapshotWriteIssue s = .next t ∧ t.delivery.snapshotPort = .issued w ∧ t.notice = s.notice ∧
        t.command = s.command ∧ t.contexts = s.contexts ∧ t.staging = s.staging ∧
        t.delivery.jobs = s.delivery.jobs ∧ t.delivery.issueOrder = s.delivery.issueOrder) ∧
      (s.delivery.snapshotPort = .waiting w → s.mayWrite w.address 512 = false →
        ∃ t, exec .snapshotWriteIssue s = .next t ∧ endedBy t .badAddress) ∧
      (s.delivery.snapshotPort = .issued w →
        (∃ t, exec (.snapshotWriteReport (s.reply .ok)) s = .next t ∧ endedBy t .ok) ∧
          ∃ t, exec (.snapshotWriteReport (s.reply .fault)) s = .next t ∧ endedBy t .badAddress)

/-- ADJUST of a resolved context replaces each named setting and leaves the others, the quota clamped; setting exclusive
sets the signal level to 0; the timer restarts in its phase when the stall select is named, and in ABANDON also when the
multiplier is. The records of the contexts whose effective hold changed, either way, are judged again, PARKED ones becoming
ELIGIBLE where it went off, and its CMD_RESULT is the one notice queued. -/
def Obligations.AdjustReplacesTheNamedSettings : Prop :=
  ∀ (m : AdjustCommand) (s : State), Fetched s → m.index.toNat < 4096 → (s.ctx m.index.toNat).isOpen = true →
    let c := s.ctx m.index.toNat
    let select := m.stallSelect.getD c.stallSelect
    let multiplier := m.abandonMultiplier.getD c.abandonMultiplier
    ∃ t, exec (.adjust (s.reply m)) s = .next t ∧
      t.ctx m.index.toNat =
        { c with
          priority := m.priority.getD c.priority, mask := m.mask.getD c.mask, hostHold := m.hostHold.getD c.hostHold,
          exclusive := m.exclusive.getD c.exclusive, signal := c.signal && !(m.exclusive == some true),
          stallSelect := select, abandonMultiplier := multiplier,
          damageLimit := m.damageLimit.getD c.damageLimit,
          quota := match m.quota with
            | some q => max 1 (min q.toNat 4096)
            | none => c.quota
          timer := match c.timer with
            | .stopped => .stopped
            | .stall r => if m.stallSelect.isSome then .stall (stallInterval select) else .stall r
            | .abandon r =>
              if m.stallSelect.isSome || m.abandonMultiplier.isSome then
                .abandon (if multiplier = 0 then none else some (stallInterval select * multiplier.toNat))
              else .abandon r } ∧
      (∀ j, j ≠ m.index.toNat → t.ctx j = s.ctx j) ∧
      t.notice = (s.ended m.hostTag 3 .ok m.index.toNat).notice ∧
      t.command = (s.ended m.hostTag 3 .ok m.index.toNat).command ∧
      Rejudged s t (s.holdChanged t) ∧
      t.staging.freeBlocks = s.staging.freeBlocks ∧ t.staging.freeRecords = s.staging.freeRecords ∧
      t.intake = s.intake ∧ t.map = s.map ∧ t.delivery = s.delivery ∧ t.groups = s.groups ∧ t.verify = s.verify ∧
      t.actions = s.actions ∧ t.resets = s.resets

/-- REFILL's checks after the index, in their order: the first that fails gives its status with the index, and nothing else
changes. -/
def Obligations.RefillChecksInOrder : Prop :=
  ∀ (m : RefillCommand) (s : State) (status : CmdStatus), Fetched s → m.index.toNat < 4096 →
    (s.ctx m.index.toNat).isOpen = true →
    s.refillRefusal m = some status →
    exec (.refill (s.reply m)) s = .next (s.ended m.hostTag 4 status m.index.toNat)

/-- REFILL by the normal path moves the FILLED area from window n to n + 2 when that starts below the end bound, and to
IDLE with no window otherwise, with base, delivered bytes, digest, flags and verify status fresh; taking a window it has the
context's records judged again, PARKED ones becoming ELIGIBLE. Windows retire exactly by R104 in the evaluation that follows,
with WINDOW_FILLED, and the context is then DONE or FAILED(DIGEST_MISMATCH) when a manifest's total is reached. By the faulted path it replaces the base and clears
the flag, and leaves the rest. -/
def Obligations.RefillMovesTheArea : Prop :=
  ∀ (m : RefillCommand) (s : State), Fetched s → m.index.toNat < 4096 → (s.ctx m.index.toNat).isOpen = true →
    m.area.toNat ≤ 1 → m.base.toNat % 64 = 0 →
    let c := s.ctx m.index.toNat
    let a := c.area m.area.toNat
    let other := c.area (m.area.toNat + 1)
    let next := a.window.getD 0 + 2
    a.verify ≠ .queued → a.verify ≠ .active → s.mayWrite m.base.toNat (windowSize c.windowSelect) = true →
    (¬(c.state = .failed ∧ a.faulted = true) → a.state = .filled →
      ¬(other.state = .filled ∧ other.window.getD 0 < a.window.getD 0) →
      ∃ t, exec (.refill (s.reply m)) s = .next t ∧ EndsOk t m.hostTag 4 m.index.toNat ∧
        let d := t.ctx m.index.toNat
        let b := d.area m.area.toNat
        b.base = m.base.toNat ∧ b.delivered = 0 ∧ b.digest = ⟨0, 0⟩ ∧ b.halfSent = false ∧ b.faulted = false ∧
          b.verify = .none ∧
          (if next * windowSize c.windowSelect < c.endBound then
            b.window = some next ∧
              (b.state = .ready ∨ (b.state = .filled ∧ next * windowSize c.windowSelect < d.retired))
          else b.window = none ∧ b.state = .idle) ∧
          d.key = c.key ∧ d.digest = c.digest ∧ d.total = c.total ∧ d.generation = c.generation ∧
          (d.retired = c.retired → d.state = c.state ∧ t.groups = s.groups ∧
            Rejudged s t fun j => j == m.index.toNat && decide (next * windowSize c.windowSelect < c.endBound)) ∧
          (∀ n, c.retired = n * windowSize c.windowSelect → d.retired ≠ c.retired →
            Charged t m.index.toNat .windowFilled
              (.windowFilled m.index.toNat (n % 2) n (c.windowLength n) (d.area n).digest)) ∧
          (d.state = .done → c.state ≠ .done → Completed s t m.index.toNat) ∧
          (StagingConserved s → d.state = .failed → c.state ≠ .failed → Failed s t m.index.toNat .digestMismatch) ∧
          (StagingConserved s → Checked s t m.index.toNat c) ∧
          (ExtentsSafe s → Retires s t m.index.toNat
            (c.setArea m.area.toNat
              { base := m.base.toNat, delivered := 0, digest := ⟨0, 0⟩, halfSent := false, faulted := false, verify := .none
                state := if next * windowSize c.windowSelect < c.endBound then .ready else .idle
                window := if next * windowSize c.windowSelect < c.endBound then some next else none })
            (s.pieceLeft m.index.toNat fun _ => false)) ∧
          (∀ j, j ≠ m.index.toNat → (t.ctx j).state = (s.ctx j).state) ∧ t.map = s.map ∧
          t.delivery = s.delivery ∧ t.verify = s.verify ∧ t.intake = s.intake) ∧
      (c.state = .failed ∧ a.faulted = true →
        ∃ t, exec (.refill (s.reply m)) s = .next t ∧ EndsOk t m.hostTag 4 m.index.toNat ∧
          t.ctx m.index.toNat = c.setArea m.area.toNat { a with base := m.base.toNat, faulted := false } ∧
          (∀ j, j ≠ m.index.toNat → t.ctx j = s.ctx j) ∧ t.staging = s.staging ∧ t.delivery = s.delivery ∧
          t.notice = (s.ended m.hostTag 4 .ok m.index.toNat).notice)

/-- The checks of RESTART, REVERIFY, GROUP_JOIN and GROUP_LEAVE after the index, in their order: the first that fails gives
its status with the index, and nothing else changes. -/
def Obligations.ContextCommandChecksInOrder : Prop :=
  ∀ (s : State) (status : CmdStatus), Fetched s →
    let resolved := fun (index : BitVec 16) => index.toNat < 4096 ∧ (s.ctx index.toNat).isOpen = true
    (∀ m : IndexCommand, resolved m.index → (s.ctx m.index.toNat).restartRefusal = some status →
      exec (.restart (s.reply m)) s = .next (s.ended m.hostTag 5 status m.index.toNat)) ∧
      (∀ m : ReverifyCommand, resolved m.index → s.reverifyRefusal m = some status →
        exec (.reverify (s.reply m)) s = .next (s.ended m.hostTag 6 status m.index.toNat)) ∧
      (∀ m : JoinCommand, resolved m.index → s.joinRefusal m = some status →
        exec (.groupJoin (s.reply m)) s = .next (s.ended m.hostTag 8 status m.index.toNat)) ∧
      ∀ m : IndexCommand, resolved m.index → (s.ctx m.index.toNat).group = none →
        exec (.groupLeave (s.reply m)) s = .next (s.ended m.hostTag 9 .wrongState m.index.toNat)

/-- RESTART of a context that is not DONE and has no faulted area: ACTIVE, the next generation, edges, extents and digest
fresh, a manifest kept and an implied total cleared, its running jobs older and the fence up with them, both areas READY on
their bases (area 1 IDLE when a manifest leaves it nothing), its unwritten records freed, and its queued verify requests gone
with VERIFY_RESULT ABORTED. RESTARTED is queued or owed when the mask holds it. Key, settings, signal level and group stay, and
a group's failed count falls, which may end the failure hold of the others. That an area of a request aborted by an earlier
restart is NONE is log 14. -/
def Obligations.RestartStartsAgain : Prop :=
  ∀ (m : IndexCommand) (s : State), Fetched s → StagingConserved s → m.index.toNat < 4096 →
    (s.ctx m.index.toNat).isOpen = true → (s.ctx m.index.toNat).state ≠ .done →
    (s.ctx m.index.toNat).area0.faulted = false → (s.ctx m.index.toNat).area1.faulted = false →
    ∃ t, exec (.restart (s.reply m)) s = .next t ∧ EndsOk t m.hostTag 5 m.index.toNat ∧ Restarted s t m.index.toNat ∧
      (t.ctx m.index.toNat).signal = (s.ctx m.index.toNat).signal ∧
      t.command = (s.ended m.hostTag 5 .ok m.index.toNat).command

/-- REVERIFY with every check passed appends a request for the area as it stands. Into an empty queue it is at once active,
with its first read outstanding; otherwise the area shows QUEUED. The CMD_RESULT is the one notice queued. -/
def Obligations.ReverifyJoinsTheQueue : Prop :=
  ∀ (m : ReverifyCommand) (s : State), Fetched s → m.index.toNat < 4096 → (s.ctx m.index.toNat).isOpen = true →
    m.area.toNat ≤ 1 →
    let i := m.index.toNat
    let c := s.ctx i
    let a := c.area m.area.toNat
    let length := c.windowLength (a.window.getD 0)
    a.state = .filled → a.verify ≠ .queued → a.verify ≠ .active → s.mayRead a.base length = true →
    s.verify.length < 8 →
    ∃ t, exec (.reverify (s.reply m)) s = .next t ∧
      t.verify = s.verify ++
        [{ context := i, area := m.area.toNat, window := a.window.getD 0, base := a.base, length := length,
           bytesRead := 0, sums := ⟨0, 0⟩, readOutstanding := s.verify.isEmpty, aborted := false, byClose := false }] ∧
      t.ctx i = c.setArea m.area.toNat { a with verify := if s.verify = [] then .active else .queued } ∧
      (∀ j, j ≠ i → t.ctx j = s.ctx j) ∧ t.notice = (s.ended m.hostTag 6 .ok i).notice ∧
      t.command = (s.ended m.hostTag 6 .ok i).command ∧ t.staging = s.staging ∧ t.delivery = s.delivery ∧
      t.map = s.map ∧ t.groups = s.groups ∧ t.intake = s.intake ∧ t.actions = s.actions ∧ t.resets = s.resets

/-- CLOSE of a resolved context: the key finds nothing from then on, every other key what it found before; unwritten
records are freed; its queued verify requests leave with VERIFY_RESULT ABORTED, queued or dropped and never owed, and the active
one stays, marked, until its read returns; it is in no group, whose list and counts lose it, and which queues GROUP_DONE before
the CMD_RESULT, or owes it to the new leader, when that leaves every member DONE; and it is FREE, with every field at its FREE
value, when no job of it is in flight, and otherwise CLOSING. That an active request aborted by an earlier restart counts as aborted by the CLOSE
is log 15. -/
def Obligations.CloseRemovesTheContext : Prop :=
  ∀ (m : IndexCommand) (s : State), Fetched s → StagingConserved s → m.index.toNat < 4096 →
    (s.ctx m.index.toNat).isOpen = true →
    let i := m.index.toNat
    let c := s.ctx i
    ∃ t, exec (.close (s.reply m)) s = .next t ∧ EndsOk t m.hostTag 7 i ∧
      (∀ k, c.key = some k → t.lookup k = none ∧ ∀ k', k' ≠ k → t.lookup k' = s.lookup k') ∧
      (if c.current + c.older = 0 then t.ctx i = Ctx.free
      else
        (t.ctx i).state = .closing ∧ (t.ctx i).timer = .stopped ∧ (t.ctx i).group = none ∧ (t.ctx i).key = c.key ∧
          (t.ctx i).current = c.current ∧ (t.ctx i).older = c.older ∧ (t.ctx i).digest = c.digest ∧
          (t.ctx i).total = c.total ∧ (t.ctx i).retired = c.retired ∧ (t.ctx i).extents = c.extents) ∧
      (∀ r rec, s.staged r = some rec → rec.owner = i →
        t.staged r = if rec.state = .writing then some rec else none) ∧
      (GroupSafe s → OthersRejudged s t i) ∧
      (∀ q ∈ t.verify, q.context = i → q.aborted = true ∧ q.byClose = true) ∧
      (∀ q ∈ s.verify.tail, q.context = i →
        t.notice.full = true ∨ Notice.verifyResult i q.area q.window .aborted ∈ t.notice.queue) ∧
      (OwedKind.verifyResult ∈ (t.ctx i).owed → OwedKind.verifyResult ∈ c.owed) ∧
      (∀ a rest, s.verify = a :: rest → a.context = i → a.readOutstanding = true →
        t.verify = { a with aborted := true, byClose := true } :: rest.filter (fun q => q.context != i)) ∧
      (∀ a rest, s.verify = a :: rest → a.context ≠ i → t.verify = a :: rest.filter (fun q => q.context != i)) ∧
      ModeSet s t ∧
      (∀ g, c.group = some g →
        let before := s.group g
        let members := before.members.filter fun j => j != i
        let done := if c.state = .done then before.done - 1 else before.done
        let failed := if c.state = .failed then before.failed - 1 else before.failed
        let leader := members.headD 0
        t.group g =
            (if members = [] then { members := [], holdOnFailure := false, done := 0, failed := 0 }
            else { members := members, holdOnFailure := before.holdOnFailure, done := done, failed := failed }) ∧
          (∀ h, h ≠ g → t.group h = s.group h) ∧
          (if members ≠ [] ∧ before.done ≠ before.members.length ∧ done = members.length then
            ((s.ctx leader).owed = [] ∧ ∃ earlier, t.notice.queue = earlier ++
                [Notice.groupDone leader g members.length, Notice.cmdResult i m.hostTag 7 .ok]) ∨
              (((s.ctx leader).owed ≠ [] ∨ 64 ≤ t.notice.queue.length) ∧ t.notice.overflow = true ∧
                OwedKind.groupDone ∈ (t.ctx leader).owed)
          else ∀ j h n, Notice.groupDone j h n ∈ t.notice.queue → Notice.groupDone j h n ∈ s.notice.queue)) ∧
      (c.group = none → t.groups = s.groups ∧
        ∀ j h n, Notice.groupDone j h n ∈ t.notice.queue → Notice.groupDone j h n ∈ s.notice.queue) ∧
      (∀ j, j ≠ i → (t.ctx j).state = (s.ctx j).state ∧ (t.ctx j).key = (s.ctx j).key ∧
        (t.ctx j).digest = (s.ctx j).digest ∧ (t.ctx j).total = (s.ctx j).total ∧
        (t.ctx j).retired = (s.ctx j).retired ∧ (t.ctx j).extents = (s.ctx j).extents ∧
        (t.ctx j).staged = (s.ctx j).staged ∧ (t.ctx j).group = (s.ctx j).group) ∧
      t.delivery = s.delivery ∧ t.intake = s.intake ∧ t.actions = s.actions ∧ t.resets = s.resets

/-- GROUP_JOIN with every check passed puts the context at the end of the member list; an empty group comes into use with
the command's flag, and a group in use keeps its own. GROUP_LEAVE takes it off, lowers the count of its state, passes
leadership to the next in join order, returns an empty group to unused, and queues GROUP_DONE, or owes it to the leader,
when it leaves every remaining member DONE. The records of the contexts whose effective hold changed, either way, are judged
again. -/
def Obligations.GroupsAreJoinedAndLeft : Prop :=
  ∀ s : State, Fetched s →
    let rest := fun (t : State) =>
      Rejudged s t (s.holdChanged t) ∧ t.delivery = s.delivery ∧ t.map = s.map ∧ t.verify = s.verify ∧
        t.intake = s.intake ∧ t.actions = s.actions ∧ t.resets = s.resets
    (∀ m : JoinCommand, m.index.toNat < 4096 → m.group.toNat < 256 →
      (s.ctx m.index.toNat).receiving = true → (s.ctx m.index.toNat).group = none →
      (s.group m.group.toNat).members.length < 16 →
      let i := m.index.toNat
      let before := s.group m.group.toNat
      ∃ t, exec (.groupJoin (s.reply m)) s = .next t ∧
        t.ctx i = { s.ctx i with group := some m.group.toNat } ∧ (∀ j, j ≠ i → t.ctx j = s.ctx j) ∧
        t.group m.group.toNat =
          (if before.members = [] then
            { members := [i], holdOnFailure := m.holdOnFailure, done := 0, failed := 0 }
          else { before with members := before.members ++ [i] }) ∧
        (∀ h, h ≠ m.group.toNat → t.group h = s.group h) ∧
        t.notice = (s.ended m.hostTag 8 .ok i).notice ∧ t.command = (s.ended m.hostTag 8 .ok i).command ∧ rest t) ∧
      ∀ (m : IndexCommand) (g : Nat), m.index.toNat < 4096 → (s.ctx m.index.toNat).isOpen = true →
        (s.ctx m.index.toNat).group = some g →
        let i := m.index.toNat
        let c := s.ctx i
        let before := s.group g
        let members := before.members.filter fun j => j != i
        let done := if c.state = .done then before.done - 1 else before.done
        let failed := if c.state = .failed then before.failed - 1 else before.failed
        let leader := members.headD 0
        let ended := (s.ended m.hostTag 9 .ok i).notice
        ∃ t, exec (.groupLeave (s.reply m)) s = .next t ∧ t.ctx i = { c with group := none } ∧
          (∀ j, j ≠ i → t.ctx j = { s.ctx j with owed := (t.ctx j).owed }) ∧
          (∀ j, j ≠ i → j ≠ leader → t.ctx j = s.ctx j) ∧
          t.group g =
            (if members = [] then { members := [], holdOnFailure := false, done := 0, failed := 0 }
            else { members := members, holdOnFailure := before.holdOnFailure, done := done, failed := failed }) ∧
          (∀ h, h ≠ g → t.group h = s.group h) ∧
          (if members ≠ [] ∧ before.done ≠ before.members.length ∧ done = members.length then
            (if s.notice.full = false ∧ (s.ctx leader).owed = [] then
              t.notice = { ended with
                queue := s.notice.queue ++
                  [Notice.groupDone leader g members.length, Notice.cmdResult i m.hostTag 9 .ok] }
            else t.notice = { ended with overflow := true } ∧ OwedKind.groupDone ∈ (t.ctx leader).owed)
          else t.notice = ended) ∧
          t.command = (s.ended m.hostTag 9 .ok i).command ∧ rest t

/-- SET_APERTURE's checks, in their order, and its effect: the first that fails gives its status with index 0 and changes
nothing else. An aperture is in use when it is enabled and either area [base, base + W) of some context that is not FREE
overlaps [base, limit + 4096). With every check passed the one aperture takes the five settings. -/
def Obligations.SetApertureChecksAndReplaces : Prop :=
  ∀ (m : ApertureCommand) (s : State), Fetched s →
    let p := s.aperture m.aperture.toNat
    let overlaps := fun (c : Ctx) (a : Area) =>
      a.base < p.limit + 4096 ∧ p.base < a.base + windowSize c.windowSelect
    let inUse := p.enabled = true ∧ ∃ i, (s.ctx i).state ≠ .free ∧
      (overlaps (s.ctx i) (s.ctx i).area0 ∨ overlaps (s.ctx i) (s.ctx i).area1)
    let refused := fun (status : CmdStatus) =>
      exec (.setAperture (s.reply m)) s = .next (s.ended m.hostTag 10 status 0)
    (8 ≤ m.aperture.toNat → refused .badParam) ∧
      (m.aperture.toNat < 8 → m.base.toNat % 4096 ≠ 0 ∨ m.limit.toNat % 4096 ≠ 0 → refused .badParam) ∧
      (m.aperture.toNat < 8 → m.base.toNat % 4096 = 0 → m.limit.toNat % 4096 = 0 →
        (m.limit.toNat < m.base.toNat → refused .badParam) ∧
          (m.base.toNat ≤ m.limit.toNat → inUse → refused .apertureInUse) ∧
          (m.base.toNat ≤ m.limit.toNat → ¬inUse →
            ∃ t, exec (.setAperture (s.reply m)) s = .next t ∧
              t.aperture m.aperture.toNat =
                { base := m.base.toNat, limit := m.limit.toNat, enabled := m.enabled, write := m.write,
                  read := m.read } ∧
              (∀ k, k ≠ m.aperture.toNat → t.aperture k = s.aperture k) ∧
              t = { s.ended m.hostTag 10 .ok 0 with
                delivery := { s.delivery with apertures := t.delivery.apertures } }))

/-- COMMAND_FETCH begins when admission is open, a command waits, none is fetched or executed, no fetch fault is shown and
the notice queue is not full: it reserves an entry and reads the entry at the head; otherwise nothing happens. A fetch that
returns FAULT takes no command and shows the fault; one that returns in a drain is discarded. CONFIGURE replaces the action
set and the enable; where a hold comes on by it the context's records not WRITING are PARKED, and where one goes off they are
judged again and become ELIGIBLE on their windows. A code that names no command is BAD_COMMAND. -/
def Obligations.CommandsAreFetchedAndTaken : Prop :=
  ∀ s : State, s.resets.held = false →
    (s.resets.pending = false ∧ s.resets.draining = false ∧ s.command.head ≠ s.command.tail ∧
        s.command.executing = none ∧ s.command.fetch = none ∧ s.command.fetchFault = false ∧
        s.notice.queue.length + (if s.notice.reserved then 1 else 0) < 64 →
      exec .commandFetch s = .next { s with
        command := { s.command with fetch := some (s.command.base + 64 * s.command.head) }
        notice := { s.notice with reserved := true } }) ∧
      (s.resets.pending = true ∨ s.resets.draining = true ∨ s.command.head = s.command.tail ∨
          s.command.executing ≠ none ∨ s.command.fetch ≠ none ∨ s.command.fetchFault = true ∨
          64 ≤ s.notice.queue.length + (if s.notice.reserved then 1 else 0) →
        exec .commandFetch s = .next s) ∧
      (s.command.fetch.isSome = true →
        exec (.commandFetchFault (s.reply .fault)) s = .next { s with
          command := { s.command with fetch := none, fetchFault := true }
          notice := { s.notice with reserved := false } }) ∧
      (s.command.fetch.isSome = true → s.resets.draining = true →
        ∀ c : Instr, ((encodeEntry c).isSome = true ∧ issuedAt c = some s.resets.count) ∨
            c = .commandFetchFault (s.reply .ok) →
          exec c s = .next { s with
            command := { s.command with fetch := none }
            notice := { s.notice with reserved := false } }) ∧
      (Fetched s →
        (∀ m : UnknownCommand, exec (.badCommand (s.reply m)) s = .next (s.ended m.hostTag m.code .badCommand 0)) ∧
          ∀ m : ConfigureCommand, ∃ t, exec (.configure (s.reply m)) s = .next t ∧ t.actions = m.actions ∧
            t.intake = { s.intake with unmatchedEnable := m.unmatchedEnable } ∧ t.contexts = s.contexts ∧
            t.notice = (s.ended m.hostTag 11 .ok 0).notice ∧ t.command = (s.ended m.hostTag 11 .ok 0).command ∧
            Rejudged s t (s.holdChanged t) ∧
            t.delivery = s.delivery ∧ t.map = s.map ∧ t.groups = s.groups ∧ t.verify = s.verify ∧
            t.resets = s.resets)

/-! ## Delivery -/

/-- WRITE_JOB_GRANT. With quiesce inactive, admission open and fewer than 16 jobs, the arbiter takes, among the contexts
that hold an ELIGIBLE record, those of the highest effective priority, and of them the first after that level's pointer,
wrapping; and it grants that context's first ELIGIBLE record in arrival order: the record is WRITING, its job holds one
write for each piece, fixed now, the writes join the end of the issue order, the counts rise and the level's pointer is the
context. Otherwise nothing is granted. -/
def Obligations.GrantTakesTheFirstInTurn : Prop :=
  ∀ s : State, CanonicalForm s → (∀ r rec, s.staged r = some rec → (s.ctx rec.owner).state ≠ .free) →
    let holds := fun j => ∃ r rec, s.staged r = some rec ∧ rec.owner = j ∧ rec.state = .eligible
    (∀ (i r : Nat) (rec : StagedRecord) (earlier later : List Nat), Admitting s → s.delivery.inFlight < 16 →
      s.delivery.quiesceLine = false → s.delivery.quiesceRequest = false → holds i →
      (∀ j, holds j → (s.effPriority j).toNat ≤ (s.effPriority i).toNat) →
      (let p := s.pointer (s.effPriority i)
        let rivals := fun j => holds j ∧ s.effPriority j = s.effPriority i
        (p < i ∧ ∀ j, rivals j → p < j → i ≤ j) ∨ (i ≤ p ∧ ∀ j, rivals j → j ≤ p ∧ i ≤ j)) →
      (s.ctx i).staged = earlier ++ r :: later → s.staged r = some rec → rec.state = .eligible →
      (∀ q ∈ earlier, ∀ x, s.staged q = some x → x.state ≠ .eligible) →
      let c := s.ctx i
      ∃ t, exec .writeJobGrant s = .next t ∧ t.staged r = some { rec with state := .writing } ∧
        t.job r = some
          { owner := i, older := false,
            writes := rec.pieces.map fun p =>
              { window := p.window, source := p.start - rec.offset,
                address := (c.area p.window).base + (p.start - p.window * windowSize c.windowSelect),
                length := p.stop - p.start, progress := .waiting } } ∧
        t.delivery.issueOrder = s.delivery.issueOrder ++ (List.range rec.pieces.length).map (fun k => ⟨r, k⟩) ∧
        t.delivery.inFlight = s.delivery.inFlight + 1 ∧ t.ctx i = { c with current := c.current + 1 } ∧
        t.pointer (s.effPriority i) = i ∧ (∀ level, level ≠ s.effPriority i → t.pointer level = s.pointer level) ∧
        (∀ j, j ≠ i → t.ctx j = s.ctx j) ∧ (∀ q, q ≠ r → t.staged q = s.staged q ∧ t.job q = s.job q) ∧
        t.staging.freeBlocks = s.staging.freeBlocks ∧ t.staging.freeRecords = s.staging.freeRecords ∧
        t.staging.payload = s.staging.payload ∧ t.delivery.snapshotPort = s.delivery.snapshotPort ∧
        t.delivery.noticePort = s.delivery.noticePort ∧ t.notice = s.notice ∧ t.map = s.map ∧ t.groups = s.groups ∧
        t.verify = s.verify ∧ t.hostSettings = s.hostSettings) ∧
      (s.delivery.quiesceLine = true ∨ s.delivery.quiesceRequest = true ∨ 16 ≤ s.delivery.inFlight ∨ ¬Admitting s ∨
          (∀ j, ¬holds j) →
        exec .writeJobGrant s = .next s)

/-- PIECE_WRITE_ISSUE takes the first piece write in issue order. Within an enabled, write-permitted aperture it goes out
with its bytes from the record's blocks; outside, it is reported FAULT at once, and the job's writes that wait are taken
off the order, while its issued ones stay to be reported; with none issued, the job completes FAULT at once. While a snapshot
write waits, and with an empty order, nothing happens. -/
def Obligations.PieceWritesIssueInOrder : Prop :=
  ∀ s : State, s.resets.held = false →
    (s.delivery.issueOrder = [] ∨ s.delivery.snapshotPort.isWaiting = true → exec .pieceWriteIssue s = .next s) ∧
      ∀ (q : PieceRef) (rest : List PieceRef) (j : Job) (rec : StagedRecord) (w : PieceWrite),
        s.delivery.snapshotPort.isWaiting = false → s.delivery.issueOrder = q :: rest → s.job q.record = some j →
        s.staged q.record = some rec → j.writes[q.piece]? = some w →
        (s.mayWrite w.address w.length = true →
          ∃ t, exec .pieceWriteIssue s = .next t ∧
            t = { s with delivery := { s.delivery with issueOrder := rest, jobs := t.delivery.jobs } } ∧
            t.job q.record = some { j with
              writes := j.writes.set q.piece
                { w with progress := .issued (readPayload s.staging.payload rec.blocks w.source w.length) } } ∧
            ∀ r, r ≠ q.record → t.job r = s.job r) ∧
          (s.mayWrite w.address w.length = false →
            (∃ k v data, k ≠ q.piece ∧ j.writes[k]? = some v ∧ v.progress = .issued data) →
            ∃ t, exec .pieceWriteIssue s = .next t ∧
              t = { s with delivery := { s.delivery with
                issueOrder := rest.filter (fun x => x.record != q.record), jobs := t.delivery.jobs } } ∧
              t.job q.record = some { j with
                writes := (j.writes.set q.piece { w with progress := .fault }).map fun v =>
                  if v.progress = .waiting then { v with progress := .removed } else v } ∧
              ∀ r, r ≠ q.record → t.job r = s.job r) ∧
          (s.mayWrite w.address w.length = false → StagingConserved s → DeliverySafe s →
            (∀ k v data, k ≠ q.piece → j.writes[k]? = some v → v.progress ≠ .issued data) →
            ∃ t, exec .pieceWriteIssue s = .next t ∧
              t.delivery.issueOrder = rest.filter (fun x => x.record != q.record) ∧
              ((s.ctx j.owner).state ≠ .closing →
                FaultCompleted s t q.record j
                  (w.window :: (j.writes.filter fun v => v.progress == .fault).map PieceWrite.window)) ∧
              ((s.ctx j.owner).state = .closing → ClosingCompleted s t q.record j))

/-- The report of an outstanding piece write. OK with another write of the job open marks it. FAULT with another issued marks
it, and takes the waiting ones off the issue order; with none issued it completes the job FAULT, and so does OK as the last of a
job with an earlier fault. OK as the last of a job with no fault completes it: a current job adds its pieces to its areas, with
HALF_FILLED where half is reached; windows retire exactly by R104, the record out of the list, with WINDOW_FILLED; the context
is then DONE or FAILED(DIGEST_MISMATCH) when a manifest's total is reached; and the last older job clears the fence, upon which the records are judged again. In CLOSING a
completion only lowers the counts, and the last frees the record. -/
def Obligations.PieceReportsCompleteJobs : Prop :=
  ∀ (s : State) (record : BitVec 12) (piece : BitVec 5) (j : Job) (rec : StagedRecord) (w : PieceWrite)
    (data : List Byte), s.resets.held = false → StagingConserved s → DeliverySafe s →
    s.job record.toNat = some j → s.staged record.toNat = some rec → j.writes[piece.toNat]? = some w →
    w.progress = .issued data →
    let r := record.toNat
    let i := j.owner
    let c := s.ctx i
    let others := fun (p : WriteProgress → Prop) => ∀ k v, k ≠ piece.toNat → j.writes[k]? = some v → p v.progress
    let closed := fun (p : WriteProgress) => p = .ok ∨ p = .fault ∨ p = .removed
    let unissued := fun (p : WriteProgress) => ∀ bytes, p ≠ .issued bytes
    let faults := (j.writes.filter fun v => v.progress == .fault).map PieceWrite.window
    (¬others closed →
      ∃ t, exec (.pieceWriteReport record piece (s.reply .ok)) s = .next t ∧
        t = { s with delivery := { s.delivery with jobs := t.delivery.jobs } } ∧
        t.job r = some { j with writes := j.writes.set piece.toNat { w with progress := .ok } } ∧
        ∀ q, q ≠ r → t.job q = s.job q) ∧
      (¬others unissued →
        ∃ t, exec (.pieceWriteReport record piece (s.reply .fault)) s = .next t ∧
          t = { s with delivery := { s.delivery with
            jobs := t.delivery.jobs, issueOrder := s.delivery.issueOrder.filter fun x => x.record != r } } ∧
          t.job r = some { j with
            writes := (j.writes.set piece.toNat { w with progress := .fault }).map fun v =>
              if v.progress = .waiting then { v with progress := .removed } else v } ∧
          ∀ q, q ≠ r → t.job q = s.job q) ∧
      (others unissued → c.state ≠ .closing →
        ∃ t, exec (.pieceWriteReport record piece (s.reply .fault)) s = .next t ∧ FaultCompleted s t r j (w.window :: faults)) ∧
      (others closed → faults ≠ [] → c.state ≠ .closing →
        ∃ t, exec (.pieceWriteReport record piece (s.reply .ok)) s = .next t ∧ FaultCompleted s t r j faults) ∧
      (c.state = .closing →
        (others closed →
          ∃ t, exec (.pieceWriteReport record piece (s.reply .ok)) s = .next t ∧ ClosingCompleted s t r j) ∧
          (others unissued →
            ∃ t, exec (.pieceWriteReport record piece (s.reply .fault)) s = .next t ∧ ClosingCompleted s t r j)) ∧
      (others (fun p => p = .ok) → c.state ≠ .closing →
        ∃ t, exec (.pieceWriteReport record piece (s.reply .ok)) s = .next t ∧ JobEnded s t r j ∧ CountsFell s t j ∧
          (∀ n, n < 2 →
            let mine := if j.older then [] else rec.pieces.filter fun p => p.window % 2 == n
            ((t.ctx i).area n).delivered = (c.area n).delivered + (mine.map fun p => p.stop - p.start).sum ∧
              ((t.ctx i).area n).digest =
                (if mine = [] then (c.area n).digest else (c.area n).digest.add (contributionSum mine)) ∧
              ((t.ctx i).area n).base = (c.area n).base ∧ ((t.ctx i).area n).window = (c.area n).window ∧
              ((t.ctx i).area n).verify = (c.area n).verify ∧ ((t.ctx i).area n).faulted = (c.area n).faulted ∧
              (mine = [] ∨ c.receiving = false → ((t.ctx i).area n).halfSent = (c.area n).halfSent)) ∧
          (∀ p ∈ rec.pieces, j.older = false → c.receiving = true →
            (∀ q ∈ rec.pieces, q.window % 2 = p.window % 2 → q.window = p.window) →
            if (c.windowLength p.window + 1) / 2 ≤ ((t.ctx i).area p.window).delivered then
              ((t.ctx i).area p.window).halfSent = true ∧
                ((c.area p.window).halfSent = false → (s.effMask i).halfFilled = true →
                  Charged t i .halfFilled
                    (.halfFilled i (p.window % 2) p.window ((t.ctx i).area p.window).delivered))
            else ((t.ctx i).area p.window).halfSent = (c.area p.window).halfSent) ∧
          (∀ n, c.retired = n * windowSize c.windowSelect → (t.ctx i).retired ≠ c.retired →
            ((t.ctx i).area n).state = .filled ∧ ((t.ctx i).area n).window = some n ∧
              Charged t i .windowFilled
                (.windowFilled i (n % 2) n (c.windowLength n) ((t.ctx i).area n).digest)) ∧
          (if j.older then (t.ctx i).retired = c.retired
          else ExtentsSafe s → Retires s t i c (s.pieceLeft i fun q => q == r)) ∧
          Checked s t i c ∧ ((t.ctx i).state = c.state → t.groups = s.groups) ∧
          ((t.ctx i).retired = c.retired → (t.ctx i).state = c.state ∧ (t.ctx i).extents = c.extents ∧
            ∀ q x, q ≠ r → s.staged q = some x → t.staged q = some (t.judgedAgain (j.clearsFence s) x)) ∧
          (t.ctx i).digest = c.digest ∧ (t.ctx i).total = c.total)

/-! ## Timers, verify reads and notices -/

/-- STALL_EXPIRY of an ACTIVE context whose timer in STALL has run out moves it to STALLED and its timer to ABANDON, with
STALLED queued or owed when the mask holds it, and changes nothing else. ABANDON_EXPIRY of a STALLED context whose timer in
ABANDON has run out fails it with cause TIMED_OUT. Before the period has fully elapsed, in another state or phase, and with a
multiplier of 0 for the second, nothing changes: that the command is then no event is logs 3 and 4. -/
def Obligations.TimersExpire : Prop :=
  ∀ (s : State) (index : BitVec 12), s.resets.held = false →
    let i := index.toNat
    let c := s.ctx i
    (c.state = .active → c.timer = .stall 0 →
      ∃ t, exec (.stallExpiry index) s = .next t ∧
        t.ctx i =
          { c with
            state := .stalled
            timer :=
              .abandon (if c.abandonMultiplier = 0 then none
                else some (stallInterval c.stallSelect * c.abandonMultiplier.toNat))
            owed := (t.ctx i).owed } ∧
        (if (s.effMask i).stalled = true then NoticeGiven s t i .stalled (.stalled i) else NoNotice s t i) ∧
        (∀ j, j ≠ i → t.ctx j = s.ctx j) ∧ t.staging = s.staging ∧ t.delivery = s.delivery ∧ t.groups = s.groups ∧
        t.map = s.map ∧ t.verify = s.verify ∧ t.command = s.command ∧ t.intake = s.intake ∧ t.resets = s.resets) ∧
      (StagingConserved s → c.state = .stalled → c.timer = .abandon (some 0) →
        ∃ t, exec (.abandonExpiry index) s = .next t ∧ EnteredFailed s t i .timedOut) ∧
      (c.state ≠ .active ∨ c.timer ≠ .stall 0 → exec (.stallExpiry index) s = .next s) ∧
      (c.state ≠ .stalled ∨ c.timer ≠ .abandon (some 0) → exec (.abandonExpiry index) s = .next s)

/-- VERIFY_READ_RETURN for the active request. Bytes that are not the last go into the running sums at the area's own word
indices, and the next read goes out; one that the apertures do not allow ends the request READ_FAULT at its offset. Otherwise
the request ends: MATCH or MISMATCH by its sums against the area's digest after the last bytes, READ_FAULT with the offset of
the read that faulted, ABORTED when it had been aborted, in which case the area is not written: a newer request of the same area
behind it keeps its status, but for becoming active in its turn. In a drain a return that is not
the last ends it ABORTED, and no other request is started. The area's status takes the outcome; VERIFY_RESULT is queued or
owed, and for a request aborted by CLOSE queued or dropped; the next request whose first read the apertures allow is active
with that read out, and those before it end READ_FAULT in their turn. -/
def Obligations.VerifyReadsRunToAnOutcome : Prop :=
  ∀ (s : State) (r : VerifyRequest) (rest : List VerifyRequest), s.resets.held = false →
    s.verify = r :: rest → r.readOutstanding = true →
    let n := min 4096 (r.length - r.bytesRead)
    let c := s.ctx r.context
    let first := r.window * windowSize c.windowSelect / 4 + r.bytesRead / 4
    let draining := s.resets.draining = true
    let passes := fun (q : VerifyRequest) => s.mayRead (q.base + q.bytesRead) (min 4096 (q.length - q.bytesRead)) = true
    let sameArea := fun (q : VerifyRequest) => q.context = r.context ∧ q.area % 2 = r.area % 2
    let ends := fun (ret : ReadReturn) (o : VerifyOutcome) (status : VerifyStatus) =>
      ∃ t, exec (.verifyReadReturn (s.reply ret)) s = .next t ∧
        (draining ∨ (∀ q ∈ rest, ¬sameArea q) ∨ (∃ q more, rest = q :: more ∧ passes q ∧ ¬sameArea q) →
          (t.ctx r.context).area r.area = { c.area r.area with verify := status }) ∧
        (¬draining → ∀ q more, rest = q :: more → passes q → sameArea q →
          (t.ctx r.context).area r.area = { c.area r.area with verify := .active }) ∧
        (r.byClose = false → Charged t r.context .verifyResult (.verifyResult r.context r.area r.window o)) ∧
        (r.byClose = true → s.notice.full = false →
          Notice.verifyResult r.context r.area r.window o ∈ t.notice.queue) ∧
        (r.byClose = true → draining ∨ rest = [] →
          (∀ j, (t.ctx j).owed = (s.ctx j).owed) ∧ (s.notice.full = true → t.notice = s.notice)) ∧
        (draining → t.verify = rest) ∧
        (¬draining → (∀ q ∈ rest, ¬passes q) → t.verify = []) ∧
        (¬draining → ∀ failing q more, rest = failing ++ q :: more → (∀ f ∈ failing, ¬passes f) → passes q →
          t.verify = { q with readOutstanding := true } :: more ∧ ((t.ctx q.context).area q.area).verify = .active) ∧
        (¬draining → ∀ failing q more, rest = failing ++ q :: more → (∀ f ∈ failing, ¬passes f) → ¬passes q →
          q.aborted = false → q.byClose = false →
          Charged t q.context .verifyResult (.verifyResult q.context q.area q.window (.readFault q.bytesRead)) ∧
            (more = [] → ((t.ctx q.context).area q.area).verify = .readFault)) ∧
        (∀ j, (t.ctx j).state = (s.ctx j).state ∧ (t.ctx j).digest = (s.ctx j).digest ∧
          (t.ctx j).cause = (s.ctx j).cause) ∧
        t.staging = s.staging ∧ t.delivery = s.delivery ∧ t.groups = s.groups ∧ t.map = s.map ∧
        t.command = s.command ∧ t.resets = s.resets
    (r.aborted = true → ∀ ret, ends ret .aborted (c.area r.area).verify) ∧
      (r.aborted = false → draining → r.bytesRead + n < r.length → ∀ ret, ends ret .aborted .aborted) ∧
      (r.aborted = false → ¬draining ∨ r.length ≤ r.bytesRead + n →
        ends .fault (.readFault r.bytesRead) .readFault) ∧
      ∀ data : List Byte, r.aborted = false → data.length = n →
        let sums := r.sums.add (tallyFrom first data)
        (r.length ≤ r.bytesRead + n →
          (sums = (c.area r.area).digest → ends (.ok data) (.matched sums) .matched) ∧
            (sums ≠ (c.area r.area).digest → ends (.ok data) (.mismatch sums) .mismatch)) ∧
          (r.bytesRead + n < r.length → ¬draining →
            (¬passes { r with bytesRead := r.bytesRead + n } →
              ends (.ok data) (.readFault (r.bytesRead + n)) .readFault) ∧
              (passes { r with bytesRead := r.bytesRead + n } →
                ∃ t, exec (.verifyReadReturn (s.reply (.ok data))) s = .next t ∧
                  t.verify = { r with bytesRead := r.bytesRead + n, sums := sums } :: rest ∧
                  t.ctx r.context = c.setArea r.area { c.area r.area with verify := .active } ∧
                  (∀ j, j ≠ r.context → t.ctx j = s.ctx j) ∧ t.notice = s.notice ∧ t.staging = s.staging ∧
                  t.delivery = s.delivery ∧ t.groups = s.groups ∧ t.map = s.map ∧ t.command = s.command ∧
                  t.resets = s.resets))

/-- NOTICE_WRITE hands the oldest notice to the port for the entry at the producer when the ring has room, no notice write
is out and no notice write fault is shown; otherwise nothing happens. Reported OK, the notice leaves the queue, the producer
advances and an armed interrupt is sent; FAULT shows the fault. A consumer write is ignored in RESET_PENDING and otherwise
arms the interrupt, sent at once when notices are left. At the same moment as an advance, with notices left, one message goes
out in either order and the flag is clear. ROLLUP carries the owed set of the lowest context that has one. That
a notice is handed over and issued in one step, and waits only behind a waiting snapshot write, is log 11; that a
consumer write says whether it comes with a report, which is taken first where no notices are left, is log 25. -/
def Obligations.NoticesReachTheRing : Prop :=
  ∀ s : State, s.resets.held = false →
    let u := s.notice
    let blocked := u.queue = [] ∨ (u.producer + 1) % u.size = u.consumer ∨ s.delivery.noticePort ≠ .idle ∨
      u.writeFault = true
    (blocked → exec .noticeWrite s = .next s) ∧
      (∀ n more, ¬blocked → u.queue = n :: more →
        let w : NoticeWrite := { address := u.base + 32 * u.producer, notice := n }
        exec .noticeWrite s = .next { s with delivery := { s.delivery with
          noticePort := if s.delivery.snapshotPort.isWaiting = true then .waiting w else .issued w } }) ∧
      (∀ w, s.delivery.noticePort = .issued w →
        exec (.noticeWriteReport (s.reply .ok)) s = .next { s with
          delivery := { s.delivery with noticePort := .idle }
          notice := { u with
            queue := u.queue.tail, producer := (u.producer + 1) % u.size, armed := false
            messages := if u.armed then u.messages + 1 else u.messages } } ∧
          exec (.noticeWriteReport (s.reply .fault)) s = .next { s with
            delivery := { s.delivery with noticePort := .idle }
            notice := { u with writeFault := true } }) ∧
      (∀ value, s.resets.pending = true → exec (.noticeRingConsumerWrite ⟨value, .alone⟩) s = .next s) ∧
      (∀ value : BitVec 32, s.resets.pending = false →
        exec (.noticeRingConsumerWrite ⟨value, .alone⟩) s = .next { s with
          notice := { u with
            consumer := value.toNat % u.size
            armed := decide (u.producer = value.toNat % u.size)
            messages := if u.producer = value.toNat % u.size then u.messages else u.messages + 1 } }) ∧
      (∀ value report, s.resets.pending = true →
        exec (.noticeRingConsumerWrite ⟨value, .withReport report⟩) s = exec (.noticeWriteReport report) s) ∧
      (∀ value report, (∀ w, s.delivery.noticePort ≠ .issued w) ∨ report.issued ≠ s.resets.count →
        exec (.noticeRingConsumerWrite ⟨value, .withReport report⟩) s =
          exec (.noticeRingConsumerWrite ⟨value, .alone⟩) s) ∧
      (∀ (value : BitVec 32) (w : NoticeWrite), s.resets.pending = false → s.delivery.noticePort = .issued w →
        let consumer := value.toNat % u.size
        let producer := (u.producer + 1) % u.size
        let both := fun (armed : Bool) (messages : Nat) =>
          { s with
            delivery := { s.delivery with noticePort := .idle }
            notice := { u with
              queue := u.queue.tail, producer := producer, consumer := consumer, armed := armed, messages := messages } }
        exec (.noticeRingConsumerWrite ⟨value, .withReport (s.reply .fault)⟩) s = .next { s with
            delivery := { s.delivery with noticePort := .idle }
            notice := { u with
              writeFault := true, consumer := consumer, armed := decide (u.producer = consumer)
              messages := if u.producer = consumer then u.messages else u.messages + 1 } } ∧
          (producer ≠ consumer →
            exec (.noticeRingConsumerWrite ⟨value, .withReport (s.reply .ok)⟩) s = .next (both false (u.messages + 1)) ∧
              ∃ v, exec (.noticeRingConsumerWrite ⟨value, .alone⟩) s = .next v ∧
                exec (.noticeWriteReport (s.reply .ok)) v = .next (both false (u.messages + 1))) ∧
          (producer = consumer →
            exec (.noticeRingConsumerWrite ⟨value, .withReport (s.reply .ok)⟩) s =
              .next (both true (if u.armed then u.messages + 1 else u.messages)))) ∧
      (u.full = true ∨ (∀ i, (s.ctx i).owed = []) → exec .rollup s = .next s) ∧
      ∀ i, CanonicalForm s → u.full = false → (s.ctx i).owed ≠ [] → (∀ j, j < i → (s.ctx j).owed = []) →
        ∃ t, exec .rollup s = .next t ∧ t = { s with contexts := t.contexts, notice := t.notice } ∧
          t.notice = { u with queue := u.queue ++ [Notice.rollup i (s.ctx i).owed] } ∧
          t.ctx i = { s.ctx i with owed := [] } ∧ ∀ j, j ≠ i → t.ctx j = s.ctx j

/-! ## Controls and resets -/

/-- The controls of the register window outside a full reset: the QUIESCE line and the quiesce request take the level given;
a status write clears the three indications it names; a read of the unmatched count returns it and clears it; a tail write
keeps its value modulo N, and is ignored while RESET_PENDING or the drain is shown; base and size writes are taken only
while RESET_PENDING is shown, sizes clamped and rounded down to a power of two. The reads of section 11.5, at their offsets:
the status word's nine indications, quiesce active being the line or the request, and delivery stopped that with no job in
flight; the free counts, the in-flight count, the quiesce-request control, and the ring registers. That bases, tail and
consumer read back what they hold is log 24. -/
def Obligations.ControlsActOnTheirRegisters : Prop :=
  [ReadableRegister.status, .freeCounts, .inFlight, .controls, .commandBase, .commandSize, .commandTail, .commandHead,
      .noticeBase, .noticeSize, .noticeProducer, .noticeConsumer].map ReadableRegister.offset =
    [0x00, 0x04, 0x08, 0x0C, 0x18, 0x20, 0x24, 0x28, 0x30, 0x38, 0x3C, 0x40] ∧
  (∀ s : State,
    let quiesce := s.delivery.quiesceLine || s.delivery.quiesceRequest
    (∀ k, (s.readRegister .status).testBit k =
        (match k with
          | 0 => s.resets.pending
          | 1 => s.resets.draining
          | 2 => s.resets.configInvalid
          | 3 => s.notice.overflow
          | 4 => s.command.fetchFault
          | 5 => s.notice.writeFault
          | 6 => quiesce
          | 7 => quiesce && s.delivery.inFlight == 0
          | 8 => s.staging.constrained
          | _ => false)) ∧
      (s.staging.freeBlocks ≤ 4096 → s.staging.freeRecords ≤ 4096 →
        s.readRegister .freeCounts % 2 ^ 13 = s.staging.freeBlocks ∧
          s.readRegister .freeCounts / 2 ^ 16 % 2 ^ 13 = s.staging.freeRecords) ∧
      s.readRegister .inFlight = s.delivery.inFlight ∧
      (s.readRegister .controls).testBit 2 = s.delivery.quiesceRequest ∧
      s.readRegister .commandSize = s.command.size ∧ s.readRegister .commandHead = s.command.head ∧
      s.readRegister .noticeSize = s.notice.size ∧ s.readRegister .noticeProducer = s.notice.producer ∧
      s.readRegister .commandBase = s.command.base ∧ s.readRegister .commandTail = s.command.tail ∧
      s.readRegister .noticeBase = s.notice.base ∧ s.readRegister .noticeConsumer = s.notice.consumer) ∧
  ∀ s : State, s.resets.held = false →
    exec .quiesceRise s = .next { s with delivery := { s.delivery with quiesceLine := true } } ∧
      exec .quiesceFall s = .next { s with delivery := { s.delivery with quiesceLine := false } } ∧
      (∀ value, exec (.quiesceRequest value) s = .next { s with
        delivery := { s.delivery with quiesceRequest := value } }) ∧
      (∀ value : BitVec 32, exec (.statusClear value) s = .next { s with
        notice := { s.notice with
          overflow := if value.getLsbD 3 then false else s.notice.overflow
          writeFault := if value.getLsbD 5 then false else s.notice.writeFault }
        command := { s.command with fetchFault := if value.getLsbD 4 then false else s.command.fetchFault } }) ∧
      exec .unmatchedCountRead s = .next { s with
        intake := { s.intake with unmatched := 0, unmatchedRead := s.intake.unmatched } } ∧
      (∀ value : BitVec 32,
        exec (.commandRingTailWrite value) s =
          .next (if s.resets.pending = true ∨ s.resets.draining = true then s
            else { s with command := { s.command with tail := value.toNat % s.command.size } })) ∧
      (∀ reg, s.resets.pending = false → exec (.registerWrite reg) s = .next s) ∧
      (s.resets.pending = true →
        (∀ v : BitVec 64, exec (.registerWrite (.commandBase v)) s = .next { s with
            command := { s.command with base := v.toNat } }) ∧
          (∀ v : BitVec 64, exec (.registerWrite (.noticeBase v)) s = .next { s with
            notice := { s.notice with base := v.toNat } }) ∧
          (∀ v : BitVec 32, ∃ k, k ≤ 12 ∧ 4 ≤ k ∧ 2 ^ k ≤ max 16 v.toNat ∧ (min v.toNat 4096 < 2 ^ (k + 1)) ∧
            exec (.registerWrite (.commandSize v)) s = .next { s with
              command := { s.command with size := 2 ^ k } }) ∧
          ∀ v : BitVec 32, ∃ k, k ≤ 16 ∧ 6 ≤ k ∧ 2 ^ k ≤ max 64 v.toNat ∧ (min v.toNat 65536 < 2 ^ (k + 1)) ∧
            exec (.registerWrite (.noticeSize v)) s = .next { s with
              notice := { s.notice with size := 2 ^ k } })

/-- RESET_ACKNOWLEDGE is ignored unless RESET_PENDING is shown and the drain is not. With both sizes written, both bases
aligned and both rings apart and within 2^64 it clears RESET_PENDING and CONFIG_INVALID, sets the four indices to 0 and arms
the interrupt; otherwise it shows CONFIG_INVALID and changes nothing else. That it keeps the quiesce-request control, a bit of
the same register, is the model's choice (log 23). -/
def Obligations.AcknowledgeTestsTheRings : Prop :=
  ∀ s : State, s.resets.held = false →
    let c := s.command
    let n := s.notice
    let valid := c.size ≠ 0 ∧ n.size ≠ 0 ∧ c.base % 64 = 0 ∧ n.base % 32 = 0 ∧
      (c.base + 64 * c.size ≤ n.base ∨ n.base + 32 * n.size ≤ c.base) ∧ c.base + 64 * c.size ≤ 2 ^ 64 ∧
      n.base + 32 * n.size ≤ 2 ^ 64
    exec .resetAcknowledge s =
      .next (if s.resets.pending = true ∧ s.resets.draining = false then
        (if valid then
          { s with
            resets := { s.resets with pending := false, configInvalid := false }
            command := { c with head := 0, tail := 0 }
            notice := { n with producer := 0, consumer := 0, armed := true } }
        else { s with resets := { s.resets with configInvalid := true } })
      else s)

/-- SOFT_RESET begins the drain, is ignored during one, and while RESET_PENDING is shown clears at once. DRAIN_CLEAR clears
when a drain is shown and nothing remains outstanding, and does nothing otherwise. The clear and a full reset empty the
part; the clear keeps apertures, ring bases and sizes, action set, enable, quiesce request, unmatched count and
CONFIG_INVALID, and a full reset, which any state takes, keeps none of them. A full reset from the reset input lasts until
RESET_INPUT_RELEASE; RESET_PENDING is shown at the end. It discards the segments that wait at the channels, which the clear
keeps, and then every channel shows ready. What comes back of a read or write issued before a full reset is not taken: it
carries the number of full resets taken then (log 22). The model's own: a release with no reset held changes nothing (log 4),
commands during a held reset change nothing but the QUIESCE line (log 6), a write handed over and not issued counts as
outstanding (log 10), a soft reset in RESET_PENDING clears in the same step (log 12), and a soft reset request keeps the
quiesce-request control, a bit of the same register (log 23). -/
def Obligations.ResetsClearThePart : Prop :=
  ∀ s : State,
    let emptied := fun (t : State) =>
      (∀ i, t.ctx i = Ctx.free) ∧ (∀ k, t.lookup k = none) ∧ (∀ r, t.staged r = none ∧ t.job r = none) ∧
        t.staging.freeBlocks = 4096 ∧ t.staging.freeRecords = 4096 ∧ t.staging.constrained = false ∧
        t.delivery.inFlight = 0 ∧ (∀ level, t.pointer level = 4095) ∧ t.delivery.issueOrder = [] ∧
        t.delivery.snapshotPort = .idle ∧ t.delivery.noticePort = .idle ∧ (∀ g, t.group g = Group.unused) ∧
        t.verify = [] ∧ t.command.head = 0 ∧ t.command.tail = 0 ∧ t.command.fetch = none ∧
        t.command.executing = none ∧ t.command.fetchFault = false ∧ t.notice.queue = [] ∧
        t.notice.producer = 0 ∧ t.notice.consumer = 0 ∧ t.notice.reserved = false ∧ t.notice.overflow = false ∧
        t.notice.writeFault = false ∧ t.notice.armed = false ∧ t.resets.draining = false ∧ t.pending = s.pending ∧
        t.delivery.quiesceLine = s.delivery.quiesceLine
    let cleared := fun (t : State) =>
      emptied t ∧ t.resets = { s.resets with draining := false, pending := true } ∧ t.intake = s.intake ∧
        t.delivery.apertures = s.delivery.apertures ∧ t.delivery.quiesceRequest = s.delivery.quiesceRequest ∧
        t.actions = s.actions ∧ t.command.base = s.command.base ∧ t.command.size = s.command.size ∧
        t.notice.base = s.notice.base ∧ t.notice.size = s.notice.size ∧ t.notice.messages = s.notice.messages
    let outstanding := s.delivery.inFlight ≠ 0 ∨ (∃ r ∈ s.verify, r.readOutstanding = true) ∨
      s.delivery.snapshotPort ≠ .idle ∨ s.command.fetch ≠ none ∨ s.delivery.noticePort ≠ .idle
    (s.resets.held = false →
      (s.resets.draining = true → exec .softReset s = .next s) ∧
        (s.resets.draining = false → s.resets.pending = false →
          exec .softReset s = .next { s with resets := { s.resets with draining := true } }) ∧
        (s.resets.draining = false → s.resets.pending = true → ∃ t, exec .softReset s = .next t ∧ cleared t) ∧
        (s.resets.draining = true → ¬outstanding → ∃ t, exec .drainClear s = .next t ∧ cleared t) ∧
        (s.resets.draining = false ∨ outstanding → exec .drainClear s = .next s)) ∧
      (∀ cause, ∃ t, exec (.fullReset cause) s = .next t ∧ emptied t ∧
        t.resets =
          (if s.resets.held = true ∨ cause = .resetInput then
            { pending := false, draining := false, configInvalid := false, held := true, count := s.resets.count + 1 }
          else
            { pending := true, draining := false, configInvalid := false, held := false, count := s.resets.count + 1 }) ∧
        t.intake.channels = [] ∧ (t.resets.held = false → ∀ link, t.channelReady link = true) ∧
        t.intake.lastLink = 3 ∧ t.intake.unmatched = 0 ∧ t.intake.unmatchedEnable = false ∧
        (∀ k, t.aperture k = Aperture.off) ∧ t.delivery.quiesceRequest = false ∧
        t.actions = { notify := false, hold := false, restart := false } ∧ t.command.base = 0 ∧ t.command.size = 0 ∧
        t.notice.base = 0 ∧ t.notice.size = 0) ∧
      (s.resets.held = true →
        exec .resetInputRelease s = .next { s with resets := { s.resets with held := false, pending := true } } ∧
          ∀ c : Instr, c ≠ .quiesceRise → c ≠ .quiesceFall → c ≠ .resetInputRelease →
            (∀ cause, c ≠ .fullReset cause) → exec c s = .next s) ∧
      (s.resets.held = false → exec .resetInputRelease s = .next s) ∧
      ∀ (c : Instr) (n : Nat), issuedAt c = some n → n ≠ s.resets.count → exec c s = .next s
end

