-- ==== Sys2Proof/Laws/Table.lean ====
section
/-! SUPPORT. The laws of numbered collections: what is read after a write, and that writes keep the canonical form. -/

namespace Sys2Proof.Laws

open Sys2Proof.Machine

variable {α : Type}

@[simp] theorem lookup_nil (i : Nat) : Table.lookup ([] : Table α) i = none := rfl

theorem lookup_cons (e : Nat × α) (t : Table α) (i : Nat) :
    Table.lookup (e :: t) i = if e.1 = i then some e.2 else Table.lookup t i := by
  by_cases h : e.1 = i <;> simp [Table.lookup, h]

@[simp] theorem lookup_insert_same (t : Table α) (i : Nat) (v : α) :
    Table.lookup (Table.insert i v t) i = some v := by
  induction t with
  | nil => simp [Table.insert, lookup_cons]
  | cons e t ih =>
    unfold Table.insert
    split_ifs with h1 h2
    · simp [lookup_cons]
    · simp [lookup_cons]
    · rw [lookup_cons, if_neg (fun h => h2 h.symm), ih]

theorem lookup_insert_other (t : Table α) {i j : Nat} (v : α) (h : j ≠ i) :
    Table.lookup (Table.insert i v t) j = Table.lookup t j := by
  induction t with
  | nil => simp [Table.insert, lookup_cons, h.symm]
  | cons e t ih =>
    unfold Table.insert
    split_ifs with h1 h2
    · rw [lookup_cons, if_neg h.symm]
    · rw [lookup_cons, if_neg h.symm, lookup_cons, if_neg (fun g => h (g.symm.trans h2.symm))]
    · rw [lookup_cons, lookup_cons, ih]

@[simp] theorem lookup_erase_same (t : Table α) (i : Nat) : Table.lookup (Table.erase t i) i = none := by
  induction t with
  | nil => rfl
  | cons e t ih =>
    by_cases h : e.1 = i
    · simpa [Table.erase, h] using ih
    · have : Table.erase (e :: t) i = e :: Table.erase t i := by simp [Table.erase, h]
      rw [this, lookup_cons, if_neg h, ih]

theorem lookup_erase_other (t : Table α) {i j : Nat} (h : j ≠ i) :
    Table.lookup (Table.erase t i) j = Table.lookup t j := by
  induction t with
  | nil => rfl
  | cons e t ih =>
    by_cases g : e.1 = i
    · have : Table.erase (e :: t) i = Table.erase t i := by simp [Table.erase, g]
      rw [this, ih, lookup_cons, if_neg (fun k => h (k.symm.trans g))]
    · have : Table.erase (e :: t) i = e :: Table.erase t i := by simp [Table.erase, g]
      rw [this, lookup_cons, lookup_cons, ih]

/-- A read after a write of the same number gives the value written. -/
@[simp] theorem get_set_same [DecidableEq α] (d : α) (t : Table α) (i : Nat) (v : α) :
    Table.get d (Table.set d t i v) i = v := by
  unfold Table.get Table.set
  split_ifs with h
  · simp [h]
  · simp

/-- A write leaves every other number alone. -/
theorem get_set_other [DecidableEq α] (d : α) (t : Table α) {i j : Nat} (v : α) (h : j ≠ i) :
    Table.get d (Table.set d t i v) j = Table.get d t j := by
  unfold Table.get Table.set
  split_ifs
  · rw [lookup_erase_other t h]
  · rw [lookup_insert_other t v h]

/-- A read after a write, as one equation. -/
theorem get_set [DecidableEq α] (d : α) (t : Table α) (i j : Nat) (v : α) :
    Table.get d (Table.set d t i v) j = if j = i then v else Table.get d t j := by
  by_cases h : j = i
  · subst h; simp
  · simp [h, get_set_other d t v h]

theorem mem_insert {t : Table α} {i : Nat} {v : α} {e : Nat × α} (h : e ∈ Table.insert i v t) :
    e = (i, v) ∨ e ∈ t := by
  induction t with
  | nil => simpa [Table.insert] using h
  | cons a t ih =>
    unfold Table.insert at h
    split_ifs at h with h1 h2
    · simpa using h
    · rcases List.mem_cons.1 h with h | h
      · exact .inl h
      · exact .inr (List.mem_cons_of_mem _ h)
    · rcases List.mem_cons.1 h with h | h
      · exact .inr (h ▸ List.mem_cons_self)
      · rcases ih h with h | h
        · exact .inl h
        · exact .inr (List.mem_cons_of_mem _ h)

/-- Listing a number keeps the rising order. -/
theorem sorted_insert {t : Table α} (i : Nat) (v : α) (h : Table.sorted t) : Table.sorted (Table.insert i v t) := by
  induction t with
  | nil => simp [Table.sorted, Table.insert]
  | cons a t ih =>
    obtain ⟨ha, ht⟩ := List.pairwise_cons.1 h
    unfold Table.insert
    split_ifs with h1 h2
    · refine List.pairwise_cons.2 ⟨fun e he => ?_, h⟩
      rcases List.mem_cons.1 he with he | he
      · simpa [he] using h1
      · exact lt_trans h1 (ha e he)
    · refine List.pairwise_cons.2 ⟨fun e he => ?_, ht⟩
      simpa [h2] using ha e he
    · refine List.pairwise_cons.2 ⟨fun e he => ?_, ih ht⟩
      rcases mem_insert he with he | he
      · rw [he]; show a.1 < i; omega
      · exact ha e he

/-- Taking a number off keeps the rising order. -/
theorem sorted_erase {t : Table α} (i : Nat) (h : Table.sorted t) : Table.sorted (Table.erase t i) :=
  List.Pairwise.filter _ h

/-- A picked part of a collection keeps the rising order. -/
theorem sorted_filter {t : Table α} (p : Nat × α → Bool) (h : Table.sorted t) : Table.sorted (t.filter p) :=
  List.Pairwise.filter _ h

/-- Changing values under the same numbers keeps the rising order. -/
theorem sorted_map {t : Table α} (f : Nat × α → Nat × α) (hf : ∀ e, (f e).1 = e.1) (h : Table.sorted t) :
    Table.sorted (t.map f) :=
  List.pairwise_map.2 (h.imp fun hab => by rw [hf, hf]; exact hab)

/-- A write keeps the canonical form. -/
theorem wf_set [DecidableEq α] {d : α} {t : Table α} (i : Nat) (v : α) (h : Table.wf d t) :
    Table.wf d (Table.set d t i v) := by
  unfold Table.set
  split_ifs with g
  · exact ⟨sorted_erase i h.1, fun e he => h.2 e (List.mem_filter.1 he).1⟩
  · refine ⟨sorted_insert i v h.1, fun e he => ?_⟩
    rcases mem_insert he with he | he
    · simpa [he] using g
    · exact h.2 e he

/-- The empty collection has the canonical form. -/
theorem wf_nil [DecidableEq α] (d : α) : Table.wf d ([] : Table α) := ⟨List.Pairwise.nil, fun _ h => by cases h⟩

/-- In rising order, what a number is listed under is what looking it up finds. -/
theorem lookup_eq_some {t : Table α} (h : Table.sorted t) {i : Nat} {v : α} : Table.lookup t i = some v ↔ (i, v) ∈ t := by
  induction t with
  | nil => simp
  | cons a t ih =>
    obtain ⟨ha, ht⟩ := List.pairwise_cons.1 h
    obtain ⟨k, w⟩ := a
    rw [lookup_cons]
    by_cases g : k = i
    · subst g
      simp only [if_true, List.mem_cons, Prod.mk.injEq, Option.some.injEq, true_and]
      constructor
      · exact fun hv => .inl hv.symm
      · rintro (hv | hv)
        · exact hv.symm
        · exact absurd (ha _ hv) (lt_irrefl _)
    · simp only [if_neg g, ih ht, List.mem_cons, Prod.mk.injEq]
      exact ⟨.inr, fun hv => hv.resolve_left fun ⟨h1, _⟩ => g h1.symm⟩

end Sys2Proof.Laws
end

