-- ==== Sys2Proof/Laws/State.lean ====
section
/-! SUPPORT. What the plain writes of the state change, field by field: no later proof unfolds a record update. -/

namespace Sys2Proof.Laws

open Sys2Proof.Machine

/-! ## Numbered records: read after write -/

theorem ctx_setCtx (s : State) (i j : Nat) (c : Ctx) : (s.setCtx i c).ctx j = if j = i then c else s.ctx j :=
  get_set _ _ _ _ _

@[simp] theorem ctx_setCtx_same (s : State) (i : Nat) (c : Ctx) : (s.setCtx i c).ctx i = c := get_set_same _ _ _ _

theorem ctx_setCtx_other (s : State) {i j : Nat} (c : Ctx) (h : j ≠ i) : (s.setCtx i c).ctx j = s.ctx j :=
  get_set_other _ _ _ h

theorem ctx_modCtx (s : State) (i j : Nat) (f : Ctx → Ctx) :
    (s.modCtx i f).ctx j = if j = i then f (s.ctx i) else s.ctx j := ctx_setCtx _ _ _ _

@[simp] theorem ctx_modCtx_same (s : State) (i : Nat) (f : Ctx → Ctx) : (s.modCtx i f).ctx i = f (s.ctx i) :=
  ctx_setCtx_same _ _ _

theorem ctx_modCtx_other (s : State) {i j : Nat} (f : Ctx → Ctx) (h : j ≠ i) : (s.modCtx i f).ctx j = s.ctx j :=
  ctx_setCtx_other _ _ h

theorem group_setGroup (s : State) (g h : Nat) (r : Group) :
    (s.setGroup g r).group h = if h = g then r else s.group h := get_set _ _ _ _ _

@[simp] theorem group_setGroup_same (s : State) (g : Nat) (r : Group) : (s.setGroup g r).group g = r :=
  get_set_same _ _ _ _

theorem bucket_setBucket (s : State) (b c : Nat) (es : List MapEntry) :
    (s.setBucket b es).bucket c = if c = b then es else s.bucket c := get_set _ _ _ _ _

theorem channel_setChannel (s : State) (k l : Nat) (seg : Option Sys2Proof.Segment) :
    (s.setChannel k seg).channel l = if l = k then seg else s.channel l := get_set _ _ _ _ _

@[simp] theorem channel_setChannel_same (s : State) (k : Nat) (seg : Option Sys2Proof.Segment) :
    (s.setChannel k seg).channel k = seg := get_set_same _ _ _ _

@[simp] theorem setChannel_lastLink (s : State) (k : Nat) (seg : Option Sys2Proof.Segment) :
    (s.setChannel k seg).intake.lastLink = s.intake.lastLink := rfl
@[simp] theorem setChannel_lanes (s : State) (k : Nat) (seg : Option Sys2Proof.Segment) :
    (s.setChannel k seg).intake.lanes = s.intake.lanes := rfl

@[simp] theorem bucket_setBucket_same (s : State) (b : Nat) (es : List MapEntry) : (s.setBucket b es).bucket b = es :=
  get_set_same _ _ _ _


/-! ## setCtx -/

@[simp] theorem setCtx_intake (s : State) (i : Nat) (c : Ctx) : (s.setCtx i c).intake = s.intake := rfl
@[simp] theorem setCtx_map (s : State) (i : Nat) (c : Ctx) : (s.setCtx i c).map = s.map := rfl
@[simp] theorem setCtx_staging (s : State) (i : Nat) (c : Ctx) : (s.setCtx i c).staging = s.staging := rfl
@[simp] theorem setCtx_delivery (s : State) (i : Nat) (c : Ctx) : (s.setCtx i c).delivery = s.delivery := rfl
@[simp] theorem setCtx_actions (s : State) (i : Nat) (c : Ctx) : (s.setCtx i c).actions = s.actions := rfl
@[simp] theorem setCtx_groups (s : State) (i : Nat) (c : Ctx) : (s.setCtx i c).groups = s.groups := rfl
@[simp] theorem setCtx_verify (s : State) (i : Nat) (c : Ctx) : (s.setCtx i c).verify = s.verify := rfl
@[simp] theorem setCtx_command (s : State) (i : Nat) (c : Ctx) : (s.setCtx i c).command = s.command := rfl
@[simp] theorem setCtx_notice (s : State) (i : Nat) (c : Ctx) : (s.setCtx i c).notice = s.notice := rfl
@[simp] theorem setCtx_resets (s : State) (i : Nat) (c : Ctx) : (s.setCtx i c).resets = s.resets := rfl
@[simp] theorem setCtx_pending (s : State) (i : Nat) (c : Ctx) : (s.setCtx i c).pending = s.pending := rfl

/-! ## modCtx -/

@[simp] theorem modCtx_intake (s : State) (i : Nat) (f : Ctx → Ctx) : (s.modCtx i f).intake = s.intake := rfl
@[simp] theorem modCtx_map (s : State) (i : Nat) (f : Ctx → Ctx) : (s.modCtx i f).map = s.map := rfl
@[simp] theorem modCtx_staging (s : State) (i : Nat) (f : Ctx → Ctx) : (s.modCtx i f).staging = s.staging := rfl
@[simp] theorem modCtx_delivery (s : State) (i : Nat) (f : Ctx → Ctx) : (s.modCtx i f).delivery = s.delivery := rfl
@[simp] theorem modCtx_actions (s : State) (i : Nat) (f : Ctx → Ctx) : (s.modCtx i f).actions = s.actions := rfl
@[simp] theorem modCtx_groups (s : State) (i : Nat) (f : Ctx → Ctx) : (s.modCtx i f).groups = s.groups := rfl
@[simp] theorem modCtx_verify (s : State) (i : Nat) (f : Ctx → Ctx) : (s.modCtx i f).verify = s.verify := rfl
@[simp] theorem modCtx_command (s : State) (i : Nat) (f : Ctx → Ctx) : (s.modCtx i f).command = s.command := rfl
@[simp] theorem modCtx_notice (s : State) (i : Nat) (f : Ctx → Ctx) : (s.modCtx i f).notice = s.notice := rfl
@[simp] theorem modCtx_resets (s : State) (i : Nat) (f : Ctx → Ctx) : (s.modCtx i f).resets = s.resets := rfl
@[simp] theorem modCtx_pending (s : State) (i : Nat) (f : Ctx → Ctx) : (s.modCtx i f).pending = s.pending := rfl

/-! ## setGroup -/

@[simp] theorem setGroup_intake (s : State) (g : Nat) (r : Group) : (s.setGroup g r).intake = s.intake := rfl
@[simp] theorem setGroup_map (s : State) (g : Nat) (r : Group) : (s.setGroup g r).map = s.map := rfl
@[simp] theorem setGroup_contexts (s : State) (g : Nat) (r : Group) : (s.setGroup g r).contexts = s.contexts := rfl
@[simp] theorem setGroup_staging (s : State) (g : Nat) (r : Group) : (s.setGroup g r).staging = s.staging := rfl
@[simp] theorem setGroup_delivery (s : State) (g : Nat) (r : Group) : (s.setGroup g r).delivery = s.delivery := rfl
@[simp] theorem setGroup_actions (s : State) (g : Nat) (r : Group) : (s.setGroup g r).actions = s.actions := rfl
@[simp] theorem setGroup_verify (s : State) (g : Nat) (r : Group) : (s.setGroup g r).verify = s.verify := rfl
@[simp] theorem setGroup_command (s : State) (g : Nat) (r : Group) : (s.setGroup g r).command = s.command := rfl
@[simp] theorem setGroup_notice (s : State) (g : Nat) (r : Group) : (s.setGroup g r).notice = s.notice := rfl
@[simp] theorem setGroup_resets (s : State) (g : Nat) (r : Group) : (s.setGroup g r).resets = s.resets := rfl
@[simp] theorem setGroup_pending (s : State) (g : Nat) (r : Group) : (s.setGroup g r).pending = s.pending := rfl

/-! ## setBucket -/

@[simp] theorem setBucket_intake (s : State) (b : Nat) (es : List MapEntry) : (s.setBucket b es).intake = s.intake := rfl
@[simp] theorem setBucket_contexts (s : State) (b : Nat) (es : List MapEntry) : (s.setBucket b es).contexts = s.contexts := rfl
@[simp] theorem setBucket_staging (s : State) (b : Nat) (es : List MapEntry) : (s.setBucket b es).staging = s.staging := rfl
@[simp] theorem setBucket_delivery (s : State) (b : Nat) (es : List MapEntry) : (s.setBucket b es).delivery = s.delivery := rfl
@[simp] theorem setBucket_actions (s : State) (b : Nat) (es : List MapEntry) : (s.setBucket b es).actions = s.actions := rfl
@[simp] theorem setBucket_groups (s : State) (b : Nat) (es : List MapEntry) : (s.setBucket b es).groups = s.groups := rfl
@[simp] theorem setBucket_verify (s : State) (b : Nat) (es : List MapEntry) : (s.setBucket b es).verify = s.verify := rfl
@[simp] theorem setBucket_command (s : State) (b : Nat) (es : List MapEntry) : (s.setBucket b es).command = s.command := rfl
@[simp] theorem setBucket_notice (s : State) (b : Nat) (es : List MapEntry) : (s.setBucket b es).notice = s.notice := rfl
@[simp] theorem setBucket_resets (s : State) (b : Nat) (es : List MapEntry) : (s.setBucket b es).resets = s.resets := rfl
@[simp] theorem setBucket_pending (s : State) (b : Nat) (es : List MapEntry) : (s.setBucket b es).pending = s.pending := rfl

/-! ## insertKey -/

@[simp] theorem insertKey_intake (s : State) (k : Key) (i : Nat) : (s.insertKey k i).intake = s.intake := rfl
@[simp] theorem insertKey_contexts (s : State) (k : Key) (i : Nat) : (s.insertKey k i).contexts = s.contexts := rfl
@[simp] theorem insertKey_staging (s : State) (k : Key) (i : Nat) : (s.insertKey k i).staging = s.staging := rfl
@[simp] theorem insertKey_delivery (s : State) (k : Key) (i : Nat) : (s.insertKey k i).delivery = s.delivery := rfl
@[simp] theorem insertKey_actions (s : State) (k : Key) (i : Nat) : (s.insertKey k i).actions = s.actions := rfl
@[simp] theorem insertKey_groups (s : State) (k : Key) (i : Nat) : (s.insertKey k i).groups = s.groups := rfl
@[simp] theorem insertKey_verify (s : State) (k : Key) (i : Nat) : (s.insertKey k i).verify = s.verify := rfl
@[simp] theorem insertKey_command (s : State) (k : Key) (i : Nat) : (s.insertKey k i).command = s.command := rfl
@[simp] theorem insertKey_notice (s : State) (k : Key) (i : Nat) : (s.insertKey k i).notice = s.notice := rfl
@[simp] theorem insertKey_resets (s : State) (k : Key) (i : Nat) : (s.insertKey k i).resets = s.resets := rfl
@[simp] theorem insertKey_pending (s : State) (k : Key) (i : Nat) : (s.insertKey k i).pending = s.pending := rfl

/-! ## removeKey -/

@[simp] theorem removeKey_intake (s : State) (k : Key) : (s.removeKey k).intake = s.intake := rfl
@[simp] theorem removeKey_contexts (s : State) (k : Key) : (s.removeKey k).contexts = s.contexts := rfl
@[simp] theorem removeKey_staging (s : State) (k : Key) : (s.removeKey k).staging = s.staging := rfl
@[simp] theorem removeKey_delivery (s : State) (k : Key) : (s.removeKey k).delivery = s.delivery := rfl
@[simp] theorem removeKey_actions (s : State) (k : Key) : (s.removeKey k).actions = s.actions := rfl
@[simp] theorem removeKey_groups (s : State) (k : Key) : (s.removeKey k).groups = s.groups := rfl
@[simp] theorem removeKey_verify (s : State) (k : Key) : (s.removeKey k).verify = s.verify := rfl
@[simp] theorem removeKey_command (s : State) (k : Key) : (s.removeKey k).command = s.command := rfl
@[simp] theorem removeKey_notice (s : State) (k : Key) : (s.removeKey k).notice = s.notice := rfl
@[simp] theorem removeKey_resets (s : State) (k : Key) : (s.removeKey k).resets = s.resets := rfl
@[simp] theorem removeKey_pending (s : State) (k : Key) : (s.removeKey k).pending = s.pending := rfl

/-! ## setChannel -/

@[simp] theorem setChannel_map (s : State) (k : Nat) (seg : Option Sys2Proof.Segment) : (s.setChannel k seg).map = s.map := rfl
@[simp] theorem setChannel_contexts (s : State) (k : Nat) (seg : Option Sys2Proof.Segment) : (s.setChannel k seg).contexts = s.contexts := rfl
@[simp] theorem setChannel_staging (s : State) (k : Nat) (seg : Option Sys2Proof.Segment) : (s.setChannel k seg).staging = s.staging := rfl
@[simp] theorem setChannel_delivery (s : State) (k : Nat) (seg : Option Sys2Proof.Segment) : (s.setChannel k seg).delivery = s.delivery := rfl
@[simp] theorem setChannel_actions (s : State) (k : Nat) (seg : Option Sys2Proof.Segment) : (s.setChannel k seg).actions = s.actions := rfl
@[simp] theorem setChannel_groups (s : State) (k : Nat) (seg : Option Sys2Proof.Segment) : (s.setChannel k seg).groups = s.groups := rfl
@[simp] theorem setChannel_verify (s : State) (k : Nat) (seg : Option Sys2Proof.Segment) : (s.setChannel k seg).verify = s.verify := rfl
@[simp] theorem setChannel_command (s : State) (k : Nat) (seg : Option Sys2Proof.Segment) : (s.setChannel k seg).command = s.command := rfl
@[simp] theorem setChannel_notice (s : State) (k : Nat) (seg : Option Sys2Proof.Segment) : (s.setChannel k seg).notice = s.notice := rfl
@[simp] theorem setChannel_resets (s : State) (k : Nat) (seg : Option Sys2Proof.Segment) : (s.setChannel k seg).resets = s.resets := rfl
@[simp] theorem setChannel_pending (s : State) (k : Nat) (seg : Option Sys2Proof.Segment) : (s.setChannel k seg).pending = s.pending := rfl

/-! ## push -/

@[simp] theorem push_intake (s : State) (n : Notice) : (s.push n).intake = s.intake := rfl
@[simp] theorem push_map (s : State) (n : Notice) : (s.push n).map = s.map := rfl
@[simp] theorem push_contexts (s : State) (n : Notice) : (s.push n).contexts = s.contexts := rfl
@[simp] theorem push_staging (s : State) (n : Notice) : (s.push n).staging = s.staging := rfl
@[simp] theorem push_delivery (s : State) (n : Notice) : (s.push n).delivery = s.delivery := rfl
@[simp] theorem push_actions (s : State) (n : Notice) : (s.push n).actions = s.actions := rfl
@[simp] theorem push_groups (s : State) (n : Notice) : (s.push n).groups = s.groups := rfl
@[simp] theorem push_verify (s : State) (n : Notice) : (s.push n).verify = s.verify := rfl
@[simp] theorem push_command (s : State) (n : Notice) : (s.push n).command = s.command := rfl
@[simp] theorem push_resets (s : State) (n : Notice) : (s.push n).resets = s.resets := rfl
@[simp] theorem push_pending (s : State) (n : Notice) : (s.push n).pending = s.pending := rfl

/-! ## fold -/

@[simp] theorem fold_intake (s : State) (i : Nat) (k : OwedKind) : (s.fold i k).intake = s.intake := rfl
@[simp] theorem fold_map (s : State) (i : Nat) (k : OwedKind) : (s.fold i k).map = s.map := rfl
@[simp] theorem fold_staging (s : State) (i : Nat) (k : OwedKind) : (s.fold i k).staging = s.staging := rfl
@[simp] theorem fold_delivery (s : State) (i : Nat) (k : OwedKind) : (s.fold i k).delivery = s.delivery := rfl
@[simp] theorem fold_actions (s : State) (i : Nat) (k : OwedKind) : (s.fold i k).actions = s.actions := rfl
@[simp] theorem fold_groups (s : State) (i : Nat) (k : OwedKind) : (s.fold i k).groups = s.groups := rfl
@[simp] theorem fold_verify (s : State) (i : Nat) (k : OwedKind) : (s.fold i k).verify = s.verify := rfl
@[simp] theorem fold_command (s : State) (i : Nat) (k : OwedKind) : (s.fold i k).command = s.command := rfl
@[simp] theorem fold_resets (s : State) (i : Nat) (k : OwedKind) : (s.fold i k).resets = s.resets := rfl
@[simp] theorem fold_pending (s : State) (i : Nat) (k : OwedKind) : (s.fold i k).pending = s.pending := rfl

/-! ## finish -/

@[simp] theorem finish_intake (s : State) (t : BitVec 16) (c : BitVec 8) (st : CmdStatus) (i : Nat) : (s.finish t c st i).intake = s.intake := rfl
@[simp] theorem finish_map (s : State) (t : BitVec 16) (c : BitVec 8) (st : CmdStatus) (i : Nat) : (s.finish t c st i).map = s.map := rfl
@[simp] theorem finish_contexts (s : State) (t : BitVec 16) (c : BitVec 8) (st : CmdStatus) (i : Nat) : (s.finish t c st i).contexts = s.contexts := rfl
@[simp] theorem finish_staging (s : State) (t : BitVec 16) (c : BitVec 8) (st : CmdStatus) (i : Nat) : (s.finish t c st i).staging = s.staging := rfl
@[simp] theorem finish_delivery (s : State) (t : BitVec 16) (c : BitVec 8) (st : CmdStatus) (i : Nat) : (s.finish t c st i).delivery = s.delivery := rfl
@[simp] theorem finish_actions (s : State) (t : BitVec 16) (c : BitVec 8) (st : CmdStatus) (i : Nat) : (s.finish t c st i).actions = s.actions := rfl
@[simp] theorem finish_groups (s : State) (t : BitVec 16) (c : BitVec 8) (st : CmdStatus) (i : Nat) : (s.finish t c st i).groups = s.groups := rfl
@[simp] theorem finish_verify (s : State) (t : BitVec 16) (c : BitVec 8) (st : CmdStatus) (i : Nat) : (s.finish t c st i).verify = s.verify := rfl
@[simp] theorem finish_command (s : State) (t : BitVec 16) (c : BitVec 8) (st : CmdStatus) (i : Nat) : (s.finish t c st i).command = s.command := rfl
@[simp] theorem finish_resets (s : State) (t : BitVec 16) (c : BitVec 8) (st : CmdStatus) (i : Nat) : (s.finish t c st i).resets = s.resets := rfl
@[simp] theorem finish_pending (s : State) (t : BitVec 16) (c : BitVec 8) (st : CmdStatus) (i : Nat) : (s.finish t c st i).pending = s.pending := rfl

/-! ## Contexts and records read after writes of something else -/

@[simp] theorem push_ctx (s : State) (n : Notice) (j : Nat) : (s.push n).ctx j = s.ctx j := rfl
@[simp] theorem finish_ctx (s : State) (t : BitVec 16) (c : BitVec 8) (st : CmdStatus) (i j : Nat) :
    (s.finish t c st i).ctx j = s.ctx j := rfl
@[simp] theorem setGroup_ctx (s : State) (g : Nat) (r : Group) (j : Nat) : (s.setGroup g r).ctx j = s.ctx j := rfl
@[simp] theorem setBucket_ctx (s : State) (b : Nat) (es : List MapEntry) (j : Nat) :
    (s.setBucket b es).ctx j = s.ctx j := rfl
@[simp] theorem insertKey_ctx (s : State) (k : Key) (i j : Nat) : (s.insertKey k i).ctx j = s.ctx j := rfl
@[simp] theorem removeKey_ctx (s : State) (k : Key) (j : Nat) : (s.removeKey k).ctx j = s.ctx j := rfl
@[simp] theorem setCtx_group (s : State) (i : Nat) (c : Ctx) (g : Nat) : (s.setCtx i c).group g = s.group g := rfl
@[simp] theorem modCtx_group (s : State) (i : Nat) (f : Ctx → Ctx) (g : Nat) : (s.modCtx i f).group g = s.group g := rfl
@[simp] theorem setCtx_staged (s : State) (i : Nat) (c : Ctx) (r : Nat) : (s.setCtx i c).staged r = s.staged r := rfl
@[simp] theorem modCtx_staged (s : State) (i : Nat) (f : Ctx → Ctx) (r : Nat) : (s.modCtx i f).staged r = s.staged r := rfl
@[simp] theorem setCtx_job (s : State) (i : Nat) (c : Ctx) (r : Nat) : (s.setCtx i c).job r = s.job r := rfl
@[simp] theorem modCtx_job (s : State) (i : Nat) (f : Ctx → Ctx) (r : Nat) : (s.modCtx i f).job r = s.job r := rfl

/-- A fold adds the kind to the owed set of the context charged, and to nothing else of any context (R175). -/
theorem ctx_fold (s : State) (i j : Nat) (k : OwedKind) :
    (s.fold i k).ctx j = if j = i then { s.ctx i with owed := owe k (s.ctx i).owed } else s.ctx j :=
  ctx_modCtx s i j fun c => { c with owed := owe k c.owed }

@[simp] theorem push_queue (s : State) (n : Notice) : (s.push n).notice.queue = s.notice.queue ++ [n] := rfl
@[simp] theorem fold_queue (s : State) (i : Nat) (k : OwedKind) : (s.fold i k).notice.queue = s.notice.queue := rfl
@[simp] theorem finish_queue (s : State) (t : BitVec 16) (c : BitVec 8) (st : CmdStatus) (i : Nat) :
    (s.finish t c st i).notice.queue = s.notice.queue ++ [.cmdResult i t c st] := rfl
@[simp] theorem finish_reserved (s : State) (t : BitVec 16) (c : BitVec 8) (st : CmdStatus) (i : Nat) :
    (s.finish t c st i).notice.reserved = false := rfl

/-! ## Areas of a context -/

@[simp] theorem area_setArea_same (c : Ctx) (n : Nat) (a : Area) : (c.setArea n a).area n = a := by
  unfold Ctx.setArea Ctx.area
  split_ifs <;> rfl

theorem area_setArea (c : Ctx) (n m : Nat) (a : Area) :
    (c.setArea n a).area m = if m % 2 = n % 2 then a else c.area m := by
  unfold Ctx.setArea Ctx.area
  have hn := Nat.mod_two_eq_zero_or_one n
  have hm := Nat.mod_two_eq_zero_or_one m
  rcases hn with hn | hn <;> rcases hm with hm | hm <;> simp [hn, hm]

@[simp] theorem setArea_state (c : Ctx) (n : Nat) (a : Area) : (c.setArea n a).state = c.state := by
  unfold Ctx.setArea; split <;> rfl
@[simp] theorem setArea_key (c : Ctx) (n : Nat) (a : Area) : (c.setArea n a).key = c.key := by
  unfold Ctx.setArea; split <;> rfl
@[simp] theorem setArea_priority (c : Ctx) (n : Nat) (a : Area) : (c.setArea n a).priority = c.priority := by
  unfold Ctx.setArea; split <;> rfl
@[simp] theorem setArea_mask (c : Ctx) (n : Nat) (a : Area) : (c.setArea n a).mask = c.mask := by
  unfold Ctx.setArea; split <;> rfl
@[simp] theorem setArea_exclusive (c : Ctx) (n : Nat) (a : Area) : (c.setArea n a).exclusive = c.exclusive := by
  unfold Ctx.setArea; split <;> rfl
@[simp] theorem setArea_hostHold (c : Ctx) (n : Nat) (a : Area) : (c.setArea n a).hostHold = c.hostHold := by
  unfold Ctx.setArea; split <;> rfl
@[simp] theorem setArea_stallSelect (c : Ctx) (n : Nat) (a : Area) : (c.setArea n a).stallSelect = c.stallSelect := by
  unfold Ctx.setArea; split <;> rfl
@[simp] theorem setArea_abandonMultiplier (c : Ctx) (n : Nat) (a : Area) : (c.setArea n a).abandonMultiplier = c.abandonMultiplier := by
  unfold Ctx.setArea; split <;> rfl
@[simp] theorem setArea_damageLimit (c : Ctx) (n : Nat) (a : Area) : (c.setArea n a).damageLimit = c.damageLimit := by
  unfold Ctx.setArea; split <;> rfl
@[simp] theorem setArea_quota (c : Ctx) (n : Nat) (a : Area) : (c.setArea n a).quota = c.quota := by
  unfold Ctx.setArea; split <;> rfl
@[simp] theorem setArea_windowSelect (c : Ctx) (n : Nat) (a : Area) : (c.setArea n a).windowSelect = c.windowSelect := by
  unfold Ctx.setArea; split <;> rfl
@[simp] theorem setArea_total (c : Ctx) (n : Nat) (a : Area) : (c.setArea n a).total = c.total := by
  unfold Ctx.setArea; split <;> rfl
@[simp] theorem setArea_digest (c : Ctx) (n : Nat) (a : Area) : (c.setArea n a).digest = c.digest := by
  unfold Ctx.setArea; split <;> rfl
@[simp] theorem setArea_retired (c : Ctx) (n : Nat) (a : Area) : (c.setArea n a).retired = c.retired := by
  unfold Ctx.setArea; split <;> rfl
@[simp] theorem setArea_extents (c : Ctx) (n : Nat) (a : Area) : (c.setArea n a).extents = c.extents := by
  unfold Ctx.setArea; split <;> rfl
@[simp] theorem setArea_staged (c : Ctx) (n : Nat) (a : Area) : (c.setArea n a).staged = c.staged := by
  unfold Ctx.setArea; split <;> rfl
@[simp] theorem setArea_blocksHeld (c : Ctx) (n : Nat) (a : Area) : (c.setArea n a).blocksHeld = c.blocksHeld := by
  unfold Ctx.setArea; split <;> rfl
@[simp] theorem setArea_current (c : Ctx) (n : Nat) (a : Area) : (c.setArea n a).current = c.current := by
  unfold Ctx.setArea; split <;> rfl
@[simp] theorem setArea_older (c : Ctx) (n : Nat) (a : Area) : (c.setArea n a).older = c.older := by
  unfold Ctx.setArea; split <;> rfl
@[simp] theorem setArea_generation (c : Ctx) (n : Nat) (a : Area) : (c.setArea n a).generation = c.generation := by
  unfold Ctx.setArea; split <;> rfl
@[simp] theorem setArea_fence (c : Ctx) (n : Nat) (a : Area) : (c.setArea n a).fence = c.fence := by
  unfold Ctx.setArea; split <;> rfl
@[simp] theorem setArea_signal (c : Ctx) (n : Nat) (a : Area) : (c.setArea n a).signal = c.signal := by
  unfold Ctx.setArea; split <;> rfl
@[simp] theorem setArea_damaged (c : Ctx) (n : Nat) (a : Area) : (c.setArea n a).damaged = c.damaged := by
  unfold Ctx.setArea; split <;> rfl
@[simp] theorem setArea_timer (c : Ctx) (n : Nat) (a : Area) : (c.setArea n a).timer = c.timer := by
  unfold Ctx.setArea; split <;> rfl
@[simp] theorem setArea_cause (c : Ctx) (n : Nat) (a : Area) : (c.setArea n a).cause = c.cause := by
  unfold Ctx.setArea; split <;> rfl
@[simp] theorem setArea_group (c : Ctx) (n : Nat) (a : Area) : (c.setArea n a).group = c.group := by
  unfold Ctx.setArea; split <;> rfl
@[simp] theorem setArea_owed (c : Ctx) (n : Nat) (a : Area) : (c.setArea n a).owed = c.owed := by
  unfold Ctx.setArea; split <;> rfl

end Sys2Proof.Laws
end

