-- ==== Sys2Proof/Laws/Ops.lean ====
section
/-! SUPPORT. What each shared operation leaves unchanged, component by component, and what the queueing of a notice, a
reply and a fetched command can do. -/

namespace Sys2Proof.Laws

open Sys2Proof Sys2Proof.Machine

/-- Everything a reply can do: it is taken when the part is live and it was issued since the last full reset (R131, R169,
R181). -/
theorem takeReply_eq {α : Type} (s : State) (reply : Reply α) (take : α → State → State) :
    s.takeReply reply take =
      if s.resets.held = false ∧ reply.issued = s.resets.count then take reply.value s else s := by
  unfold State.takeReply State.whenLive State.live
  cases s.resets.held <;> simp

@[simp] theorem takeReply_reply {α : Type} (s : State) (value : α) (take : α → State → State) :
    s.takeReply (s.reply value) take = s.whenLive (take value) := by
  unfold State.takeReply State.reply State.whenLive
  split <;> simp

/-- Everything a fetched command can do (R171): with a fetch outstanding it is executed, or discarded in a drain. -/
theorem runCommand_eq {α : Type} (s : State) (cmd : Reply α) (body : α → State → State) :
    s.runCommand cmd body =
      if s.resets.held = false ∧ cmd.issued = s.resets.count ∧ s.command.fetch.isSome = true then
        (if s.resets.draining = true then s.endFetch else body cmd.value s.takeFetched)
      else s := by
  unfold State.runCommand
  rw [takeReply_eq]
  cases s.command.fetch <;> simp

/-- Everything the queueing of a context's notice can do (R174, R175): it is folded, or, with room in the queue and
nothing owed, it joins the queue's end. -/
theorem notify_cases (s : State) (i : Nat) (k : OwedKind) (n : Notice) :
    (s.notify i k n = s.fold i k ∧ (s.notice.full = true ∨ (s.ctx i).owed ≠ [])) ∨
      (s.notify i k n = s.push n ∧ s.notice.full = false ∧ (s.ctx i).owed = []) := by
  unfold State.notify
  cases hf : s.notice.full <;> cases ho : (s.ctx i).owed <;> simp

/-- Everything the queueing of a maskable notice can do (R155, R175). -/
theorem notifyMasked_cases (s : State) (i : Nat) (h : NoticeMask → Bool) (k : OwedKind) (n : Notice) :
    (s.notifyMasked i h k n = s ∧ h (s.effMask i) = false) ∨
      (s.notifyMasked i h k n = s.notify i k n ∧ h (s.effMask i) = true) := by
  unfold State.notifyMasked
  cases h (s.effMask i) <;> simp

/-- Everything the queueing of a notice that is never folded can do (R46, R167). -/
theorem pushOrDrop_cases (s : State) (n : Notice) :
    (s.pushOrDrop n = s ∧ s.notice.full = true) ∨ (s.pushOrDrop n = s.push n ∧ s.notice.full = false) := by
  unfold State.pushOrDrop
  cases s.notice.full <;> simp

/-- `notify` changes contexts and notice only. -/
@[simp] theorem notify_frame (s : State) (i : Nat) (k : OwedKind) (n : Notice) :
    (s.notify i k n).intake = s.intake ∧ (s.notify i k n).map = s.map ∧ (s.notify i k n).staging = s.staging ∧
      (s.notify i k n).delivery = s.delivery ∧ (s.notify i k n).actions = s.actions ∧
      (s.notify i k n).groups = s.groups ∧ (s.notify i k n).verify = s.verify ∧
      (s.notify i k n).command = s.command ∧ (s.notify i k n).resets = s.resets ∧
      (s.notify i k n).pending = s.pending := by
  unfold State.notify
  (repeat' (first | split | dsimp only))
  all_goals simp

/-- `notifyMasked` changes contexts and notice only. -/
@[simp] theorem notifyMasked_frame (s : State) (i : Nat) (h : NoticeMask → Bool) (k : OwedKind) (n : Notice) :
    (s.notifyMasked i h k n).intake = s.intake ∧ (s.notifyMasked i h k n).map = s.map ∧
      (s.notifyMasked i h k n).staging = s.staging ∧ (s.notifyMasked i h k n).delivery = s.delivery ∧
      (s.notifyMasked i h k n).actions = s.actions ∧ (s.notifyMasked i h k n).groups = s.groups ∧
      (s.notifyMasked i h k n).verify = s.verify ∧ (s.notifyMasked i h k n).command = s.command ∧
      (s.notifyMasked i h k n).resets = s.resets ∧ (s.notifyMasked i h k n).pending = s.pending := by
  unfold State.notifyMasked
  (repeat' (first | split | dsimp only))
  all_goals simp

/-- `pushOrDrop` changes notice only. -/
@[simp] theorem pushOrDrop_frame (s : State) (n : Notice) :
    (s.pushOrDrop n).intake = s.intake ∧ (s.pushOrDrop n).map = s.map ∧ (s.pushOrDrop n).contexts = s.contexts ∧
      (s.pushOrDrop n).staging = s.staging ∧ (s.pushOrDrop n).delivery = s.delivery ∧
      (s.pushOrDrop n).actions = s.actions ∧ (s.pushOrDrop n).groups = s.groups ∧
      (s.pushOrDrop n).verify = s.verify ∧ (s.pushOrDrop n).command = s.command ∧
      (s.pushOrDrop n).resets = s.resets ∧ (s.pushOrDrop n).pending = s.pending := by
  unfold State.pushOrDrop
  (repeat' (first | split | dsimp only))
  all_goals simp

/-- `rejudge` changes staging only. -/
@[simp] theorem rejudge_frame (s : State) (p : Nat → Bool) :
    (s.rejudge p).intake = s.intake ∧ (s.rejudge p).map = s.map ∧ (s.rejudge p).contexts = s.contexts ∧
      (s.rejudge p).delivery = s.delivery ∧ (s.rejudge p).actions = s.actions ∧ (s.rejudge p).groups = s.groups ∧
      (s.rejudge p).verify = s.verify ∧ (s.rejudge p).command = s.command ∧ (s.rejudge p).notice = s.notice ∧
      (s.rejudge p).resets = s.resets ∧ (s.rejudge p).pending = s.pending := by
  refine ⟨?_, ?_, ?_, ?_, ?_, ?_, ?_, ?_, ?_, ?_, ?_⟩ <;> rfl

/-- `rejudgeCtx` changes staging only. -/
@[simp] theorem rejudgeCtx_frame (s : State) (i : Nat) :
    (s.rejudgeCtx i).intake = s.intake ∧ (s.rejudgeCtx i).map = s.map ∧ (s.rejudgeCtx i).contexts = s.contexts ∧
      (s.rejudgeCtx i).delivery = s.delivery ∧ (s.rejudgeCtx i).actions = s.actions ∧
      (s.rejudgeCtx i).groups = s.groups ∧ (s.rejudgeCtx i).verify = s.verify ∧
      (s.rejudgeCtx i).command = s.command ∧ (s.rejudgeCtx i).notice = s.notice ∧
      (s.rejudgeCtx i).resets = s.resets ∧ (s.rejudgeCtx i).pending = s.pending := by
  refine ⟨?_, ?_, ?_, ?_, ?_, ?_, ?_, ?_, ?_, ?_, ?_⟩ <;> rfl

/-- `rejudgeHolds` changes staging only. -/
@[simp] theorem rejudgeHolds_frame (s : State) (b : State) :
    (s.rejudgeHolds b).intake = s.intake ∧ (s.rejudgeHolds b).map = s.map ∧
      (s.rejudgeHolds b).contexts = s.contexts ∧ (s.rejudgeHolds b).delivery = s.delivery ∧
      (s.rejudgeHolds b).actions = s.actions ∧ (s.rejudgeHolds b).groups = s.groups ∧
      (s.rejudgeHolds b).verify = s.verify ∧ (s.rejudgeHolds b).command = s.command ∧
      (s.rejudgeHolds b).notice = s.notice ∧ (s.rejudgeHolds b).resets = s.resets ∧
      (s.rejudgeHolds b).pending = s.pending := by
  refine ⟨?_, ?_, ?_, ?_, ?_, ?_, ?_, ?_, ?_, ?_, ?_⟩ <;> rfl

/-- `stage` changes contexts and staging only. -/
@[simp] theorem stage_frame (s : State) (i o : Nat) (p : List Byte) (l : List Piece) :
    (s.stage i o p l).intake = s.intake ∧ (s.stage i o p l).map = s.map ∧ (s.stage i o p l).delivery = s.delivery ∧
      (s.stage i o p l).actions = s.actions ∧ (s.stage i o p l).groups = s.groups ∧
      (s.stage i o p l).verify = s.verify ∧ (s.stage i o p l).command = s.command ∧
      (s.stage i o p l).notice = s.notice ∧ (s.stage i o p l).resets = s.resets ∧
      (s.stage i o p l).pending = s.pending := by
  refine ⟨?_, ?_, ?_, ?_, ?_, ?_, ?_, ?_, ?_, ?_⟩ <;> rfl

/-- `release` changes contexts and staging only. -/
@[simp] theorem release_frame (s : State) (i : Nat) (g : Nat × StagedRecord → Bool) :
    (s.release i g).intake = s.intake ∧ (s.release i g).map = s.map ∧ (s.release i g).delivery = s.delivery ∧
      (s.release i g).actions = s.actions ∧ (s.release i g).groups = s.groups ∧ (s.release i g).verify = s.verify ∧
      (s.release i g).command = s.command ∧ (s.release i g).notice = s.notice ∧ (s.release i g).resets = s.resets ∧
      (s.release i g).pending = s.pending := by
  refine ⟨?_, ?_, ?_, ?_, ?_, ?_, ?_, ?_, ?_, ?_⟩ <;> rfl

/-- `releaseUnwritten` changes contexts and staging only. -/
@[simp] theorem releaseUnwritten_frame (s : State) (i : Nat) :
    (s.releaseUnwritten i).intake = s.intake ∧ (s.releaseUnwritten i).map = s.map ∧
      (s.releaseUnwritten i).delivery = s.delivery ∧ (s.releaseUnwritten i).actions = s.actions ∧
      (s.releaseUnwritten i).groups = s.groups ∧ (s.releaseUnwritten i).verify = s.verify ∧
      (s.releaseUnwritten i).command = s.command ∧ (s.releaseUnwritten i).notice = s.notice ∧
      (s.releaseUnwritten i).resets = s.resets ∧ (s.releaseUnwritten i).pending = s.pending := by
  refine ⟨?_, ?_, ?_, ?_, ?_, ?_, ?_, ?_, ?_, ?_⟩ <;> rfl

/-- `releaseRecord` changes contexts and staging only. -/
@[simp] theorem releaseRecord_frame (s : State) (i r : Nat) :
    (s.releaseRecord i r).intake = s.intake ∧ (s.releaseRecord i r).map = s.map ∧
      (s.releaseRecord i r).delivery = s.delivery ∧ (s.releaseRecord i r).actions = s.actions ∧
      (s.releaseRecord i r).groups = s.groups ∧ (s.releaseRecord i r).verify = s.verify ∧
      (s.releaseRecord i r).command = s.command ∧ (s.releaseRecord i r).notice = s.notice ∧
      (s.releaseRecord i r).resets = s.resets ∧ (s.releaseRecord i r).pending = s.pending := by
  refine ⟨?_, ?_, ?_, ?_, ?_, ?_, ?_, ?_, ?_, ?_⟩ <;> rfl

/-- `groupDoneTest` changes contexts and notice only. -/
@[simp] theorem groupDoneTest_frame (s : State) (g : Nat) (b : Group) :
    (s.groupDoneTest g b).intake = s.intake ∧ (s.groupDoneTest g b).map = s.map ∧
      (s.groupDoneTest g b).staging = s.staging ∧ (s.groupDoneTest g b).delivery = s.delivery ∧
      (s.groupDoneTest g b).actions = s.actions ∧ (s.groupDoneTest g b).groups = s.groups ∧
      (s.groupDoneTest g b).verify = s.verify ∧ (s.groupDoneTest g b).command = s.command ∧
      (s.groupDoneTest g b).resets = s.resets ∧ (s.groupDoneTest g b).pending = s.pending := by
  unfold State.groupDoneTest
  (repeat' (first | split | dsimp only))
  all_goals simp

/-- `memberDone` changes contexts, notice and groups only. -/
@[simp] theorem memberDone_frame (s : State) (i : Nat) :
    (s.memberDone i).intake = s.intake ∧ (s.memberDone i).map = s.map ∧ (s.memberDone i).staging = s.staging ∧
      (s.memberDone i).delivery = s.delivery ∧ (s.memberDone i).actions = s.actions ∧
      (s.memberDone i).verify = s.verify ∧ (s.memberDone i).command = s.command ∧
      (s.memberDone i).resets = s.resets ∧ (s.memberDone i).pending = s.pending := by
  unfold State.memberDone
  (repeat' (first | split | dsimp only))
  all_goals simp

/-- `memberFailed` changes contexts, notice, groups and staging only. -/
@[simp] theorem memberFailed_frame (s : State) (i : Nat) (c : FailCause) :
    (s.memberFailed i c).intake = s.intake ∧ (s.memberFailed i c).map = s.map ∧
      (s.memberFailed i c).delivery = s.delivery ∧ (s.memberFailed i c).actions = s.actions ∧
      (s.memberFailed i c).verify = s.verify ∧ (s.memberFailed i c).command = s.command ∧
      (s.memberFailed i c).resets = s.resets ∧ (s.memberFailed i c).pending = s.pending := by
  unfold State.memberFailed
  (repeat' (first | split | dsimp only))
  all_goals simp

/-- `memberRecovered` changes groups and staging only. -/
@[simp] theorem memberRecovered_frame (s : State) (i : Nat) :
    (s.memberRecovered i).intake = s.intake ∧ (s.memberRecovered i).map = s.map ∧
      (s.memberRecovered i).contexts = s.contexts ∧ (s.memberRecovered i).delivery = s.delivery ∧
      (s.memberRecovered i).actions = s.actions ∧ (s.memberRecovered i).verify = s.verify ∧
      (s.memberRecovered i).command = s.command ∧ (s.memberRecovered i).notice = s.notice ∧
      (s.memberRecovered i).resets = s.resets ∧ (s.memberRecovered i).pending = s.pending := by
  unfold State.memberRecovered
  (repeat' (first | split | dsimp only))
  all_goals simp

/-- `joinGroup` changes contexts, groups and staging only. -/
@[simp] theorem joinGroup_frame (s : State) (i g : Nat) (h : Bool) :
    (s.joinGroup i g h).intake = s.intake ∧ (s.joinGroup i g h).map = s.map ∧
      (s.joinGroup i g h).delivery = s.delivery ∧ (s.joinGroup i g h).actions = s.actions ∧
      (s.joinGroup i g h).verify = s.verify ∧ (s.joinGroup i g h).command = s.command ∧
      (s.joinGroup i g h).notice = s.notice ∧ (s.joinGroup i g h).resets = s.resets ∧
      (s.joinGroup i g h).pending = s.pending := by
  unfold State.joinGroup
  (repeat' (first | split | dsimp only))
  all_goals simp

/-- `leaveGroup` changes contexts, notice, groups and staging only. -/
@[simp] theorem leaveGroup_frame (s : State) (i : Nat) :
    (s.leaveGroup i).intake = s.intake ∧ (s.leaveGroup i).map = s.map ∧ (s.leaveGroup i).delivery = s.delivery ∧
      (s.leaveGroup i).actions = s.actions ∧ (s.leaveGroup i).verify = s.verify ∧
      (s.leaveGroup i).command = s.command ∧ (s.leaveGroup i).resets = s.resets ∧
      (s.leaveGroup i).pending = s.pending := by
  unfold State.leaveGroup
  (repeat' (first | split | dsimp only))
  all_goals simp

/-- `setVerify` changes contexts only. -/
@[simp] theorem setVerify_frame (s : State) (i p : Nat) (v : VerifyStatus) :
    (s.setVerify i p v).intake = s.intake ∧ (s.setVerify i p v).map = s.map ∧
      (s.setVerify i p v).staging = s.staging ∧ (s.setVerify i p v).delivery = s.delivery ∧
      (s.setVerify i p v).actions = s.actions ∧ (s.setVerify i p v).groups = s.groups ∧
      (s.setVerify i p v).verify = s.verify ∧ (s.setVerify i p v).command = s.command ∧
      (s.setVerify i p v).notice = s.notice ∧ (s.setVerify i p v).resets = s.resets ∧
      (s.setVerify i p v).pending = s.pending := by
  refine ⟨?_, ?_, ?_, ?_, ?_, ?_, ?_, ?_, ?_, ?_, ?_⟩ <;> rfl

/-- `verifyNotice` changes contexts and notice only. -/
@[simp] theorem verifyNotice_frame (s : State) (r : VerifyRequest) (o : VerifyOutcome) :
    (s.verifyNotice r o).intake = s.intake ∧ (s.verifyNotice r o).map = s.map ∧
      (s.verifyNotice r o).staging = s.staging ∧ (s.verifyNotice r o).delivery = s.delivery ∧
      (s.verifyNotice r o).actions = s.actions ∧ (s.verifyNotice r o).groups = s.groups ∧
      (s.verifyNotice r o).verify = s.verify ∧ (s.verifyNotice r o).command = s.command ∧
      (s.verifyNotice r o).resets = s.resets ∧ (s.verifyNotice r o).pending = s.pending := by
  unfold State.verifyNotice
  (repeat' (first | split | dsimp only))
  all_goals simp

/-- `verifyOutcome` changes contexts and notice only. -/
@[simp] theorem verifyOutcome_frame (s : State) (r : VerifyRequest) (o : VerifyOutcome) :
    (s.verifyOutcome r o).intake = s.intake ∧ (s.verifyOutcome r o).map = s.map ∧
      (s.verifyOutcome r o).staging = s.staging ∧ (s.verifyOutcome r o).delivery = s.delivery ∧
      (s.verifyOutcome r o).actions = s.actions ∧ (s.verifyOutcome r o).groups = s.groups ∧
      (s.verifyOutcome r o).verify = s.verify ∧ (s.verifyOutcome r o).command = s.command ∧
      (s.verifyOutcome r o).resets = s.resets ∧ (s.verifyOutcome r o).pending = s.pending := by
  unfold State.verifyOutcome
  (repeat' (first | split | dsimp only))
  all_goals simp

/-- `startVerify` changes contexts, notice and verify only. -/
@[simp] theorem startVerify_frame (l : List VerifyRequest) (s : State) :
    (startVerify l s).intake = s.intake ∧ (startVerify l s).map = s.map ∧ (startVerify l s).staging = s.staging ∧
      (startVerify l s).delivery = s.delivery ∧ (startVerify l s).actions = s.actions ∧
      (startVerify l s).groups = s.groups ∧ (startVerify l s).command = s.command ∧
      (startVerify l s).resets = s.resets ∧ (startVerify l s).pending = s.pending := by
  induction l generalizing s with
  | nil => simp [startVerify]
  | cons r l ih => unfold startVerify; dsimp only; split; all_goals simp [ih]

/-- `nextVerify` changes contexts, notice and verify only. -/
@[simp] theorem nextVerify_frame (s : State) (l : List VerifyRequest) :
    (s.nextVerify l).intake = s.intake ∧ (s.nextVerify l).map = s.map ∧ (s.nextVerify l).staging = s.staging ∧
      (s.nextVerify l).delivery = s.delivery ∧ (s.nextVerify l).actions = s.actions ∧
      (s.nextVerify l).groups = s.groups ∧ (s.nextVerify l).command = s.command ∧
      (s.nextVerify l).resets = s.resets ∧ (s.nextVerify l).pending = s.pending := by
  unfold State.nextVerify
  (repeat' (first | split | dsimp only))
  all_goals simp

/-- `abortQueued` changes contexts and notice only. -/
@[simp] theorem abortQueued_frame (b : Bool) (s : State) (r : VerifyRequest) :
    (State.abortQueued b s r).intake = s.intake ∧ (State.abortQueued b s r).map = s.map ∧
      (State.abortQueued b s r).staging = s.staging ∧ (State.abortQueued b s r).delivery = s.delivery ∧
      (State.abortQueued b s r).actions = s.actions ∧ (State.abortQueued b s r).groups = s.groups ∧
      (State.abortQueued b s r).verify = s.verify ∧ (State.abortQueued b s r).command = s.command ∧
      (State.abortQueued b s r).resets = s.resets ∧ (State.abortQueued b s r).pending = s.pending := by
  simp [State.abortQueued]

/-- The aborts of several requests change contexts and notice only. -/
@[simp] theorem foldAbort_frame (b : Bool) (l : List VerifyRequest) (s : State) :
    (l.foldl (State.abortQueued b) s).intake = s.intake ∧ (l.foldl (State.abortQueued b) s).map = s.map ∧
      (l.foldl (State.abortQueued b) s).staging = s.staging ∧
      (l.foldl (State.abortQueued b) s).delivery = s.delivery ∧
      (l.foldl (State.abortQueued b) s).actions = s.actions ∧ (l.foldl (State.abortQueued b) s).groups = s.groups ∧
      (l.foldl (State.abortQueued b) s).verify = s.verify ∧ (l.foldl (State.abortQueued b) s).command = s.command ∧
      (l.foldl (State.abortQueued b) s).resets = s.resets ∧ (l.foldl (State.abortQueued b) s).pending = s.pending := by
  induction l generalizing s with
  | nil => simp
  | cons r l ih => rw [List.foldl_cons]; simp [ih]

/-- `abortVerify` changes contexts, notice and verify only. -/
@[simp] theorem abortVerify_frame (s : State) (i : Nat) (b : Bool) :
    (s.abortVerify i b).intake = s.intake ∧ (s.abortVerify i b).map = s.map ∧
      (s.abortVerify i b).staging = s.staging ∧ (s.abortVerify i b).delivery = s.delivery ∧
      (s.abortVerify i b).actions = s.actions ∧ (s.abortVerify i b).groups = s.groups ∧
      (s.abortVerify i b).command = s.command ∧ (s.abortVerify i b).resets = s.resets ∧
      (s.abortVerify i b).pending = s.pending := by
  unfold State.abortVerify
  (repeat' (first | split | dsimp only))
  all_goals simp

/-- `fail` changes contexts, notice, groups and staging only. -/
@[simp] theorem fail_frame (s : State) (i : Nat) (c : FailCause) :
    (s.fail i c).intake = s.intake ∧ (s.fail i c).map = s.map ∧ (s.fail i c).delivery = s.delivery ∧
      (s.fail i c).actions = s.actions ∧ (s.fail i c).verify = s.verify ∧ (s.fail i c).command = s.command ∧
      (s.fail i c).resets = s.resets ∧ (s.fail i c).pending = s.pending := by
  unfold State.fail
  (repeat' (first | split | dsimp only))
  all_goals simp

/-- `revive` changes contexts and notice only. -/
@[simp] theorem revive_frame (s : State) (i : Nat) :
    (s.revive i).intake = s.intake ∧ (s.revive i).map = s.map ∧ (s.revive i).staging = s.staging ∧
      (s.revive i).delivery = s.delivery ∧ (s.revive i).actions = s.actions ∧ (s.revive i).groups = s.groups ∧
      (s.revive i).verify = s.verify ∧ (s.revive i).command = s.command ∧ (s.revive i).resets = s.resets ∧
      (s.revive i).pending = s.pending := by
  unfold State.revive
  (repeat' (first | split | dsimp only))
  all_goals simp

/-- `countDamaged` changes contexts, notice, groups and staging only. -/
@[simp] theorem countDamaged_frame (s : State) (i : Nat) :
    (s.countDamaged i).intake = s.intake ∧ (s.countDamaged i).map = s.map ∧
      (s.countDamaged i).delivery = s.delivery ∧ (s.countDamaged i).actions = s.actions ∧
      (s.countDamaged i).verify = s.verify ∧ (s.countDamaged i).command = s.command ∧
      (s.countDamaged i).resets = s.resets ∧ (s.countDamaged i).pending = s.pending := by
  unfold State.countDamaged
  (repeat' (first | split | dsimp only))
  all_goals simp

/-- `markOlder` changes delivery only. -/
@[simp] theorem markOlder_frame (s : State) (i : Nat) :
    (s.markOlder i).intake = s.intake ∧ (s.markOlder i).map = s.map ∧ (s.markOlder i).contexts = s.contexts ∧
      (s.markOlder i).staging = s.staging ∧ (s.markOlder i).actions = s.actions ∧
      (s.markOlder i).groups = s.groups ∧ (s.markOlder i).verify = s.verify ∧ (s.markOlder i).command = s.command ∧
      (s.markOlder i).notice = s.notice ∧ (s.markOlder i).resets = s.resets ∧ (s.markOlder i).pending = s.pending := by
  refine ⟨?_, ?_, ?_, ?_, ?_, ?_, ?_, ?_, ?_, ?_, ?_⟩ <;> rfl

/-- `restart` changes contexts, notice, groups, staging, delivery and verify only. -/
@[simp] theorem restart_frame (s : State) (i : Nat) :
    (s.restart i).intake = s.intake ∧ (s.restart i).map = s.map ∧ (s.restart i).actions = s.actions ∧
      (s.restart i).command = s.command ∧ (s.restart i).resets = s.resets ∧ (s.restart i).pending = s.pending := by
  unfold State.restart
  (repeat' (first | split | dsimp only))
  all_goals simp

/-- `halfTest` changes contexts and notice only. -/
@[simp] theorem halfTest_frame (s : State) (i n : Nat) :
    (s.halfTest i n).intake = s.intake ∧ (s.halfTest i n).map = s.map ∧ (s.halfTest i n).staging = s.staging ∧
      (s.halfTest i n).delivery = s.delivery ∧ (s.halfTest i n).actions = s.actions ∧
      (s.halfTest i n).groups = s.groups ∧ (s.halfTest i n).verify = s.verify ∧
      (s.halfTest i n).command = s.command ∧ (s.halfTest i n).resets = s.resets ∧
      (s.halfTest i n).pending = s.pending := by
  unfold State.halfTest
  (repeat' (first | split | dsimp only))
  all_goals simp

/-- `cutHalfTest` changes contexts and notice only. -/
@[simp] theorem cutHalfTest_frame (s : State) (i p : Nat) :
    (s.cutHalfTest i p).intake = s.intake ∧ (s.cutHalfTest i p).map = s.map ∧
      (s.cutHalfTest i p).staging = s.staging ∧ (s.cutHalfTest i p).delivery = s.delivery ∧
      (s.cutHalfTest i p).actions = s.actions ∧ (s.cutHalfTest i p).groups = s.groups ∧
      (s.cutHalfTest i p).verify = s.verify ∧ (s.cutHalfTest i p).command = s.command ∧
      (s.cutHalfTest i p).resets = s.resets ∧ (s.cutHalfTest i p).pending = s.pending := by
  unfold State.cutHalfTest
  (repeat' (first | split | dsimp only))
  all_goals simp

/-- `trimAreas` changes contexts, notice and staging only. -/
@[simp] theorem trimAreas_frame (s : State) (i : Nat) :
    (s.trimAreas i).intake = s.intake ∧ (s.trimAreas i).map = s.map ∧ (s.trimAreas i).delivery = s.delivery ∧
      (s.trimAreas i).actions = s.actions ∧ (s.trimAreas i).groups = s.groups ∧ (s.trimAreas i).verify = s.verify ∧
      (s.trimAreas i).command = s.command ∧ (s.trimAreas i).resets = s.resets ∧ (s.trimAreas i).pending = s.pending := by
  unfold State.trimAreas
  (repeat' (first | split | dsimp only))
  all_goals simp

/-- `completionCheck` changes contexts, notice, groups and staging only. -/
@[simp] theorem completionCheck_frame (s : State) (i : Nat) :
    (s.completionCheck i).intake = s.intake ∧ (s.completionCheck i).map = s.map ∧
      (s.completionCheck i).delivery = s.delivery ∧ (s.completionCheck i).actions = s.actions ∧
      (s.completionCheck i).verify = s.verify ∧ (s.completionCheck i).command = s.command ∧
      (s.completionCheck i).resets = s.resets ∧ (s.completionCheck i).pending = s.pending := by
  unfold State.completionCheck
  (repeat' (first | split | dsimp only))
  all_goals simp

/-- `retireWindow` changes contexts and notice only. -/
@[simp] theorem retireWindow_frame (s : State) (i n : Nat) :
    (s.retireWindow i n).intake = s.intake ∧ (s.retireWindow i n).map = s.map ∧
      (s.retireWindow i n).staging = s.staging ∧ (s.retireWindow i n).delivery = s.delivery ∧
      (s.retireWindow i n).actions = s.actions ∧ (s.retireWindow i n).groups = s.groups ∧
      (s.retireWindow i n).verify = s.verify ∧ (s.retireWindow i n).command = s.command ∧
      (s.retireWindow i n).resets = s.resets ∧ (s.retireWindow i n).pending = s.pending := by
  unfold State.retireWindow
  (repeat' (first | split | dsimp only))
  all_goals simp

/-- `evaluateOnce` changes contexts, notice, groups and staging only. -/
@[simp] theorem evaluateOnce_frame (s : State) (i : Nat) :
    (s.evaluateOnce i).intake = s.intake ∧ (s.evaluateOnce i).map = s.map ∧
      (s.evaluateOnce i).delivery = s.delivery ∧ (s.evaluateOnce i).actions = s.actions ∧
      (s.evaluateOnce i).verify = s.verify ∧ (s.evaluateOnce i).command = s.command ∧
      (s.evaluateOnce i).resets = s.resets ∧ (s.evaluateOnce i).pending = s.pending := by
  unfold State.evaluateOnce
  (repeat' (first | split | dsimp only))
  all_goals simp

/-- `evaluateRetirement` changes contexts, notice, groups and staging only. -/
@[simp] theorem evaluateRetirement_frame (s : State) (i : Nat) :
    (s.evaluateRetirement i).intake = s.intake ∧ (s.evaluateRetirement i).map = s.map ∧
      (s.evaluateRetirement i).delivery = s.delivery ∧ (s.evaluateRetirement i).actions = s.actions ∧
      (s.evaluateRetirement i).verify = s.verify ∧ (s.evaluateRetirement i).command = s.command ∧
      (s.evaluateRetirement i).resets = s.resets ∧ (s.evaluateRetirement i).pending = s.pending := by
  unfold State.evaluateRetirement
  all_goals simp

/-- The half-notice tests of several windows change contexts and notice only. -/
@[simp] theorem foldHalf_frame (i : Nat) (l : List Nat) (s : State) :
    (l.foldl (fun s n => s.halfTest i n) s).intake = s.intake ∧
      (l.foldl (fun s n => s.halfTest i n) s).map = s.map ∧
      (l.foldl (fun s n => s.halfTest i n) s).staging = s.staging ∧
      (l.foldl (fun s n => s.halfTest i n) s).delivery = s.delivery ∧
      (l.foldl (fun s n => s.halfTest i n) s).actions = s.actions ∧
      (l.foldl (fun s n => s.halfTest i n) s).groups = s.groups ∧
      (l.foldl (fun s n => s.halfTest i n) s).verify = s.verify ∧
      (l.foldl (fun s n => s.halfTest i n) s).command = s.command ∧
      (l.foldl (fun s n => s.halfTest i n) s).resets = s.resets ∧
      (l.foldl (fun s n => s.halfTest i n) s).pending = s.pending := by
  induction l generalizing s with
  | nil => simp
  | cons n l ih => rw [List.foldl_cons]; simp [ih]

/-- `takePieces` changes contexts and notice only. -/
@[simp] theorem takePieces_frame (s : State) (i : Nat) (l : List Piece) :
    (s.takePieces i l).intake = s.intake ∧ (s.takePieces i l).map = s.map ∧ (s.takePieces i l).staging = s.staging ∧
      (s.takePieces i l).delivery = s.delivery ∧ (s.takePieces i l).actions = s.actions ∧
      (s.takePieces i l).groups = s.groups ∧ (s.takePieces i l).verify = s.verify ∧
      (s.takePieces i l).command = s.command ∧ (s.takePieces i l).resets = s.resets ∧
      (s.takePieces i l).pending = s.pending := by
  unfold State.takePieces
  dsimp only
  split
  all_goals simp

/-- `enterFree` changes contexts only. -/
@[simp] theorem enterFree_frame (s : State) (i : Nat) :
    (s.enterFree i).intake = s.intake ∧ (s.enterFree i).map = s.map ∧ (s.enterFree i).staging = s.staging ∧
      (s.enterFree i).delivery = s.delivery ∧ (s.enterFree i).actions = s.actions ∧
      (s.enterFree i).groups = s.groups ∧ (s.enterFree i).verify = s.verify ∧ (s.enterFree i).command = s.command ∧
      (s.enterFree i).notice = s.notice ∧ (s.enterFree i).resets = s.resets ∧ (s.enterFree i).pending = s.pending := by
  refine ⟨?_, ?_, ?_, ?_, ?_, ?_, ?_, ?_, ?_, ?_, ?_⟩ <;> rfl

/-- `freeIfIdle` changes contexts only. -/
@[simp] theorem freeIfIdle_frame (s : State) (i : Nat) :
    (s.freeIfIdle i).intake = s.intake ∧ (s.freeIfIdle i).map = s.map ∧ (s.freeIfIdle i).staging = s.staging ∧
      (s.freeIfIdle i).delivery = s.delivery ∧ (s.freeIfIdle i).actions = s.actions ∧
      (s.freeIfIdle i).groups = s.groups ∧ (s.freeIfIdle i).verify = s.verify ∧
      (s.freeIfIdle i).command = s.command ∧ (s.freeIfIdle i).notice = s.notice ∧
      (s.freeIfIdle i).resets = s.resets ∧ (s.freeIfIdle i).pending = s.pending := by
  unfold State.freeIfIdle
  (repeat' (first | split | dsimp only))
  all_goals simp

end Sys2Proof.Laws
end

