-- ==== Sys2Proof/Laws/Channels.lean ====
section
/-! SUPPORT. What presenting, taking and serving a segment can do, what an expiry and an idle step can do, and what a
re-evaluation makes of each record. -/

namespace Sys2Proof.Laws

open Sys2Proof Sys2Proof.Machine

/-! ## Re-evaluation -/

theorem lookup_mapEntries {α : Type} (f : Nat × α → Nat × α) (h : ∀ e, (f e).1 = e.1) (t : Table α) (r : Nat) :
    Table.lookup (t.map f) r = (t.find? fun e => e.1 == r).map fun e => (f e).2 := by
  unfold Table.lookup
  rw [List.find?_map]
  simp [Function.comp_def, h]

/-- A re-evaluation judges again the records of the contexts picked, each on its own, and leaves the others (R84). -/
theorem staged_rejudge (s : State) (pick : Nat → Bool) (r : Nat) :
    (s.rejudge pick).staged r =
      (s.staged r).map fun rec => if pick rec.owner then { rec with state := s.judged rec } else rec := by
  show Table.lookup (List.map _ _) r = Option.map _ (Table.lookup _ r)
  rw [lookup_mapEntries _ (fun e => by dsimp only; split <;> rfl)]
  unfold Table.lookup
  cases (s.staging.pool.find? fun e => e.1 == r) with
  | none => rfl
  | some e => dsimp only [Option.map]; split <;> rfl

/-! ## Segments at the channels -/

@[simp] theorem countUnmatched_channels (s : State) (link : BitVec 2) (key : Key) :
    (s.countUnmatched link key).intake.channels = s.intake.channels := by
  unfold State.countUnmatched
  dsimp only
  split
  all_goals simp

@[simp] theorem signalStage_intake (s : State) (i : Nat) (level : Bool) : (s.signalStage i level).1.intake = s.intake := by
  unfold State.signalStage
  (repeat' (first | split | dsimp only))
  all_goals simp

@[simp] theorem commit_intake (s : State) (i : Nat) (g : DataSegment) : (s.commit i g).intake = s.intake := by
  unfold State.commit State.implyTotal
  (repeat' (first | split | dsimp only))
  all_goals simp

@[simp] theorem rangeStage_intake (s : State) (i : Nat) (g : DataSegment) : (s.rangeStage i g).state.intake = s.intake := by
  unfold State.rangeStage State.trimStage State.answer
  (repeat' (first | split | dsimp only))
  all_goals simp

@[simp] theorem manifestStage_intake (s : State) (i : Nat) (g : ManifestSegment) :
    (s.manifestStage i g).state.intake = s.intake := by
  unfold State.manifestStage State.recordManifest State.answer
  (repeat' (first | split | dsimp only))
  all_goals simp

/-- A segment taken whole leaves what stands at the channels. -/
@[simp] theorem takeSegment_channels (s : State) (seg : Segment) :
    (s.takeSegment seg).intake.channels = s.intake.channels := by
  cases seg with
  | data g =>
    show (s.takeData g).state.intake.channels = _
    unfold State.takeData State.dataStages State.answer0 State.answer
    (repeat' (first | split | dsimp only))
    all_goals simp
  | manifest g =>
    show (s.takeManifest g).state.intake.channels = _
    unfold State.takeManifest State.manifestStages State.answer0 State.answer
    (repeat' (first | split | dsimp only))
    all_goals simp
  | abandon g =>
    show (s.takeAbandon g).state.intake.channels = _
    unfold State.takeAbandon State.abandonStages State.answer0 State.answer
    (repeat' (first | split | dsimp only))
    all_goals simp
  | unknownKind g => rfl

/-- A segment taken whole makes its link the last served. -/
@[simp] theorem takeSegment_lastLink (s : State) (seg : Segment) : (s.takeSegment seg).intake.lastLink = seg.link := by
  cases seg <;> rfl

/-- Everything the presentation of a segment can do (R25). -/
theorem arrive_cases (s : State) (seg : Segment) (arrival : Arrival) :
    (s.arrive seg arrival = s ∧ s.channelReady seg.link = false) ∨
      (s.arrive seg arrival = s.takeSegment seg ∧ s.channelReady seg.link = true ∧ arrival = .idle ∧
        s.intake.channels = []) ∨
      (s.arrive seg arrival = s.setChannel seg.link.toNat (some seg) ∧ s.channelReady seg.link = true) := by
  unfold State.arrive
  split
  · next h =>
    split
    · next g => exact .inr (.inl ⟨rfl, h, g⟩)
    · exact .inr (.inr ⟨rfl, h⟩)
  · next h => exact .inl ⟨rfl, by simpa using h⟩

/-- Everything the service of the next channel can do (R25). -/
theorem serveNext_cases (s : State) :
    s.serveNext = s ∨
      ∃ k seg, s.nextChannel = some k ∧ s.channel k = some seg ∧ s.serveNext = (s.setChannel k none).takeSegment seg := by
  unfold State.serveNext
  split
  · exact .inl rfl
  · next k h =>
    split
    · exact .inl rfl
    · next seg g => exact .inr ⟨k, seg, h, g, rfl⟩

/-! ## Expiries and the idle step -/

/-- Everything a stall expiry can do (R140). -/
theorem stallExpire_cases (s : State) (i : Nat) :
    s.stallExpire i = s ∨
      ((s.ctx i).state = .active ∧ (s.ctx i).timer = .stall 0 ∧
        s.stallExpire i =
          (s.modCtx i fun c =>
            { c with state := .stalled, timer := fullAbandon c.stallSelect c.abandonMultiplier }).notifyMasked i
              NoticeMask.stalled .stalled (.stalled i)) := by
  unfold State.stallExpire
  split
  · next h => exact .inr ⟨h.1, h.2, rfl⟩
  · exact .inl rfl

/-- Everything an abandon expiry can do (R141). -/
theorem abandonExpire_cases (s : State) (i : Nat) :
    s.abandonExpire i = s ∨
      ((s.ctx i).state = .stalled ∧ (s.ctx i).timer = .abandon (some 0) ∧ s.abandonExpire i = s.fail i .timedOut) := by
  unfold State.abandonExpire
  split
  · next h => exact .inr ⟨h.1, h.2, rfl⟩
  · exact .inl rfl

/-- Everything a step on an empty queue can do (log 2). -/
theorem idle_cases (s : State) :
    s.idle = s ∨ s.idle = s.serveNext ∨ (∃ i, s.idle = s.stallExpire i) ∨ (∃ i, s.idle = s.abandonExpire i) ∨
      s.idle = s.tick := by
  unfold State.idle State.whenLive State.expire
  split
  · dsimp only
    split
    · exact .inr (.inl rfl)
    · split
      · next i _ =>
        split
        · exact .inr (.inr (.inl ⟨i, rfl⟩))
        · exact .inr (.inr (.inr (.inl ⟨i, rfl⟩)))
      · exact .inr (.inr (.inr (.inr rfl)))
  · exact .inl rfl

end Sys2Proof.Laws
end

