-- ==== Sys2Proof/Laws/Memory.lean ====
section
/-! SUPPORT. The laws of staging memory: what is read after bytes are stored, and that stores keep the canonical form. -/

namespace Sys2Proof.Laws

open Sys2Proof Sys2Proof.Machine

theorem lookup_append {α : Type} (s t : Table α) (i : Nat) :
    Table.lookup (s ++ t) i = (Table.lookup s i).orElse fun _ => Table.lookup t i := by
  induction s with
  | nil => simp
  | cons e s ih =>
    rw [List.cons_append, lookup_cons, lookup_cons]
    by_cases h : e.1 = i <;> simp [h, ih]

theorem lookup_filter {α : Type} (t : Table α) (p : Nat → Bool) (i : Nat) :
    Table.lookup (t.filter fun e => p e.1) i = if p i then Table.lookup t i else none := by
  induction t with
  | nil => simp
  | cons e t ih =>
    by_cases h : e.1 = i
    · cases hp : p i <;> simp [lookup_cons, h, hp, ih]
    · cases hp : p e.1 <;> simp [lookup_cons, h, hp, ih]

theorem lookup_cellsFrom (a : Nat) (bytes : List Byte) (i : Nat) :
    Table.lookup ((cellsFrom a bytes).filter fun c => c.2 != blankByte) i =
      if a ≤ i ∧ i < a + bytes.length ∧ bytes.getD (i - a) blankByte ≠ blankByte then
        some (bytes.getD (i - a) blankByte) else none := by
  induction bytes generalizing a with
  | nil => simp [cellsFrom]
  | cons b bs ih =>
    by_cases h : a = i
    · subst h
      by_cases hb : b = blankByte
      · simp only [cellsFrom, List.filter_cons, hb, bne_self_eq_false, Bool.false_eq_true, if_false, ih]
        rw [if_neg (by omega), if_neg (by simp)]
      · rw [cellsFrom, List.filter_cons_of_pos (by simpa using hb), lookup_cons, if_pos rfl]
        simp only [Nat.sub_self, List.getD_cons_zero]
        rw [if_pos ⟨le_rfl, by simp, hb⟩]
    · have step : Table.lookup ((cellsFrom a (b :: bs)).filter fun c => c.2 != blankByte) i =
          Table.lookup ((cellsFrom (a + 1) bs).filter fun c => c.2 != blankByte) i := by
        by_cases hb : b = blankByte
        · rw [cellsFrom, List.filter_cons_of_neg (by simpa using hb)]
        · rw [cellsFrom, List.filter_cons_of_pos (by simpa using hb), lookup_cons, if_neg h]
      rw [step, ih]
      by_cases hlt : a < i
      · obtain ⟨k, rfl⟩ : ∃ k, i = a + 1 + k := ⟨i - (a + 1), by omega⟩
        have e1 : a + 1 + k - (a + 1) = k := by omega
        have e2 : a + 1 + k - a = k + 1 := by omega
        simp only [e1, e2, List.getD_cons_succ, List.length_cons]
        congr 1
        simp only [eq_iff_iff]
        constructor <;> (rintro ⟨-, h2, h3⟩; exact ⟨by omega, by omega, h3⟩)
      · rw [if_neg (by omega), if_neg (by omega)]

/-- What a byte reads as after bytes are stored: the byte stored there, or what it read as before. -/
theorem readByte_writeRun (m : List Host.Cell) (a : Nat) (bytes : List Byte) (i : Nat) :
    readByte (writeRun m a bytes) i =
      if a ≤ i ∧ i < a + bytes.length then bytes.getD (i - a) blankByte else readByte m i := by
  have h1 := lookup_filter (α := Byte) m (fun k => decide (k < a)) i
  have h2 := lookup_filter (α := Byte) m (fun k => decide (a + bytes.length ≤ k)) i
  simp only [decide_eq_true_eq] at h1 h2
  unfold readByte Table.get writeRun
  rw [lookup_append, lookup_append, h1, h2, lookup_cellsFrom]
  rcases lt_or_ge i a with hl | hl
  · simp only [if_pos hl, show ¬(a ≤ i) by omega, false_and, if_false, show ¬(a + bytes.length ≤ i) by omega]
    cases Table.lookup m i <;> rfl
  · rcases lt_or_ge i (a + bytes.length) with hu | hu
    · simp only [show ¬(i < a) by omega, if_false, hl, hu, true_and, and_self, if_true,
        show ¬(a + bytes.length ≤ i) by omega]
      by_cases hb : bytes.getD (i - a) blankByte = blankByte
      · rw [if_neg (not_not.2 hb), hb]; rfl
      · rw [if_pos hb]; rfl
    · simp only [show ¬(i < a) by omega, if_false, hl, show ¬(i < a + bytes.length) by omega, true_and, false_and, hu,
        if_true]
      rfl

/-- Every byte outside the stored run reads as before. -/
theorem readByte_writeRun_outside (m : List Host.Cell) {a : Nat} {bytes : List Byte} {i : Nat}
    (h : i < a ∨ a + bytes.length ≤ i) : readByte (writeRun m a bytes) i = readByte m i := by
  rw [readByte_writeRun, if_neg (by omega)]

theorem mem_cellsFrom {a : Nat} {bytes : List Byte} {c : Host.Cell} (h : c ∈ cellsFrom a bytes) :
    a ≤ c.1 ∧ c.1 < a + bytes.length := by
  induction bytes generalizing a with
  | nil => cases h
  | cons b bs ih =>
    rcases List.mem_cons.1 h with h | h
    · subst h; simp
    · have := ih h
      simp only [List.length_cons]; omega

theorem sorted_cellsFrom (a : Nat) (bytes : List Byte) : Table.sorted (cellsFrom a bytes) := by
  induction bytes generalizing a with
  | nil => exact List.Pairwise.nil
  | cons b bs ih =>
    refine List.pairwise_cons.2 ⟨fun c hc => ?_, ih _⟩
    have := mem_cellsFrom hc
    show a < c.1
    omega

/-- Storing bytes keeps the canonical form. -/
theorem memoryWf_writeRun {m : List Host.Cell} (a : Nat) (bytes : List Byte) (h : memoryWf m) :
    memoryWf (writeRun m a bytes) := by
  refine ⟨?_, fun c hc => ?_⟩
  · refine List.pairwise_append.2 ⟨List.pairwise_append.2 ⟨sorted_filter _ h.1, (sorted_cellsFrom a bytes).filter _,
      fun c hc d hd => ?_⟩, sorted_filter _ h.1, fun c hc d hd => ?_⟩
    · have h1 := (List.mem_filter.1 hc).2
      have h2 := mem_cellsFrom (List.mem_filter.1 hd).1
      simp only [decide_eq_true_eq] at h1
      omega
    · have h2 := (List.mem_filter.1 hd).2
      simp only [decide_eq_true_eq] at h2
      rcases List.mem_append.1 hc with hc | hc
      · have h1 := (List.mem_filter.1 hc).2
        simp only [decide_eq_true_eq] at h1
        omega
      · have h1 := mem_cellsFrom (List.mem_filter.1 hc).1
        omega
  · rcases List.mem_append.1 hc with hc | hc
    · rcases List.mem_append.1 hc with hc | hc
      · exact h.2 c (List.mem_filter.1 hc).1
      · simpa using (List.mem_filter.1 hc).2
    · exact h.2 c (List.mem_filter.1 hc).1

/-- Storing a payload keeps the canonical form. -/
theorem memoryWf_storePayload (blocks : List Nat) (payload : List Byte) {m : List Host.Cell} (h : memoryWf m) :
    memoryWf (storePayload blocks payload m) := by
  induction blocks generalizing payload m with
  | nil => exact h
  | cons b bs ih => exact ih _ (memoryWf_writeRun _ _ h)

/-- Staging memory has the canonical form at reset. -/
theorem memoryWf_reset : memoryWf State.reset.staging.payload := wf_nil _

end Sys2Proof.Laws
end

