-- ==== Sys2Proof/Tests/Slice0.lean ====
section
/-! SUPPORT. Tests: the well-formedness checks, numbers the spec works out, one step of each command, and for every
statement that has hypotheses a state and operands that meet them. Expected values are the spec's (the place is named) or
worked by hand from its rules. -/

namespace Sys2Proof.Tests

set_option Elab.async false

open Sys2Proof Sys2Proof.Machine

/-! ## Well-formedness -/

theorem test_wf_refuses_known_kind : (Instr.unknownKindSegment ⟨⟨0, 7, 3⟩, .idle⟩).wellFormed = false := by decide
theorem test_wf_accepts_unknown_kind : (Instr.unknownKindSegment ⟨⟨0, 7, 0⟩, .idle⟩).wellFormed = true := by decide
theorem test_wf_refuses_known_code : (Instr.badCommand ⟨0, 7, 11⟩).wellFormed = false := by decide
theorem test_wf_accepts_unknown_code :
    (Instr.badCommand ⟨0, 7, 0⟩).wellFormed = true ∧ (Instr.badCommand ⟨0, 7, 12⟩).wellFormed = true := by decide
theorem test_wf_refuses_piece_26 : (Instr.pieceWriteReport 0 26 ⟨0, .ok⟩).wellFormed = false := by decide
theorem test_wf_refuses_empty_read : (Instr.verifyReadReturn ⟨0, .ok []⟩).wellFormed = false := by decide
theorem test_wf_refuses_long_read :
    (Instr.verifyReadReturn ⟨0, .ok (List.replicate 4097 0)⟩).wellFormed = false := by decide +kernel

/-! ## Keys (section 1.2, the examples under R9) -/

theorem test_bucket_of_first_key : bucketOf ⟨3, 0x12345⟩ = 889 := by decide
theorem test_bucket_of_second_key : bucketOf ⟨4, 0x1237D⟩ = 889 := by decide

/-! ## Tallies (chapter 4, "Worked cases") -/

/-- The words 5, 0xFFFFFFFF and 7. -/
def threeWords : List Byte := [5, 0, 0, 0, 0xFF, 0xFF, 0xFF, 0xFF, 7, 0, 0, 0]

theorem test_segment_tally : segmentTally threeWords = ⟨13, 28⟩ := by decide +kernel
theorem test_piece_contribution : tallyFrom 2 threeWords = ⟨13, 54⟩ := by decide +kernel
theorem test_contribution_at_the_limit : tallyFrom (2 ^ 38 - 1) [3, 0, 0, 0] = ⟨3, 384⟩ := by decide +kernel
theorem test_weight_zero : tallyFrom 2147483646 [0, 0x10, 0, 0] = ⟨4096, 0⟩ := by decide +kernel
theorem test_padded_transfer :
    tallyFrom 0 [0, 1, 0, 0, 0x10, 0, 0, 0, 1, 2] = ⟨785, 1827⟩ := by decide +kernel
theorem test_straddling_contributions :
    (piecesOf 65536 65528 [2, 0, 0, 0, 3, 0, 0, 0, 4, 0, 0, 0, 5, 0, 0, 0] [⟨65528, 65544⟩]) =
      [⟨65528, 65536, 0, ⟨5, 81918⟩⟩, ⟨65536, 65544, 1, ⟨9, 147470⟩⟩] := by decide +kernel

/-! ## Extents (chapter 3, "Worked sequences") -/

theorem test_gap_filled : newRanges 0 [⟨0, 2048⟩, ⟨4096, 8192⟩] 1024 5120 = [⟨2048, 4096⟩] := by decide
theorem test_gap_joined : insertExtents [⟨2048, 4096⟩] [⟨0, 2048⟩, ⟨4096, 8192⟩] = [⟨0, 8192⟩] := by decide
theorem test_straddle_ranges :
    newRanges 0 [⟨0, 57344⟩, ⟨62464, 63488⟩] 61440 69632 = [⟨61440, 62464⟩, ⟨63488, 69632⟩] ∧
      countAfter [⟨0, 57344⟩, ⟨62464, 63488⟩] [⟨61440, 62464⟩, ⟨63488, 69632⟩] = 2 := by decide
theorem test_cut_at_retirement : cutFirst [⟨0, 69632⟩] 65536 = [⟨65536, 69632⟩] := by decide

/-- 24 extents of 4096 bytes, one at the start of each 8192-byte stride. -/
def fullList : List Extent := (List.range 24).map fun k => ⟨8192 * k, 8192 * k + 4096⟩

theorem test_count_at_the_limit :
    countAfter fullList [⟨200704, 204800⟩] = 25 ∧ countAfter fullList [⟨192512, 196608⟩] = 24 := by decide +kernel

/-! ## Ring sizes (R170, R177) and apertures (R126) -/

theorem test_command_ring_sizes :
    ringSize 16 4096 0 = 16 ∧ ringSize 16 4096 16 = 16 ∧ ringSize 16 4096 100 = 64 ∧ ringSize 16 4096 5000 = 4096 := by
  decide +kernel
theorem test_aperture_edges :
    (⟨4096, 4096, true, true, true⟩ : Aperture).covers 4096 4096 = true ∧
      (⟨4096, 4096, true, true, true⟩ : Aperture).covers 4096 4097 = false := by decide

/-! ## Formats (section 11.5), bytes written out by hand -/

/-- An OPEN entry: tag 0x0201, peer 3, tag 0x12345, priority 2, mask 0x11, host hold, stall select 4, multiplier 5, limit 6,
quota 0x0807, window select 1, bases 0x40 and 0x10000. -/
def openEntry : List Byte :=
  [1, 0, 1, 2, 0, 0, 0, 0, 3, 0, 0, 0, 0x45, 0x23, 1, 0, 2, 0x11, 2, 4, 5, 6, 7, 8, 1, 0, 0, 0, 0, 0, 0, 0] ++
    [0x40, 0, 0, 0, 0, 0, 0, 0, 0, 0, 1, 0, 0, 0, 0, 0] ++ List.replicate 16 0

theorem test_open_entry :
    decodeEntry ⟨0, openEntry⟩ =
      .openTransfer ⟨0,
        { hostTag := 0x0201, peer := 3, tag := 0x12345, priority := 2, mask := ⟨true, false, false, false, true⟩,
          exclusive := false, hostHold := true, stallSelect := 4, abandonMultiplier := 5, damageLimit := 6,
          quota := 0x0807, windowSelect := 1, base0 := 0x40, base1 := 0x10000 }⟩ := by decide +kernel

/-- An ADJUST entry of context 5 that names exclusive (on) and quota (0x0807). -/
theorem test_adjust_entry :
    decodeEntry ⟨4, [3, 0, 9, 0, 5, 0] ++ List.replicate 10 0 ++ [2, 0x11, 1, 4, 5, 6, 7, 8, 0, 0, 0, 0, 0x88] ++
        List.replicate 35 0⟩ =
      .adjust ⟨4,
        { hostTag := 9, index := 5, priority := none, mask := none, hostHold := none, exclusive := some true,
          stallSelect := none, abandonMultiplier := none, damageLimit := none, quota := some 0x0807 }⟩ := by
  decide +kernel

/-- A DATA descriptor on link 2: handle 0x0605, peer 3, signal 1, length 12, tag 0x12345, offset 8, tally (13, 28); byte 1 and
bit 31 of the tally fields are not read. -/
theorem test_data_descriptor :
    decodeSegment 2 [1, 0xEE, 5, 6, 3, 1, 12, 0, 0x45, 0x23, 1, 0, 8, 0, 0, 0, 0, 0, 0, 0, 13, 0, 0, 0x80, 28, 0, 0, 0]
        threeWords =
      .data
        { link := 2, handle := 0x0605, peer := 3, tag := 0x12345, signal := true, offset := 8, length := 12, tallyA := 13,
          tallyB := 28, payload := threeWords } := by decide +kernel

theorem test_disposition_bytes :
    (⟨0x0605, 1, .conflict, 0x010203⟩ : Disposition).bytes = [5, 6, 1, 11, 3, 2, 1, 0, 0, 0, 0, 0] := by decide +kernel
theorem test_rollup_bits : owedBits [.windowFilled, .verifyResult] = 0x1004 := by decide

/-! ## States to step from -/

/-- All five maskable kinds. -/
def allKinds : NoticeMask := ⟨true, true, true, true, true⟩

/-- OPEN of peer 3, tag 0x12345: W 64 KiB, areas at 0 and 65536, 50 ms, multiplier 2, damage limit 2, quota 8. -/
def sample : OpenCommand :=
  { hostTag := 9, peer := 3, tag := 0x12345, priority := 1, mask := allKinds, exclusive := false, hostHold := false,
    stallSelect := 0, abandonMultiplier := 2, damageLimit := 2, quota := 8, windowSelect := 0, base0 := 0,
    base1 := 65536 }

/-- The key of the sample transfer. -/
def key : Key := ⟨3, 0x12345⟩

/-- The part in operation with no context: aperture 0 covers the first megabyte, rings of 16 and 64 entries. -/
def idle : State :=
  { State.reset with
    delivery := { State.reset.delivery with apertures := [(0, ⟨0, 0xFF000, true, true, true⟩)] }
    command := { State.reset.command with base := 0x200000, size := 16, tail := 1 }
    notice := { State.reset.notice with base := 0x201000, size := 64, armed := true }
    resets := { State.reset.resets with pending := false } }

/-- A command has been fetched. -/
def State.fetched (s : State) : State :=
  { s with command := { s.command with fetch := some 0x200000 }, notice := { s.notice with reserved := true } }

/-- The sample's record at OPEN. -/
def fresh : Ctx := OpenCommand.record sample

/-- Context 5 holds a record under the sample key. -/
def holding (c : Ctx) : State := { idle with map := [(889, [⟨key, 5⟩])], contexts := [(5, c)] }

/-- The state a command leaves. -/
def after (c : Instr) (s : State) : State :=
  match exec c s with
  | .next t => t
  | .fault _ | .refused _ => s

/-- A DATA segment of the sample transfer on link 2. -/
def dataAt (offset : BitVec 64) (length : BitVec 16) (a b : BitVec 31) (payload : List Byte) : DataSegment :=
  { link := 2, handle := 7, peer := 3, tag := 0x12345, signal := false, offset := offset, length := length, tallyA := a,
    tallyB := b, payload := payload }

/-- The word 1 at an offset. -/
def oneWord (offset : BitVec 64) : DataSegment := dataAt offset 4 1 1 [1, 0, 0, 0]

/-- An end segment of 5 bytes at an offset: the words 1 and 2. -/
def ending (offset : BitVec 64) : DataSegment := dataAt offset 5 3 5 [1, 0, 0, 0, 2]

/-- A MANIFEST of the sample transfer. -/
def manifestOf (total : BitVec 48) (a b : BitVec 31) : ManifestSegment :=
  { link := 1, handle := 8, peer := 3, tag := 0x12345, signal := false, total := total, expectedA := a, expectedB := b,
    payload := [] }

/-- An ABANDON of the sample transfer. -/
def abandonment : AbandonSegment := { link := 3, handle := 6, peer := 3, tag := 0x12345, signal := false, payload := [] }

/-- The record after the word 1 at offset 0, granted: record 0 is WRITING. -/
def writing : Ctx :=
  { fresh with extents := [⟨0, 4⟩], digest := ⟨1, 1⟩, staged := [0], blocksHeld := 1, current := 1 }

/-- Its staged record. -/
def word0 (state : RecordState) : StagedRecord :=
  { owner := 5, offset := 0, length := 4, blocks := [0], pieces := [⟨0, 4, 0, ⟨1, 1⟩⟩], state := state }

/-- Its write job, with the one write as it stands. -/
def job0 (older : Bool) (progress : WriteProgress) : Job :=
  { owner := 5, older := older, writes := [⟨0, 0, 0, 4, progress⟩] }

/-- Staging with that record. -/
def stagingOf (state : RecordState) : Staging :=
  { pool := [(0, word0 state)], payload := [(0, 1)], freeBlocks := 4095, freeRecords := 4095, constrained := false }

/-- Context 5, with record `c`, has that record staged and not granted. -/
def stagedState (c : Ctx) (state : RecordState) : State := { holding c with staging := stagingOf state }

/-- Context 5, with record `c`, has one job. -/
def deliveringState (c : Ctx) (j : Job) (order : List PieceRef) : State :=
  { holding c with
    staging := stagingOf .writing
    delivery := { idle.delivery with inFlight := 1, jobs := [(0, j)], issueOrder := order } }

/-- The write is out; its report waits. -/
def delivering : State :=
  { deliveringState writing (job0 false (.issued [1, 0, 0, 0])) [] with pending := [.pieceWriteReport 0 0 ⟨0, .ok⟩] }

/-! ## One step of each command -/

theorem test_open_takes_record_0 :
    let t := after (.openTransfer ⟨0, sample⟩) (State.fetched idle)
    t.ctx 0 = fresh ∧ t.lookup key = some 0 ∧ t.notice.queue = [.cmdResult 0 9 1 .ok] := by decide +kernel
theorem test_open_refuses_a_key_in_use :
    (after (.openTransfer ⟨0, sample⟩) (State.fetched (holding fresh))).notice.queue = [.cmdResult 0 9 1 .keyExists] := by
  decide +kernel
/-- 04, "A whole-segment contribution": digest (100, 900) becomes (113, 954). -/
theorem test_data_adds_its_contribution :
    let t := after (.data ⟨dataAt 8 12 13 28 threeWords, .idle⟩) (holding { fresh with digest := ⟨100, 900⟩ })
    (t.ctx 5).digest = ⟨113, 954⟩ ∧ (t.ctx 5).extents = [⟨8, 20⟩] ∧ t.lane 2 = some ⟨7, 1, .accepted, 0⟩ := by
  decide +kernel
/-- 04, "A damaged segment": words 3 and 4 carrying (7, 12). -/
theorem test_data_damaged :
    let t := after (.data ⟨dataAt 24 8 7 12 [3, 0, 0, 0, 4, 0, 0, 0], .idle⟩) (holding fresh)
    (t.ctx 5).damaged = 1 ∧ t.lane 2 = some ⟨7, 1, .damaged, 0⟩ := by decide +kernel
theorem test_manifest_completes :
    let t := after (.manifest ⟨manifestOf 4 1 1, .idle⟩)
      (holding { writing with staged := [], blocksHeld := 0, current := 0 })
    (t.ctx 5).state = .done ∧
      t.notice.queue = [.windowFilled 5 0 0 4 ⟨0, 0⟩, .transferDone 5 4 ⟨1, 1⟩] := by decide +kernel
theorem test_abandon_fails :
    let t := after (.abandon ⟨abandonment, .idle⟩) (holding fresh)
    (t.ctx 5).cause = some .abandoned ∧ t.notice.queue = [.transferFailed 5 .abandoned] := by decide +kernel
/-- An ABANDON of no transfer, on channel k. -/
def stray (k : BitVec 2) : AbandonSegment := { abandonment with link := k, tag := 0, handle := 1 }

/-- R25: a segment that meets a busy intake waits; after link 1, channel 3 is served before channel 0. -/
theorem test_channels_in_ascending_order :
    let s := { idle with intake := { idle.intake with lastLink := 1 } }
    let waiting := after (.abandon ⟨stray 0, .busy⟩) (after (.abandon ⟨stray 3, .busy⟩) s)
    waiting.lane 0 = none ∧ waiting.lane 3 = none ∧ waiting.channelReady 0 = false ∧ waiting.channelReady 2 = true ∧
      waiting.idle.lane 3 = some ⟨1, 3, .unknown, 0⟩ ∧ waiting.idle.lane 0 = none ∧
      waiting.idle.idle.lane 0 = some ⟨1, 3, .unknown, 0⟩ ∧ waiting.idle.idle.intake.channels = [] := by decide +kernel
/-- R25: a full reset discards a segment that waits. -/
theorem test_full_reset_discards_waiting_segments :
    (after (.fullReset .powerOn) (after (.abandon ⟨stray 0, .busy⟩) idle)).channel 0 = none := by decide +kernel
theorem test_unknown_kind_is_malformed :
    (after (.unknownKindSegment ⟨⟨1, 4, 9⟩, .idle⟩) idle).lane 1 = some ⟨4, 9, .malformed, 0⟩ := by decide +kernel

/-- QUERY by index of context 5, its snapshot at 64. -/
def query5 : QueryCommand := { hostTag := 9, selector := 0, index := 5, peer := 0, tag := 0, address := 64 }

theorem test_query_waits_for_its_write :
    let t := after (.query ⟨0, query5⟩) (State.fetched (holding fresh))
    t.command.executing = some ⟨9, 5⟩ ∧ t.notice.queue = [] ∧ t.delivery.snapshotPort.isWaiting = true := by
  decide +kernel

/-- The snapshot of that QUERY. -/
def write5 : SnapshotWrite := ⟨64, (holding fresh).capture 5⟩

/-- A QUERY of context 5 in execution. -/
def querying (port : PortSlot SnapshotWrite) : State :=
  { holding fresh with
    command := { idle.command with executing := some ⟨9, 5⟩ }
    notice := { idle.notice with reserved := true }
    delivery := { idle.delivery with snapshotPort := port } }

theorem test_snapshot_issued :
    (after .snapshotWriteIssue (querying (.waiting write5))).delivery.snapshotPort = .issued write5 := by decide +kernel
theorem test_snapshot_fault_is_bad_address :
    (after (.snapshotWriteReport ⟨0, .fault⟩) (querying (.issued write5))).notice.queue = [.cmdResult 5 9 2 .badAddress] := by
  decide +kernel

/-- ADJUST of context 5 naming exclusive and a quota of 0. -/
def adjust5 : AdjustCommand :=
  { hostTag := 9, index := 5, priority := none, mask := none, hostHold := none, exclusive := some true, stallSelect := none,
    abandonMultiplier := none, damageLimit := none, quota := some 0 }

theorem test_adjust_clamps_the_quota :
    let t := after (.adjust ⟨0, adjust5⟩) (State.fetched (holding { fresh with signal := true }))
    t.ctx 5 = { fresh with exclusive := true, signal := false, quota := 1 } := by decide +kernel

/-- Window 0 has retired into area 0. -/
def filled0 : Ctx :=
  { fresh with
    retired := 65536, digest := ⟨1, 1⟩
    area0 := { fresh.area0 with state := .filled, delivered := 65536, digest := ⟨1, 1⟩, halfSent := true } }

theorem test_refill_takes_window_2 :
    let t := after (.refill ⟨0, 9, 5, 0, 0x20000⟩) (State.fetched (holding filled0))
    ((t.ctx 5).area 0).window = some 2 ∧ ((t.ctx 5).area 0).state = .ready := by decide +kernel
theorem test_restart_ages_its_jobs :
    let t := after (.restart ⟨0, 9, 5⟩)
      (State.fetched { delivering with notice := { delivering.notice with reserved := true } })
    (t.ctx 5).older = 1 ∧ (t.ctx 5).fence = true ∧ t.job 0 = some (job0 true (.issued [1, 0, 0, 0])) ∧
      t.notice.queue = [.restarted 5 1, .cmdResult 5 9 5 .ok] := by decide +kernel
theorem test_reverify_is_active_at_once :
    let t := after (.reverify ⟨0, 9, 5, 0⟩) (State.fetched (holding filled0))
    ((t.ctx 5).area 0).verify = .active ∧ t.verify.map VerifyRequest.readOutstanding = [true] := by decide +kernel
theorem test_close_frees_an_idle_context :
    let t := after (.close ⟨0, 9, 5⟩) (State.fetched (holding fresh))
    t.contexts = [] ∧ t.map = [] ∧ t.notice.queue = [.cmdResult 5 9 7 .ok] := by decide +kernel
theorem test_close_waits_for_a_job :
    ((after (.close ⟨0, 9, 5⟩) (State.fetched delivering)).ctx 5).state = .closing := by decide +kernel
theorem test_join_forms_a_group :
    let t := after (.groupJoin ⟨0, 9, 5, 3, true⟩) (State.fetched (holding fresh))
    t.group 3 = ⟨[5], true, 0, 0⟩ ∧ (t.ctx 5).group = some 3 := by decide +kernel

/-- Group 3 holds context 4, DONE, and context 5. -/
def grouped : State :=
  { holding { fresh with group := some 3 } with
    contexts := [(4, { fresh with state := .done, timer := .stopped, group := some 3 }), (5, { fresh with group := some 3 })]
    groups := [(3, ⟨[5, 4], false, 1, 0⟩)] }

theorem test_leave_passes_leadership_and_completes :
    let t := after (.groupLeave ⟨0, 9, 5⟩) (State.fetched grouped)
    t.group 3 = ⟨[4], false, 1, 0⟩ ∧ t.notice.queue = [.groupDone 4 3 1, .cmdResult 5 9 9 .ok] := by decide +kernel
theorem test_aperture_in_use :
    (after (.setAperture ⟨0, 9, 0, false, false, false, 0, 0⟩) (State.fetched (holding fresh))).notice.queue =
      [.cmdResult 0 9 10 .apertureInUse] := by decide +kernel
theorem test_configure :
    let t := after (.configure ⟨0, 9, ⟨true, true, false⟩, true⟩) (State.fetched idle)
    t.actions = ⟨true, true, false⟩ ∧ t.intake.unmatchedEnable = true := by decide +kernel
theorem test_bad_command :
    (after (.badCommand ⟨0, 9, 200⟩) (State.fetched idle)).notice.queue = [.cmdResult 0 9 200 .badCommand] := by
  decide +kernel
theorem test_fetch_reads_the_head_entry :
    (after .commandFetch idle).command.fetch = some 0x200000 ∧ (after .commandFetch idle).notice.reserved = true := by
  decide +kernel
theorem test_fetch_fault_keeps_the_head :
    let t := after (.commandFetchFault ⟨0, .fault⟩) (State.fetched idle)
    t.command.fetchFault = true ∧ t.command.head = 0 ∧ t.notice.reserved = false := by decide +kernel
theorem test_grant :
    let t := after .writeJobGrant (stagedState { writing with current := 0 } .eligible)
    t.job 0 = some (job0 false .waiting) ∧ t.delivery.inFlight = 1 ∧ t.pointer 1 = 5 ∧
      t.delivery.issueOrder = [⟨0, 0⟩] := by decide +kernel
theorem test_piece_issue_reads_the_blocks :
    (after .pieceWriteIssue (deliveringState writing (job0 false .waiting) [⟨0, 0⟩])).job 0 =
      some (job0 false (.issued [1, 0, 0, 0])) := by decide +kernel
theorem test_piece_report_completes :
    let t := after (.pieceWriteReport 0 0 ⟨0, .ok⟩) delivering
    t.staging = Staging.empty [(0, 1)] ∧ ((t.ctx 5).area 0).delivered = 4 ∧ ((t.ctx 5).area 0).digest = ⟨1, 1⟩ := by
  decide +kernel
theorem test_piece_fault_fails :
    let t := after (.pieceWriteReport 0 0 ⟨0, .fault⟩) delivering
    (t.ctx 5).cause = some .deliveryFault ∧ ((t.ctx 5).area 0).faulted = true := by decide +kernel
/-- The sample's record, its stall interval elapsed. -/
def expiring : Ctx := { fresh with timer := .stall 0 }

theorem test_stall_expiry :
    let t := after (.stallExpiry 5) (holding expiring)
    (t.ctx 5).state = .stalled ∧ (t.ctx 5).timer = .abandon (some 100) ∧ t.notice.queue = [.stalled 5] := by
  decide +kernel
theorem test_no_expiry_before_its_period : after (.stallExpiry 5) (holding { fresh with timer := .stall 1 }) =
    holding { fresh with timer := .stall 1 } := by decide +kernel
theorem test_abandon_expiry :
    ((after (.abandonExpiry 5) (holding { fresh with state := .stalled, timer := .abandon (some 0) })).ctx 5).cause =
      some .timedOut := by decide +kernel

/-- A verify request of a 4-byte window, its read outstanding. -/
def request (aborted : Bool) : VerifyRequest :=
  { context := 5, area := 0, window := 0, base := 0, length := 4, bytesRead := 0, sums := ⟨0, 0⟩, readOutstanding := true,
    aborted := aborted, byClose := false }

theorem test_verify_matches :
    let t := after (.verifyReadReturn ⟨0, .ok [1, 0, 0, 0]⟩) { holding filled0 with verify := [request false] }
    ((t.ctx 5).area 0).verify = .matched ∧ t.notice.queue = [.verifyResult 5 0 0 (.matched ⟨1, 1⟩)] ∧ t.verify = [] := by
  decide +kernel

/-- A notice waits in the queue. -/
def noticed : State := { idle with notice := { idle.notice with queue := [.stalled 5] } }

/-- The ring write of that notice. -/
def stalledWrite : NoticeWrite := ⟨0x201000, .stalled 5⟩

theorem test_notice_write : (after .noticeWrite noticed).delivery.noticePort = .issued stalledWrite := by decide +kernel

/-- Its write is out. -/
def noticeOut : State := { noticed with delivery := { idle.delivery with noticePort := .issued stalledWrite } }

theorem test_notice_report_interrupts :
    let t := after (.noticeWriteReport ⟨0, .ok⟩) noticeOut
    t.notice.queue = [] ∧ t.notice.producer = 1 ∧ t.notice.messages = 1 ∧ t.notice.armed = false := by decide +kernel
theorem test_rollup :
    let t := after .rollup (holding { fresh with owed := [.stalled] })
    t.notice.queue = [.rollup 5 [.stalled]] ∧ (t.ctx 5).owed = [] := by decide +kernel
theorem test_quiesce_sources :
    (after .quiesceRise idle).deliveryStopped = true ∧ (after .quiesceFall idle).quiesceActive = false ∧
      (after (.quiesceRequest true) idle).quiesceActive = true := by decide +kernel

/-- After reset, with valid rings written. -/
def configured : State :=
  { idle with resets := { idle.resets with pending := true, configInvalid := true }, command := { idle.command with tail := 7 } }

theorem test_acknowledge :
    let t := after .resetAcknowledge configured
    t.resets.pending = false ∧ t.resets.configInvalid = false ∧ t.command.tail = 0 ∧ t.notice.armed = true := by
  decide +kernel
theorem test_acknowledge_unwritten_rings :
    (after .resetAcknowledge State.reset).resets = ⟨true, false, true, false, 0⟩ := by decide +kernel
theorem test_soft_reset_begins_the_drain :
    (after .softReset (holding fresh)).resets.draining = true := by decide +kernel

/-- The drain, with nothing outstanding. -/
def draining : State := { holding fresh with resets := { idle.resets with draining := true } }

theorem test_drain_clear :
    let t := after .drainClear draining
    t.contexts = [] ∧ t.resets.pending = true ∧ t.command.size = 16 ∧ t.delivery.apertures ≠ [] := by decide +kernel
theorem test_full_reset : after (.fullReset .powerOn) delivering =
    { State.reset with
      staging := Staging.empty [(0, 1)], pending := delivering.pending, resets := { State.reset.resets with count := 1 } } := by decide +kernel
/-- R131: the report of a write issued before a full reset is not taken, though the same write is out again. -/
theorem test_report_from_before_a_full_reset :
    let s := { delivering with resets := { delivering.resets with count := 1 } }
    after (.pieceWriteReport 0 0 ⟨0, .ok⟩) s = s ∧ (after (.pieceWriteReport 0 0 ⟨1, .ok⟩) s).job 0 = none := by
  decide +kernel
theorem test_reset_input :
    (after (.fullReset .resetInput) delivering).resets.held = true ∧
      (after .resetInputRelease (after (.fullReset .resetInput) idle)).resets.pending = true := by decide +kernel
theorem test_status_clear :
    (after (.statusClear 0x08) { idle with notice := { idle.notice with overflow := true, writeFault := true } }).notice =
      { idle.notice with writeFault := true } := by decide +kernel
theorem test_status_word :
    State.reset.readRegister .status = 1 ∧ ({ idle with delivery := { idle.delivery with quiesceLine := true } } : State).readRegister
      .status = 0xC0 ∧ State.reset.readRegister .freeCounts = 0x10001000 := by decide +kernel
theorem test_unmatched_read :
    (after .unmatchedCountRead { idle with intake := { idle.intake with unmatched := 3 } }).intake =
      { idle.intake with unmatchedRead := 3 } := by decide +kernel
theorem test_tail_write : (after (.commandRingTailWrite 18) idle).command.tail = 2 := by decide +kernel
theorem test_consumer_write :
    let t := after (.noticeRingConsumerWrite ⟨0, .alone⟩) { idle with notice := { idle.notice with producer := 1 } }
    t.notice.messages = 1 ∧ t.notice.armed = false := by decide +kernel
/-- R178: an advance and a consumer write at the same moment, two notices left and the flag set before, send one message. -/
theorem test_consumer_write_at_an_advance :
    let s := { noticeOut with notice := { noticeOut.notice with producer := 1 } }
    let t := after (.noticeRingConsumerWrite ⟨0, .withReport ⟨0, .ok⟩⟩) s
    s.notice.armed = true ∧ t.notice.messages = 1 ∧ t.notice.armed = false ∧ t.notice.producer = 2 ∧ t.notice.queue = [] := by
  decide +kernel
theorem test_register_write : (after (.registerWrite (.commandSize 100)) State.reset).command.size = 64 := by decide +kernel


/-! ## Hypotheses that can be met

For each statement with hypotheses, `witness_<statement>` shows a state and operands that meet them together; a statement
with several clauses has one for each, at boundary values. -/

/-! ### The queue and the invariants -/

theorem witness_StepRunsTheFrontCommand : delivering.pending = .pieceWriteReport 0 0 ⟨0, .ok⟩ :: [] := rfl

/-- No segment waits, so none waits at a channel not its own. -/
theorem unpresented {s : State} (h : s.intake.channels = []) : ∀ k seg, s.channel k = some seg → seg.link.toNat = k := by
  intro k seg hk
  simp [State.channel, h, Table.get, Table.lookup] at hk

/-- Context 5 is the one record listed. -/
theorem holding_ctx (c : Ctx) (i : Nat) : (holding c).ctx i = if i = 5 then c else Ctx.free := by
  by_cases h : i = 5
  · subst h; rfl
  · have : (5 == i) = false := by simp; omega
    simp [State.ctx, holding, Table.get, Table.lookup, List.find?, this, h]

/-- The tables of the test states are in canonical form. -/
theorem holding_canonical {c : Ctx} (h : c ≠ Ctx.free) : CanonicalForm (holding c) where
  lanes := ⟨.nil, nofun⟩
  channels := ⟨.nil, nofun⟩
  linked := unpresented rfl
  map := show Table.wf [] [(889, [(⟨key, 5⟩ : MapEntry)])] by decide +kernel
  contexts := ⟨List.pairwise_singleton _ _, by simpa [holding] using h⟩
  groups := ⟨.nil, nofun⟩
  pointers := ⟨.nil, nofun⟩
  apertures := show Table.wf Aperture.off idle.delivery.apertures by decide +kernel
  pool := .nil
  jobs := .nil
  payload := show memoryWf [] by decide

/-- The extent lists of a state with one record are in order when those of the record are. -/
theorem extents_of (s : State) (c : Ctx) (only : ∀ i, s.ctx i = if i = 5 then c else Ctx.free)
    (limit : c.extents.length ≤ 24) (ordered : Ordered c.extents)
    (within : ∀ e ∈ c.extents, c.retired ≤ e.start ∧ e.stop ≤ c.endBound)
    (edge : c.retired % c.w = 0 ∨ c.totalBytes = some c.retired) (bound : c.retired ≤ c.endBound)
    (holds : ∀ p, p < 2 → ((c.area p).state = .idle ↔ (c.area p).window = none) ∧
      (c.area p).window.all (fun n => n % 2 == p)) : ExtentsSafe s := by
  have area (d : Ctx) (p : Nat) : d.area p = d.area (p % 2) := by simp [Ctx.area]
  refine ⟨fun i => ?_, fun i => ?_, fun i => ?_, fun i => ?_, fun i => ?_, fun i p => ?_, fun i p n hn => ?_⟩
  all_goals by_cases h : i = 5 <;> simp only [only, h, if_true, if_false] at *
  · exact limit
  · decide
  · exact ordered
  · exact ⟨nofun, .nil⟩
  · exact within
  · exact nofun
  · exact edge
  · exact .inl (by decide)
  · exact bound
  · decide
  · rw [area]; exact (holds _ (Nat.mod_lt _ (by decide))).1
  · unfold Ctx.area; split <;> decide
  · have g := (holds (p % 2) (Nat.mod_lt _ (by decide))).2
    rw [← area, hn] at g
    simpa using g
  · exfalso; revert hn; unfold Ctx.area; split <;> simp [Ctx.free, Area.free]

/-- Segments wait at channels 0 and 3; the link last served is 1. -/
def crowded : State :=
  { idle with intake := { idle.intake with
      lastLink := 1, channels := [(0, some (.abandon (stray 0))), (3, some (.abandon (stray 3)))] } }

/-- The sample's record in STALLED, its abandon period elapsed. -/
def abandoning : Ctx := { fresh with state := .stalled, timer := .abandon (some 0) }

/-- Channels 3 and, wrapping, 0 in their turns; both expiries, at the lowest index due; no expiry due. -/
theorem witness_EmptyQueueCountsTimersDown :
    (crowded.resets.held = false ∧ crowded.channel (stray 3).link.toNat ≠ none ∧ idle.intake.channels = [] ∧
        crowded.channel (2 : BitVec 2).toNat = none) ∧
      ((crowded.takeSegment (.abandon (stray 3))).intake.channels = crowded.intake.channels ∧ crowded.pending = [] ∧
        crowded.channel 3 = some (.abandon (stray 3)) ∧ crowded.intake.lastLink.toNat = 1 ∧
        ∀ l, 1 < l → l < 3 → crowded.channel l = none) ∧
      (crowded.idle.channel 0 = some (.abandon (stray 0)) ∧ crowded.idle.intake.lastLink.toNat = 3) ∧
      (CanonicalForm (holding expiring) ∧ (holding expiring).pending = [] ∧
        (∀ k, k < 4 → (holding expiring).channel k = none) ∧ (5 : BitVec 12).toNat = 5 ∧
        (∀ j, j < 5 → ((holding expiring).ctx j).state = .free) ∧ ((holding expiring).ctx 5).state = .active ∧
        ((holding expiring).ctx 5).timer = .stall 0) ∧
      (CanonicalForm (holding abandoning) ∧ (∀ j, j < 5 → ((holding abandoning).ctx j).state = .free) ∧
        ((holding abandoning).ctx 5).state = .stalled ∧ ((holding abandoning).ctx 5).timer = .abandon (some 0)) ∧
      (∀ i, ((holding fresh).ctx i).timer ≠ .stall 0 ∧ ((holding fresh).ctx i).timer ≠ .abandon (some 0)) ∧
      State.reset.resets.held = false ∧ (after (.fullReset .resetInput) idle).resets.held = true := by
  refine ⟨by decide +kernel, ⟨by decide +kernel, rfl, by decide +kernel, rfl, fun l h1 h2 => ?_⟩, by decide +kernel,
    ⟨holding_canonical (by decide +kernel), rfl, fun k _ => rfl, rfl, fun j hj => ?_, by decide +kernel, by decide +kernel⟩,
    ⟨holding_canonical (by decide +kernel), fun j hj => ?_, by decide +kernel, by decide +kernel⟩, fun i => ?_, rfl, rfl⟩
  · have : l = 2 := by omega
    subst this; decide +kernel
  · rw [holding_ctx, if_neg (by omega)]; rfl
  · rw [holding_ctx, if_neg (by omega)]; rfl
  · rw [holding_ctx]; split <;> decide +kernel

/-- Context 5 is the one record listed. -/
theorem delivering_ctx (i : Nat) : delivering.ctx i = if i = 5 then writing else Ctx.free := by
  by_cases h : i = 5
  · subst h; decide +kernel
  · have : (5 == i) = false := by simp; omega
    simp [State.ctx, delivering, deliveringState, holding, Table.get, Table.lookup, List.find?, this, h]

/-- Record 0 is the one record staged. -/
theorem delivering_staged (c : Ctx) (j : Job) (order : List PieceRef) (r : Nat) :
    (deliveringState c j order).staged r = if r = 0 then some (word0 .writing) else none := by
  by_cases h : r = 0
  · subst h; rfl
  · have : (0 == r) = false := by simp; omega
    simp [State.staged, deliveringState, stagingOf, Table.lookup, List.find?, this, h]

/-- Record 0 has the one job. -/
theorem delivering_job (c : Ctx) (j : Job) (order : List PieceRef) (r : Nat) :
    (deliveringState c j order).job r = if r = 0 then some j else none := by
  by_cases h : r = 0
  · subst h; rfl
  · have : (0 == r) = false := by simp; omega
    simp [State.job, deliveringState, Table.lookup, List.find?, this, h]

/-- Bucket 889 is the one bucket with an entry. -/
theorem delivering_bucket (b : Nat) : delivering.bucket b = if b = 889 then [⟨key, 5⟩] else [] := by
  by_cases h : b = 889
  · subst h; decide +kernel
  · have : (889 == b) = false := by simp; omega
    simp [State.bucket, delivering, deliveringState, holding, Table.get, Table.lookup, List.find?, this, h]

/-- No group is in use. -/
theorem delivering_group (g : Nat) : delivering.group g = Group.unused := rfl

/-- The state answers its step. -/
theorem delivering_steps : ∃ t, step delivering = .next t := ⟨_, rfl⟩

theorem witness_CanonicalFormKept :
    CanonicalForm delivering ∧ (∃ t, step delivering = .next t) ∧ CanonicalForm (holding expiring) ∧
      ∃ t, step (holding expiring) = .next t :=
  ⟨⟨by decide +kernel, by decide +kernel, unpresented rfl, by decide +kernel, by decide +kernel, by decide +kernel,
    by decide +kernel, by decide +kernel, by decide +kernel, by decide +kernel, by decide +kernel⟩, delivering_steps,
    holding_canonical (by decide +kernel), _, rfl⟩

theorem witness_NoticeQueueBoundKept : NoticeSafe delivering ∧ ∃ t, step delivering = .next t :=
  ⟨{ bounded := by decide +kernel
     reserved := rfl
     oneCommand := fun h => nomatch h
     snapshot := rfl
     oldest := fun _ h => h.elim (fun h => nomatch h) (fun h => nomatch h) }, delivering_steps⟩

theorem witness_StagingConservationKept : StagingConserved delivering ∧ ∃ t, step delivering = .next t :=
  ⟨⟨by decide +kernel, by decide +kernel, by decide +kernel, by decide +kernel⟩, delivering_steps⟩

/-- With a job of context 5, jobs and WRITING records are the same. -/
theorem delivering_delivery (c : Ctx) (j : Job) (order : List PieceRef) (h5 : j.owner = 5) :
    DeliverySafe (deliveringState c j order) where
  pool := by simp [deliveringState, stagingOf, Table.sorted]
  jobs := by simp [deliveringState, Table.sorted]
  count := rfl
  limit := by simp [deliveringState]
  writing r := by
    rw [delivering_job, delivering_staged]
    by_cases h : r = 0 <;> simp [h, word0]
  owner r k rec hk hr := by
    rw [delivering_job] at hk
    rw [delivering_staged] at hr
    by_cases h : r = 0
    · simp only [h, if_true, Option.some.injEq] at hk hr
      rw [← hk, ← hr]; exact h5
    · simp [h] at hk

/-- Its staging is conserved. -/
theorem delivering_staging (c : Ctx) (j : Job) (order : List PieceRef) :
    StagingConserved (deliveringState c j order) :=
  ⟨by simp [deliveringState, stagingOf, Table.sorted], rfl, rfl, by simp [deliveringState, stagingOf]⟩

/-- `delivering` but for its queue. -/
def atWork : State := deliveringState writing (job0 false (.issued [1, 0, 0, 0])) []

/-- The delivery of `delivering` is that of its state without a command. -/
theorem delivering_safe : DeliverySafe delivering :=
  have h : DeliverySafe atWork := delivering_delivery _ _ _ rfl
  ⟨h.pool, h.jobs, h.count, h.limit, h.writing, h.owner⟩

/-- The counts of `delivering` are those of its job. -/
theorem delivering_counts : CountsSafe delivering where
  current i := by
    rw [delivering_ctx]
    by_cases h : i = 5
    · subst h; decide +kernel
    · have h' : (5 == i) = false := by simp; omega
      simp [h, h', delivering, deliveringState, job0, Ctx.free]
  older i := by
    rw [delivering_ctx]
    by_cases h : i = 5
    · subst h; decide +kernel
    · have h' : (5 == i) = false := by simp; omega
      simp [h, h', delivering, deliveringState, job0, Ctx.free]
  fence i := by
    rw [delivering_ctx]
    by_cases h : i = 5
    · subst h; decide +kernel
    · simp [h, Ctx.free]
  unused i hi := by
    rw [delivering_ctx] at hi ⊢
    by_cases h : i = 5
    · rw [if_pos h] at hi; cases hi
    · simp [h, Ctx.free]
  listed i r hr := by
    rw [delivering_ctx] at hr
    by_cases h : i = 5
    · rw [if_pos h] at hr
      have : r = 0 := by simpa [writing] using hr
      exact ⟨word0 .writing, by subst this; rfl, by rw [h]; rfl⟩
    · simp [h, Ctx.free] at hr
  once i := by rw [delivering_ctx]; split <;> decide
  every r rec hr := by
    rw [show delivering.staged r = _ from
      delivering_staged writing (job0 false (.issued [1, 0, 0, 0])) [] r] at hr
    by_cases h : r = 0
    · rw [if_pos h] at hr
      obtain rfl := Option.some.inj hr
      subst h; decide +kernel
    · rw [if_neg h] at hr; cases hr
  blocks i := by
    rw [delivering_ctx]
    by_cases h : i = 5
    · subst h; decide +kernel
    · simp [h, Ctx.free]

theorem witness_InFlightCountsKept :
    StagingConserved delivering ∧ DeliverySafe delivering ∧ CountsSafe delivering ∧ ∃ t, step delivering = .next t :=
  ⟨witness_StagingConservationKept.1, delivering_safe, delivering_counts, delivering_steps⟩

theorem witness_LookupMapKept : MapSafe delivering ∧ ∃ t, step delivering = .next t := by
  refine ⟨⟨fun i hi => ?_, fun b e he => ?_, fun b => ?_, fun b => ?_⟩, delivering_steps⟩
  · rw [delivering_ctx] at hi
    by_cases h : i = 5
    · subst h; exact ⟨key, by decide +kernel, by decide +kernel⟩
    · simp [h, Ctx.free, Ctx.isOpen] at hi
  · rw [delivering_bucket] at he
    by_cases h : b = 889
    · have : e = ⟨key, 5⟩ := by simpa [h] using he
      subst this; subst h
      exact ⟨by decide +kernel, by decide +kernel, by decide +kernel⟩
    · simp [h] at he
  · rw [delivering_bucket]; by_cases h : b = 889 <;> simp [h]
  · rw [delivering_bucket]; by_cases h : b = 889 <;> simp [h]

theorem witness_GroupCountsKept : GroupSafe delivering ∧ ∃ t, step delivering = .next t := by
  refine ⟨⟨fun g => ?_, fun g => ?_, fun g => ?_, fun g => ?_, fun i g => ?_, fun g i hi => ?_⟩, delivering_steps⟩
  all_goals rw [delivering_group] at *
  · rfl
  · rfl
  · exact List.nodup_nil
  · decide
  · rw [delivering_ctx]
    by_cases h : i = 5 <;>
      simp [h, writing, fresh, OpenCommand.record, Ctx.free, Group.unused]
  · simp [Group.unused] at hi

/-- The reset state with an acknowledge waiting. -/
def acknowledging : State := { configured with pending := [.resetAcknowledge] }

theorem witness_QuietInResetKept :
    QuietInReset acknowledging ∧ acknowledging.resets.pending = true ∧ ∃ t, step acknowledging = .next t :=
  ⟨⟨by decide, by decide +kernel, fun _ => by decide +kernel⟩, rfl, ⟨_, rfl⟩⟩

theorem witness_VerifyQueueKept :
    let s := { holding filled0 with verify := [request false], pending := [.verifyReadReturn ⟨0, .fault⟩] }
    VerifySafe s ∧ ∃ t, step s = .next t :=
  ⟨⟨by decide +kernel, by decide +kernel⟩, ⟨_, rfl⟩⟩

/-- The one extent of `delivering` is in order. -/
theorem delivering_extents : ExtentsSafe delivering :=
  extents_of _ writing delivering_ctx (by decide +kernel) ⟨by decide +kernel, by decide +kernel⟩ (by decide +kernel)
    (by decide +kernel) (by decide +kernel) (by decide +kernel)

theorem witness_ExtentListsKept : ExtentsSafe delivering ∧ ∃ t, step delivering = .next t :=
  ⟨delivering_extents, delivering_steps⟩

theorem witness_ContextStatesFollowTheTable :
    ∃ t, exec (.stallExpiry 5) (holding expiring) = .next t ∧ (t.ctx 5).state = .stalled :=
  ⟨_, rfl, by decide +kernel⟩

theorem witness_KeyAndWindowSizeFixedUntilFree :
    ∃ t, exec (.close ⟨0, 9, 5⟩) (State.fetched delivering) = .next t ∧ (delivering.ctx 5).state ≠ .free ∧
      (t.ctx 5).state ≠ .free :=
  ⟨_, rfl, by decide +kernel, by decide +kernel⟩

theorem witness_TrafficKeepsHostSettings : isTraffic .rollup = true ∧ ∃ t, exec .rollup delivering = .next t :=
  ⟨rfl, _, rfl⟩

/-! ### Formats, keys, ranges and tallies -/

theorem witness_CommandEntryRoundTrip :
    (Instr.openTransfer ⟨3, sample⟩).wellFormed = true ∧ (encodeEntry (.openTransfer ⟨3, sample⟩)).isSome = true ∧
      (Instr.badCommand ⟨0, 9, 12⟩).wellFormed = true ∧ (encodeEntry (.badCommand ⟨0, 9, 12⟩)).isSome = true := by decide +kernel

theorem witness_WrittenFormatsReadBack :
    (⟨7, 1, .accepted, 2 ^ 40⟩ : Disposition).edge ≤ 2 ^ 40 ∧
      ((holding { fresh with extents := fullList }).capture 5).record.extents.length = 24 ∧
      ((holding fresh).capture 5).record.extents.length = 0 :=
  ⟨by decide, by decide +kernel, by decide +kernel⟩

theorem witness_BucketOfAKey :
    (holding fresh).lookup key = some 5 ∧
      ∃ t, exec (.openTransfer ⟨0, sample⟩) (State.fetched idle) = .next t ∧ (⟨key, 0⟩ : MapEntry) ∈ t.bucket 889 ∧
        (⟨key, 0⟩ : MapEntry) ∉ idle.bucket 889 :=
  ⟨by decide +kernel, _, rfl, by decide +kernel, by decide +kernel⟩

theorem witness_NewRangesAreTheUncoveredBytes :
    Ordered [⟨0, 57344⟩, ⟨62464, 63488⟩] ∧ Covered (newRanges 0 [⟨0, 57344⟩, ⟨62464, 63488⟩] 61440 69632) 62463 ∧
      ¬ Covered (newRanges 0 [⟨0, 57344⟩, ⟨62464, 63488⟩] 61440 69632) 62464 := by
  refine ⟨⟨by decide, by decide⟩, ⟨⟨61440, 62464⟩, by decide, by decide, by decide⟩, ?_⟩
  rintro ⟨e, he, h1, h2⟩
  have : e = ⟨61440, 62464⟩ ∨ e = ⟨63488, 69632⟩ := by
    have hr : newRanges 0 [⟨0, 57344⟩, ⟨62464, 63488⟩] 61440 69632 = [⟨61440, 62464⟩, ⟨63488, 69632⟩] := by decide
    rw [hr] at he
    simpa using he
  rcases this with h | h <;> subst h <;> simp at h1 h2

theorem witness_InsertionIsTheUnion :
    Ordered [⟨0, 2048⟩, ⟨4096, 8192⟩] ∧ Ordered [⟨2048, 4096⟩] ∧
      ∀ x, Covered [⟨2048, 4096⟩] x → ¬ Covered [⟨0, 2048⟩, ⟨4096, 8192⟩] x := by
  refine ⟨⟨by decide, by decide⟩, ⟨by decide, by decide⟩, ?_⟩
  rintro x ⟨e, he, h1, h2⟩ ⟨f, hf, h3, h4⟩
  simp only [List.mem_cons, List.not_mem_nil, or_false] at he hf
  rcases hf with hf | hf <;> subst he <;> subst hf <;> simp only at h1 h2 h3 h4 <;> omega

theorem witness_PiecesPartitionTheNewRanges :
    (∀ r ∈ [(⟨65528, 65544⟩ : Extent)], r.start < r.stop ∧ r.stop ≤ r.start + 16384) ∧
      (piecesOf (windowSize 0) 65528 [2, 0, 0, 0, 3, 0, 0, 0, 4, 0, 0, 0, 5, 0, 0, 0] [⟨65528, 65544⟩]).map Piece.window =
        [0, 1] := by decide +kernel

theorem witness_RetirementKeepsTheContiguousEdge :
    Ordered [⟨0, 69632⟩] ∧ 0 < 65536 ∧ firstCovers [⟨0, 69632⟩] 0 65536 = true :=
  ⟨⟨by decide, by decide⟩, by decide, by decide⟩

theorem witness_TalliesAddAndShift : threeWords.length % 4 = 0 := by decide

/-! ### Segments -/

/-- A FAILED context with a faulted READY area. -/
def faulted0 : Ctx :=
  { fresh with
    state := .failed, timer := .stopped, cause := some .deliveryFault, area0 := { fresh.area0 with faulted := true } }


/-- Intake takes a segment presented in the test states. -/
theorem holding_takes (c : Ctx) : Taking (holding c) := ⟨⟨rfl, rfl, rfl⟩, rfl⟩

/-- Staging with every block free is not constrained. -/
theorem unconstrained : (4096 < 512 → false = true) ∧ (false = true → 4096 < 1024) := by decide

/-- Staging is empty in the test states. -/
theorem holding_staging (c : Ctx) : StagingConserved (holding c) := ⟨List.Pairwise.nil, rfl, rfl, unconstrained⟩

theorem witness_SegmentsNotReadyInReset :
    State.reset.resets.held = false ∧ State.reset.intake.channels = [] ∧ State.reset.resets.pending = true ∧
      draining.resets.held = false ∧ draining.intake.channels = [] ∧ draining.resets.draining = true := by decide +kernel

theorem witness_IllFormedSegmentsAnsweredMalformed :
    Taking idle ∧ (oneWord 2).offset.toNat % 4 ≠ 0 ∧ (dataAt 0 3 1 1 [1, 0, 0]).length.toNat < 4 ∧
      16384 < (dataAt 0 16385 0 0 []).length.toNat ∧ 2 ^ 40 < (oneWord (2 ^ 40)).offset.toNat + 4 ∧
      (dataAt 0 4 2147483647 1 [1, 0, 0, 0]).tallyA.toNat = M ∧ (dataAt 0 4 1 2147483647 [1, 0, 0, 0]).tallyB.toNat = M ∧
      (dataAt 0 8 1 1 [1, 0, 0, 0]).payload.length ≠ (dataAt 0 8 1 1 [1, 0, 0, 0]).length.toNat ∧
      (manifestOf 0 1 1).total.toNat = 0 ∧ 2 ^ 40 < (manifestOf (2 ^ 40 + 1) 1 1).total.toNat ∧
      (manifestOf 4 2147483647 1).expectedA.toNat = M ∧ { abandonment with payload := [0] }.payload ≠ [] :=
  ⟨⟨⟨rfl, rfl, rfl⟩, rfl⟩, by decide +kernel⟩

theorem witness_UnknownSegmentsCounted :
    Taking idle ∧ DataSegment.wellShaped (oneWord (2 ^ 40 - 4)) = true ∧ idle.lookup key = none ∧
      ManifestSegment.wellShaped (manifestOf (2 ^ 40) 1 1) = true ∧ abandonment.payload = [] :=
  ⟨⟨⟨rfl, rfl, rfl⟩, rfl⟩, by decide +kernel⟩

/-- What a DATA segment must pass to be committed. -/
def passes (s : State) (g : DataSegment) : Bool :=
  decide (DataSegment.wellShaped g = true ∧ s.lookup ⟨g.peer, g.tag⟩ = some 5 ∧ (s.ctx 5).receiving = true ∧
    DataSegment.tallyMatches g = true ∧ ((s.ctx 5).exclusive = true ∨ g.signal = (s.ctx 5).signal) ∧
    (s.ctx 5).rangeRefusal g = none ∧ (s.ctx 5).newRangesOf g ≠ [] ∧
    countAfter (s.ctx 5).extents ((s.ctx 5).newRangesOf g) ≤ 24 ∧
    (s.ctx 5).blocksHeld + (g.length.toNat + 2047) / 2048 ≤ (s.ctx 5).quota ∧
    (g.length.toNat + 2047) / 2048 ≤ s.staging.freeBlocks ∧ 1 ≤ s.staging.freeRecords ∧
    (s.staging.constrained = false ∨ s.eligible 5 ((s.ctx 5).piecesFor g) = true))

/-- The extent lists of the sample's record are in order, whatever its state and timer. -/
theorem fresh_extents (state : CtxState) (timer : StallTimer) :
    ExtentsSafe (holding { fresh with state := state, timer := timer }) :=
  extents_of _ { fresh with state := state, timer := timer } (holding_ctx _) (Nat.zero_le _) ⟨nofun, .nil⟩ nofun
    (.inl rfl) (Nat.zero_le _) (by intro p hp; interval_cases p <;> exact ⟨⟨nofun, nofun⟩, rfl⟩)

/-- Data, and an end segment that implies the total; in ACTIVE, and in STALLED with the mask; with room for notices. -/
theorem witness_AcceptedDataIsCommitted :
    let stalled := holding abandoning
    Taking (holding fresh) ∧ StagingConserved (holding fresh) ∧ ExtentsSafe (holding fresh) ∧
      passes (holding fresh) (oneWord 65532) = true ∧ passes (holding fresh) (ending 65532) = true ∧
      Taking stalled ∧ StagingConserved stalled ∧ ExtentsSafe stalled ∧ passes stalled (oneWord 65532) = true ∧
      passes stalled (ending 65532) = true ∧ (stalled.ctx 5).state = .stalled ∧ (stalled.effMask 5).resumed = true ∧
      (ending 65532).length.toNat % 4 ≠ 0 ∧ (stalled.ctx 5).total = .absent :=
  ⟨holding_takes _, holding_staging _, fresh_extents _ _, by decide +kernel, by decide +kernel, holding_takes _,
    holding_staging _, fresh_extents _ _, by decide +kernel⟩

theorem witness_DuplicatesOnlyRestartTheTimer :
    let s := holding { writing with state := .stalled, total := .manifest 8 ⟨3, 5⟩ }
    Taking s ∧ (s.ctx 5).receiving = true ∧ (s.effMask 5).resumed = true ∧ DataSegment.wellShaped (oneWord 0) = true ∧ s.lookup key = some 5 ∧
      DataSegment.tallyMatches (oneWord 0) = true ∧ (oneWord 0).signal = (s.ctx 5).signal ∧
      (s.ctx 5).rangeRefusal (oneWord 0) = none ∧ (s.ctx 5).newRangesOf (oneWord 0) = [] ∧
      ManifestSegment.wellShaped (manifestOf 8 3 5) = true ∧ (s.ctx 5).total = .manifest 8 ⟨3, 5⟩ :=
  ⟨holding_takes _, by decide +kernel⟩

theorem witness_DataInDoneAndFailed :
    let done := holding { fresh with state := .done, timer := .stopped, total := .manifest 4 ⟨1, 1⟩, retired := 4 }
    let failed := holding { fresh with state := .failed, timer := .stopped }
    Taking done ∧ Taking failed ∧ done.lookup key = some 5 ∧ (done.ctx 5).state = .done ∧
      (oneWord 0).offset.toNat + 4 ≤ (done.ctx 5).endBound ∧ (done.ctx 5).endBound < (oneWord 4).offset.toNat + 4 ∧
      (failed.ctx 5).state = .failed ∧ (oneWord 0).signal = (failed.ctx 5).signal ∧
      DataSegment.wellShaped (oneWord 4) = true ∧ ManifestSegment.wellShaped (manifestOf 4 1 1) = true ∧
      failed.lookup key = some 5 ∧ (manifestOf 4 1 1).signal = (failed.ctx 5).signal ∧ abandonment.payload = [] :=
  ⟨holding_takes _, holding_takes _, by decide +kernel⟩

theorem witness_DamagedSegmentsCounted :
    let g := dataAt 24 8 7 12 [3, 0, 0, 0, 4, 0, 0, 0]
    let last := holding { fresh with damaged := 1 }
    Taking last ∧ StagingConserved last ∧ DataSegment.wellShaped g = true ∧ last.lookup key = some 5 ∧
      (last.ctx 5).receiving = true ∧ DataSegment.tallyMatches g = false ∧
      (last.ctx 5).damageLimit.toNat = min 255 ((last.ctx 5).damaged + 1) ∧
      (holding fresh).lookup key = some 5 ∧ ((holding fresh).ctx 5).damaged + 1 < ((holding fresh).ctx 5).damageLimit.toNat :=
  ⟨holding_takes _, holding_staging _, by decide +kernel⟩

/-- Every refusal of RefusedDataChangesNothing, each by the least margin. -/
theorem witness_RefusedDataChangesNothing :
    Taking (holding writing) ∧ DataSegment.wellShaped (oneWord 4) = true ∧ (holding writing).lookup key = some 5 ∧
      ((holding writing).ctx 5).receiving = true ∧ DataSegment.tallyMatches (oneWord 4) = true ∧
      (holding { fresh with extents := [⟨0, 16⟩] }).dataRefusal 5 (ending 8) = some .malformed ∧
      (holding { fresh with total := .implied 14 }).dataRefusal 5 (ending 8) = some .malformed ∧
      (holding { fresh with total := .manifest 5 ⟨3, 5⟩ }).dataRefusal 5 (oneWord 4) = some .beyondEnd ∧
      (holding { fresh with extents := fullList }).dataRefusal 5 (oneWord 200704) = some .extentLimit ∧
      (holding { fresh with quota := 1, blocksHeld := 1 }).dataRefusal 5 (oneWord 4) = some .quota ∧
      { holding fresh with staging := { idle.staging with freeBlocks := 0 } }.dataRefusal 5 (oneWord 4) =
        some .stagingFull ∧
      { holding { fresh with hostHold := true } with staging := { idle.staging with constrained := true } }.dataRefusal 5
        (oneWord 4) = some .stagingFull :=
  ⟨holding_takes _, by decide +kernel⟩

theorem witness_ConflictAndAbandonFailTheContext :
    let s := holding { fresh with total := .manifest 14 ⟨3, 5⟩ }
    let implied := holding { fresh with total := .implied 14 }
    let received := holding { fresh with extents := [⟨0, 16⟩] }
    Taking s ∧ StagingConserved s ∧ (s.ctx 5).receiving = true ∧ s.lookup key = some 5 ∧
      DataSegment.wellShaped (ending 8) = true ∧ DataSegment.tallyMatches (ending 8) = true ∧
      (ending 8).signal = (s.ctx 5).signal ∧ (ending 8).length.toNat % 4 ≠ 0 ∧
      (s.ctx 5).total = .manifest 14 ⟨3, 5⟩ ∧ (ending 8).offset.toNat + (ending 8).length.toNat = 13 ∧
      ManifestSegment.wellShaped (manifestOf 15 3 5) = true ∧ (manifestOf 15 3 5).total.toNat ≠ 14 ∧
      (implied.ctx 5).total = .implied 14 ∧ (received.ctx 5).expected = none ∧
      (manifestOf 15 3 5).total.toNat < highMark (received.ctx 5).retired (received.ctx 5).extents ∧
      abandonment.payload = [] :=
  ⟨holding_takes _, holding_staging _, by decide +kernel⟩

/-- The word 1 at offset 0, delivered. -/
def received : Ctx :=
  { fresh with
    extents := [⟨0, 4⟩], digest := ⟨1, 1⟩, area0 := { fresh.area0 with delivered := 4, digest := ⟨1, 1⟩ } }

/-- A first total that the record reaches with the expected digest (DONE) and with another (FAILED); one that it does not
reach, in STALLED; one implied before. -/
theorem witness_ManifestIsRecorded :
    let g := manifestOf 4 1 1
    let whole := holding received
    let stalled := holding abandoning
    let implied := holding { fresh with total := .implied 13, extents := [⟨8, 13⟩], digest := ⟨3, 11⟩ }
    (Taking whole ∧ ExtentsSafe whole ∧ StagingConserved whole ∧ ManifestSegment.wellShaped g = true ∧
        whole.lookup key = some 5 ∧ (whole.ctx 5).receiving = true ∧ g.signal = (whole.ctx 5).signal ∧
        (whole.ctx 5).total = .absent ∧ highMark (whole.ctx 5).retired (whole.ctx 5).extents = g.total.toNat ∧
        (((after (.manifest ⟨g, .idle⟩) whole).ctx 5).retired = 4 ∧ (whole.ctx 5).digest = ⟨1, 1⟩) ∧
        ((after (.manifest ⟨manifestOf 4 1 2, .idle⟩) whole).ctx 5).retired = 4 ∧
        whole.pieceLeft 5 (fun _ => false) 0 = false ∧
        (stagedState writing .writing).pieceLeft 5 (fun _ => false) 0 = true) ∧
      (Taking stalled ∧ ExtentsSafe stalled ∧ StagingConserved stalled ∧ stalled.lookup key = some 5 ∧
        (stalled.ctx 5).state = .stalled ∧ (stalled.effMask 5).resumed = true ∧ (stalled.ctx 5).total = .absent ∧
        ((after (.manifest ⟨g, .idle⟩) stalled).ctx 5).retired = 0) ∧
      Taking implied ∧ ExtentsSafe implied ∧ StagingConserved implied ∧
      (implied.ctx 5).total = .implied (manifestOf 13 3 5).total.toNat ∧
      highMark (implied.ctx 5).retired (implied.ctx 5).extents = (manifestOf 13 3 5).total.toNat :=
  ⟨⟨holding_takes _,
      extents_of _ received (holding_ctx _) (by decide +kernel) ⟨by decide +kernel, by decide +kernel⟩ (by decide +kernel)
        (by decide +kernel) (by decide +kernel) (by decide +kernel),
      holding_staging _, by decide +kernel⟩,
    ⟨holding_takes _, fresh_extents _ _, holding_staging _, by decide +kernel⟩, holding_takes _,
    extents_of _ { fresh with total := .implied 13, extents := [⟨8, 13⟩], digest := ⟨3, 11⟩ } (holding_ctx _)
      (by decide +kernel) ⟨by decide +kernel, by decide +kernel⟩ (by decide +kernel) (by decide +kernel) (by decide +kernel)
      (by decide +kernel),
    holding_staging _, by decide +kernel⟩

theorem witness_SenderSignalActs :
    let s := { holding faulted0 with actions := ⟨true, true, true⟩ }
    let live := { holding fresh with actions := ⟨true, true, true⟩ }
    let up := { oneWord 0 with signal := true }
    Taking s ∧ Taking live ∧ CanonicalForm s ∧ CanonicalForm live ∧ StagingConserved s ∧ StagingConserved live ∧ (s.ctx 5).exclusive = false ∧ (s.ctx 5).state = .failed ∧
      (s.ctx 5).area0.faulted = true ∧ (live.ctx 5).receiving = true ∧ (live.ctx 5).signal = false ∧
      (live.ctx 5).area0.faulted = false ∧ (live.ctx 5).area1.faulted = false ∧ (live.effMask 5).senderSignal = true ∧
      live.effHold 5 = false ∧ DataSegment.wellShaped up = true ∧ live.lookup key = some 5 ∧
      DataSegment.tallyMatches up = true ∧ ManifestSegment.wellShaped { manifestOf 4 1 1 with signal := true } = true :=
  have canonical (c : Ctx) (h : c ≠ Ctx.free) : CanonicalForm { holding c with actions := ⟨true, true, true⟩ } :=
    have g : CanonicalForm (holding c) := holding_canonical h
    ⟨g.lanes, g.channels, g.linked, g.map, g.contexts, g.groups, g.pointers, g.apertures, g.pool, g.jobs, g.payload⟩
  ⟨⟨⟨rfl, rfl, rfl⟩, rfl⟩, ⟨⟨rfl, rfl, rfl⟩, rfl⟩, canonical _ (by decide +kernel), canonical _ (by decide +kernel),
    ⟨List.Pairwise.nil, rfl, rfl, unconstrained⟩, ⟨List.Pairwise.nil, rfl, rfl, unconstrained⟩, by decide +kernel⟩

/-! ### Host commands -/

/-- A command can be taken in the test states. -/
theorem holding_fetched (c : Ctx) : Fetched (State.fetched (holding c)) := ⟨rfl, rfl, rfl⟩

theorem witness_IndexIsResolvedFirst :
    let s := State.fetched (holding fresh)
    Fetched s ∧ namedIndex (.close ⟨0, 9, 4096⟩) = some (9, 7, 4096) ∧ s.resets.count = 0 ∧ (4096 : BitVec 16).toNat = 4096 ∧
      (s.ctx 4095).state = .free ∧ namedIndex (.query ⟨0, query5⟩) = some (9, 2, 5) ∧ (s.ctx 5).isOpen = true :=
  ⟨holding_fetched _, by decide +kernel⟩

/-- Every check of OPEN but the last fails somewhere. -/
theorem witness_OpenChecksInOrder :
    let s := State.fetched (holding fresh)
    let crowded := State.fetched { idle with map := [(889, [⟨⟨9, 1⟩, 0⟩, ⟨⟨9, 2⟩, 1⟩, ⟨⟨9, 3⟩, 2⟩, ⟨⟨9, 4⟩, 3⟩])] }
    Fetched s ∧ Fetched crowded ∧ s.openRefusal { sample with windowSelect := 5 } = some .badParam ∧
      s.openRefusal { sample with base1 := 32 } = some .badParam ∧
      s.openRefusal { sample with base0 := 0xF0040 } = some .badAddress ∧
      s.openRefusal { sample with base1 := 0xF0040 } = some .badAddress ∧ s.openRefusal sample = some .keyExists ∧
      crowded.openRefusal sample = some .keyCollision :=
  ⟨holding_fetched _, ⟨rfl, rfl, rfl⟩, by decide +kernel⟩

/-- A part with no FREE record: TABLE_FULL. -/
theorem witness_OpenChecksInOrder_full :
    let s := State.fetched { idle with contexts := (List.range 4096).map fun i => (i, { Ctx.free with state := .closing }) }
    Fetched s ∧ s.openRefusal { sample with tag := 1 } = some .tableFull := by
  refine ⟨⟨rfl, rfl, rfl⟩, ?_⟩
  have h : (List.range 4096).all (fun i =>
      ((State.fetched { idle with
        contexts := (List.range 4096).map fun i => (i, { Ctx.free with state := .closing }) }).ctx i).state != .free) =
      true := by
    rw [List.all_eq_true]
    intro i hi
    have hi' : i < 4096 := List.mem_range.mp hi
    have : Table.lookup ((List.range 4096).map fun i => (i, { Ctx.free with state := .closing })) i =
        some { Ctx.free with state := .closing } := by
      simp only [Table.lookup, List.find?_map, Function.comp_def, Option.map_map]
      rw [List.find?_range_eq_some.mpr ⟨by simp, List.mem_range.mpr hi', fun j hj => by simp; omega⟩]
      rfl
    simp [State.ctx, State.fetched, Table.get, this]
  simp only [State.openRefusal, h]
  decide +kernel

theorem witness_OpenTakesTheLowestFreeRecord :
    let s := State.fetched { idle with contexts := [(0, { Ctx.free with state := .closing })] }
    Fetched s ∧ sample.windowSelect.toNat ≤ 4 ∧ s.mayWrite sample.base0.toNat (windowSize sample.windowSelect) = true ∧
      s.mayWrite sample.base1.toNat (windowSize sample.windowSelect) = true ∧ s.lookup key = none ∧
      (s.bucket (bucketOf key)).length < 4 ∧ (s.ctx 1).state = .free ∧ ∀ j, j < 1 → (s.ctx j).state ≠ .free :=
  ⟨⟨rfl, rfl, rfl⟩, by decide +kernel, by decide +kernel, by decide +kernel, by decide +kernel, by decide +kernel,
    by decide +kernel, fun j hj => by
      have : j = 0 := by omega
      subst this; decide +kernel⟩

theorem witness_QueryChecksInOrder :
    let s := State.fetched (holding fresh)
    Fetched s ∧ 1 < (2 : BitVec 8).toNat ∧ s.lookup ⟨3, 0⟩ = none ∧ (s.ctx 4095).state = .free ∧
      query5.index.toNat = 5 ∧ (s.ctx 5).isOpen = true ∧ s.lookup key = some 5 ∧ (32 : BitVec 64).toNat % 64 ≠ 0 ∧
      s.mayWrite 0xFFE40 512 = false :=
  ⟨holding_fetched _, by decide +kernel⟩

theorem witness_QueryCapturesTheRecord :
    let s := State.fetched grouped
    (s.ctx 4).group = some 3 ∧ (s.group 3).members = 5 :: [4] ∧ (s.ctx 4).isOpen = true ∧
      (idle.ctx 5).group = none ∧
    Fetched s ∧ query5.selector = 0 ∧ query5.index.toNat = 5 ∧ (s.ctx 5).isOpen = true ∧
      query5.address.toNat % 64 = 0 ∧ s.mayWrite query5.address.toNat 512 = true ∧ s.mayWrite 0xFFE00 512 = true :=
  ⟨by decide +kernel, by decide +kernel, by decide +kernel, rfl, ⟨rfl, rfl, rfl⟩, by decide +kernel⟩

theorem witness_SnapshotWriteEndsTheQuery :
    (querying (.waiting write5)).command.executing = some ⟨9, 5⟩ ∧
      (querying (.waiting write5)).mayWrite write5.address 512 = true ∧
      (querying (.waiting { write5 with address := 0x100000 })).mayWrite 0x100000 512 = false ∧
      (querying (.issued write5)).delivery.snapshotPort = .issued write5 := by decide +kernel

theorem witness_AdjustReplacesTheNamedSettings :
    let s := State.fetched (stagedState { fresh with staged := [0], blocksHeld := 1 } .eligible)
    let held := State.fetched (stagedState { fresh with staged := [0], blocksHeld := 1, hostHold := true } .parked)
    Fetched s ∧ Fetched held ∧ adjust5.index.toNat < 4096 ∧ (s.ctx adjust5.index.toNat).isOpen = true ∧
      s.staged 0 = some (word0 .eligible) ∧
      s.holdChanged (after (.adjust ⟨0, { adjust5 with hostHold := some true }⟩) s) 5 = true ∧
      held.holdChanged (after (.adjust ⟨0, { adjust5 with hostHold := some false }⟩) held) 5 = true ∧
      (after (.adjust ⟨0, { adjust5 with hostHold := some false }⟩) held).staged 0 = some (word0 .eligible) :=
  ⟨⟨rfl, rfl, rfl⟩, ⟨rfl, rfl, rfl⟩, by decide +kernel⟩

/-- Both windows have retired. -/
def filledBoth : Ctx :=
  { filled0 with retired := 131072, area1 := { fresh.area1 with state := .filled, delivered := 65536, halfSent := true } }

theorem witness_RefillChecksInOrder :
    let s := State.fetched (holding filledBoth)
    Fetched s ∧ (s.ctx 5).isOpen = true ∧ s.refillRefusal ⟨9, 5, 2, 0⟩ = some .badParam ∧
      s.refillRefusal ⟨9, 5, 0, 32⟩ = some .badParam ∧
      (State.fetched (holding fresh)).refillRefusal ⟨9, 5, 0, 0⟩ = some .wrongState ∧
      s.refillRefusal ⟨9, 5, 1, 0⟩ = some .wrongState ∧
      (State.fetched (holding { filled0 with area0 := { filled0.area0 with verify := .active } })).refillRefusal
        ⟨9, 5, 0, 0⟩ = some .areaBusy ∧
      s.refillRefusal ⟨9, 5, 0, 0xF0040⟩ = some .badAddress :=
  ⟨holding_fetched _, by decide +kernel⟩

/-- The extents of the record whose last window waits are in order. -/
theorem waiting_extents :
    ExtentsSafe (State.fetched (holding
      { filledBoth with total := .manifest 131076 ⟨1, 1⟩, extents := [⟨131072, 131076⟩], digest := ⟨1, 1⟩ })) :=
  extents_of _ { filledBoth with total := .manifest 131076 ⟨1, 1⟩, extents := [⟨131072, 131076⟩], digest := ⟨1, 1⟩ }
    (holding_ctx _) (by decide +kernel) ⟨by decide +kernel, by decide +kernel⟩ (by decide +kernel) (by decide +kernel)
    (by decide +kernel) (by decide +kernel)

/-- An area that takes a window, and one that is left with none; the windows that wait behind it retiring, into DONE; and
the faulted path. -/
theorem witness_RefillMovesTheArea :
    let s := State.fetched (holding filledBoth)
    let failed := State.fetched (holding faulted0)
    let last := State.fetched (holding { filledBoth with total := .manifest 131072 ⟨1, 1⟩ })
    let whole := State.fetched (holding
      { filledBoth with total := .manifest 131076 ⟨1, 1⟩, extents := [⟨131072, 131076⟩], digest := ⟨1, 1⟩ })
    (Fetched s ∧ Fetched failed ∧ Fetched last ∧ Fetched whole ∧ StagingConserved whole ∧ ExtentsSafe whole) ∧ (s.ctx 5).isOpen = true ∧
      ((s.ctx 5).area 0).state = .filled ∧ ((s.ctx 5).area 0).verify = .none ∧ s.mayWrite 0xF0000 65536 = true ∧
      ¬(((s.ctx 5).area 1).state = .filled ∧ ((s.ctx 5).area 1).window.getD 0 < ((s.ctx 5).area 0).window.getD 0) ∧
      2 * windowSize (s.ctx 5).windowSelect < (s.ctx 5).endBound ∧
      2 * windowSize (last.ctx 5).windowSelect = (last.ctx 5).endBound ∧
      ((after (.refill ⟨0, 9, 5, 0, 0⟩) s).ctx 5).retired = (s.ctx 5).retired ∧
      ((after (.refill ⟨0, 9, 5, 0, 0⟩) whole).ctx 5).state = .done ∧ (whole.ctx 5).retired = 2 * 65536 ∧
      (failed.ctx 5).state = .failed ∧ ((failed.ctx 5).area 0).faulted = true :=
  ⟨⟨holding_fetched _, holding_fetched _, holding_fetched _, holding_fetched _, ⟨List.Pairwise.nil, rfl, rfl, unconstrained⟩,
    waiting_extents⟩, by decide +kernel⟩

/-- A full verify queue. -/
def fullQueue : List VerifyRequest := List.replicate 8 { request false with context := 7, readOutstanding := false }

/-- A full group. -/
def fullGroup : Group := ⟨(List.range 16).map (· + 100), false, 0, 0⟩

theorem witness_ContextCommandChecksInOrder :
    let s := State.fetched (holding filled0)
    let full := State.fetched { holding filled0 with verify := fullQueue, groups := [(3, fullGroup)] }
    Fetched s ∧ Fetched full ∧ (s.ctx 5).isOpen = true ∧
      { filled0 with state := .done, area0 := { filled0.area0 with faulted := true } }.restartRefusal = some .wrongState ∧
      faulted0.restartRefusal = some .areaFaulted ∧ s.reverifyRefusal ⟨9, 5, 2⟩ = some .badParam ∧
      s.reverifyRefusal ⟨9, 5, 1⟩ = some .wrongState ∧
      (State.fetched (holding { filled0 with area0 := { filled0.area0 with verify := .queued } })).reverifyRefusal
        ⟨9, 5, 0⟩ = some .verifyBusy ∧
      (State.fetched (holding { filled0 with area0 := { filled0.area0 with base := 0xF0040 } })).reverifyRefusal
        ⟨9, 5, 0⟩ = some .badAddress ∧
      full.reverifyRefusal ⟨9, 5, 0⟩ = some .verifyBusy ∧ s.joinRefusal ⟨9, 5, 256, false⟩ = some .badParam ∧
      (State.fetched (holding faulted0)).joinRefusal ⟨9, 5, 255, false⟩ = some .wrongState ∧
      (State.fetched grouped).joinRefusal ⟨9, 5, 3, false⟩ = some .wrongState ∧
      full.joinRefusal ⟨9, 5, 3, false⟩ = some .groupFull ∧ (s.ctx 5).group = none :=
  ⟨holding_fetched _, ⟨rfl, rfl, rfl⟩, by decide +kernel⟩

/-- Verify requests of context 5: the active one of area 0, and a queued one of area 1. -/
def verifying (s : State) : State :=
  { s with verify := [request false, { request false with area := 1, window := 1, readOutstanding := false }] }

/-- With a running job; with an active and a queued verify request; from FAILED in a group. -/
theorem witness_RestartStartsAgain :
    let s := verifying (State.fetched delivering)
    let failed := State.fetched { holding { fresh with state := .failed, timer := .stopped, group := some 3 } with
      groups := [(3, ⟨[5], true, 0, 1⟩)] }
    Fetched s ∧ StagingConserved s ∧ Fetched failed ∧ StagingConserved failed ∧ (s.ctx 5).isOpen = true ∧
      (s.ctx 5).state ≠ .done ∧ (s.ctx 5).area0.faulted = false ∧ (s.ctx 5).area1.faulted = false ∧
      (s.effMask 5).restarted = true ∧ s.staged 0 = some (word0 .writing) ∧ (request false).context = 5 ∧
      s.verify.tail.map VerifyRequest.context = [5] ∧ (failed.ctx 5).state = .failed ∧ (failed.ctx 5).group = some 3 :=
  ⟨⟨rfl, rfl, rfl⟩, ⟨by decide +kernel, by decide +kernel, by decide +kernel, by decide +kernel⟩, ⟨rfl, rfl, rfl⟩,
    ⟨List.Pairwise.nil, rfl, rfl, unconstrained⟩, by decide +kernel⟩

theorem witness_ReverifyJoinsTheQueue :
    let s := State.fetched { holding filled0 with verify := fullQueue.tail }
    Fetched s ∧ (s.ctx 5).isOpen = true ∧ ((s.ctx 5).area 0).state = .filled ∧ ((s.ctx 5).area 0).verify = .none ∧
      s.mayRead ((s.ctx 5).area 0).base ((s.ctx 5).windowLength 0) = true ∧ s.verify.length = 7 ∧
      (holding filled0).verify = [] :=
  ⟨⟨rfl, rfl, rfl⟩, by decide +kernel⟩

theorem witness_CloseRemovesTheContext :
    let s := verifying (State.fetched delivering)
    Fetched s ∧ StagingConserved s ∧ (s.ctx 5).isOpen = true ∧ (s.ctx 5).key = some key ∧
      (s.ctx 5).current + (s.ctx 5).older = 1 ∧ ((holding fresh).ctx 5).current + ((holding fresh).ctx 5).older = 0 ∧
      (request false).context = 5 ∧ (request false).readOutstanding = true ∧
      s.verify.tail.map VerifyRequest.context = [5] ∧ (after (.close ⟨0, 9, 5⟩) s).notice.full = false ∧
      (Fetched (State.fetched grouped) ∧ StagingConserved (State.fetched grouped) ∧ (grouped.ctx 5).group = some 3 ∧
        (grouped.group 3).done ≠ (grouped.group 3).members.length ∧
        (after (.close ⟨0, 9, 5⟩) (State.fetched grouped)).notice.queue = [.groupDone 4 3 1, .cmdResult 5 9 7 .ok]) ∧
      GroupSafe (State.fetched delivering) :=
  ⟨⟨rfl, rfl, rfl⟩, ⟨by decide +kernel, by decide +kernel, by decide +kernel, by decide +kernel⟩, by decide +kernel, by decide +kernel,
    by decide +kernel, by decide +kernel, rfl, rfl, by decide +kernel, by decide +kernel,
    ⟨⟨rfl, rfl, rfl⟩, ⟨List.Pairwise.nil, rfl, rfl, unconstrained⟩, by decide +kernel⟩,
    have g : GroupSafe delivering := witness_GroupCountsKept.1
    ⟨g.done, g.failed, g.once, g.limit, g.field, g.open_⟩⟩

theorem witness_GroupsAreJoinedAndLeft :
    let s := State.fetched { holding fresh with groups := [(255, { fullGroup with members := fullGroup.members.tail })] }
    Fetched s ∧ (s.ctx 5).receiving = true ∧ (s.ctx 5).group = none ∧ (s.group 255).members.length = 15 ∧
      (s.group 0).members = [] ∧ Fetched (State.fetched grouped) ∧ (grouped.ctx 5).isOpen = true ∧
      (grouped.ctx 5).group = some 3 ∧ (grouped.group 3).done ≠ (grouped.group 3).members.length ∧
      (let held := State.fetched { holding fresh with groups := [(3, ⟨[4], true, 0, 1⟩)] };
        held.holdChanged (after (.groupJoin ⟨0, 9, 5, 3, false⟩) held) 5 = true) :=
  ⟨⟨rfl, rfl, rfl⟩, by decide +kernel, by decide +kernel, by decide +kernel, by decide +kernel, ⟨rfl, rfl, rfl⟩,
    by decide +kernel⟩

theorem witness_SetApertureChecksAndReplaces :
    let s := State.fetched (holding fresh)
    let p := s.aperture 0
    Fetched s ∧ (8 : BitVec 8).toNat = 8 ∧ (4095 : BitVec 64).toNat % 4096 ≠ 0 ∧ p.enabled = true ∧
      (s.ctx 5).state ≠ .free ∧ (s.ctx 5).area0.base < p.limit + 4096 ∧
      p.base < (s.ctx 5).area0.base + windowSize (s.ctx 5).windowSelect ∧ (s.aperture 7).enabled = false :=
  ⟨holding_fetched _, by decide +kernel⟩

theorem witness_CommandsAreFetchedAndTaken :
    idle.resets.held = false ∧ idle.resets.pending = false ∧ idle.command.head ≠ idle.command.tail ∧
      idle.notice.queue.length < 64 ∧ (State.fetched idle).command.fetch.isSome = true ∧
      (State.fetched draining).resets.draining = true ∧ (State.fetched draining).command.fetch.isSome = true ∧
      (encodeEntry (.close ⟨0, 9, 5⟩)).isSome = true ∧
      issuedAt (.close ⟨0, 9, 5⟩) = some (State.fetched draining).resets.count ∧ Fetched (State.fetched idle) ∧
      (let held := State.fetched { stagedState { fresh with staged := [0], blocksHeld := 1, signal := true } .parked with
        actions := ⟨false, true, false⟩ };
        held.effHold 5 = true ∧ (after (.configure ⟨0, 9, ⟨false, false, false⟩, false⟩) held).effHold 5 = false ∧
          (after (.configure ⟨0, 9, ⟨false, false, false⟩, false⟩) held).staged 0 = some (word0 .eligible)) :=
  ⟨rfl, rfl, by decide +kernel, by decide +kernel, rfl, rfl, rfl, by decide +kernel, rfl, ⟨rfl, rfl, rfl⟩,
    by decide +kernel⟩

/-! ### Delivery, timers, verify reads and notices -/

/-- One ELIGIBLE record, of context 5. -/
def granting : State := stagedState { writing with current := 0 } .eligible

theorem witness_GrantTakesTheFirstInTurn :
    CanonicalForm granting ∧ (∀ r rec, granting.staged r = some rec → (granting.ctx rec.owner).state ≠ .free) ∧
      Admitting granting ∧ granting.delivery.inFlight < 16 ∧ granting.delivery.quiesceLine = false ∧
      granting.delivery.quiesceRequest = false ∧
      (∀ j, (∃ r rec, granting.staged r = some rec ∧ rec.owner = j ∧ rec.state = .eligible) ↔ j = 5) ∧
      5 ≤ granting.pointer (granting.effPriority 5) ∧ (granting.ctx 5).staged = [] ++ 0 :: [] ∧
      granting.staged 0 = some (word0 .eligible) := by
  have only : ∀ r rec, granting.staged r = some rec → rec = word0 .eligible := by
    intro r rec h
    by_cases hr : r = 0
    · subst hr; simpa [State.staged, granting, stagedState, stagingOf, Table.lookup] using h.symm
    · have : (0 == r) = false := by simp; omega
      simp [State.staged, granting, stagedState, stagingOf, Table.lookup, List.find?, this] at h
  refine ⟨⟨by decide +kernel, by decide +kernel, unpresented rfl, by decide +kernel, by decide +kernel, by decide +kernel,
    by decide +kernel, by decide +kernel, by decide +kernel, by decide +kernel, by decide +kernel⟩, ?_, ⟨rfl, rfl, rfl⟩,
    by decide +kernel, rfl, rfl, ?_, by decide +kernel, rfl, rfl⟩
  · intro r rec h
    rw [only r rec h]; decide +kernel
  · intro j
    constructor
    · rintro ⟨r, rec, h, ho, -⟩
      rw [only r rec h] at ho; exact ho.symm
    · intro h
      exact ⟨0, word0 .eligible, rfl, h.symm, rfl⟩

/-- Two writes of one job: the second waits at the head of the order, the first is out. -/
def twoWrites : Job :=
  { owner := 5, older := false, writes := [⟨0, 0, 0, 4, .issued [1, 0, 0, 0]⟩, ⟨1, 4, 0x100000, 4, .waiting⟩] }

/-- One job whose one write waits for an address outside every aperture. -/
def outsideJob : Job := { owner := 5, older := false, writes := [⟨0, 0, 0x100000, 4, .waiting⟩] }

/-- The record of a CLOSING context with one job. -/
def closing5 : Ctx := { writing with state := .closing, timer := .stopped }

/-- A write that goes out; one outside the apertures with another of its job issued, and with none, of a context that is
not CLOSING and of one that is. -/
theorem witness_PieceWritesIssueInOrder :
    let s := deliveringState writing (job0 false .waiting) [⟨0, 0⟩]
    let outside := deliveringState writing twoWrites [⟨0, 1⟩]
    let alone := deliveringState writing outsideJob [⟨0, 0⟩]
    let closing := deliveringState closing5 outsideJob [⟨0, 0⟩]
    (s.resets.held = false ∧ s.delivery.snapshotPort.isWaiting = false ∧ s.delivery.issueOrder = [⟨0, 0⟩] ∧
      s.job 0 = some (job0 false .waiting) ∧ s.staged 0 = some (word0 .writing) ∧
      (job0 false .waiting).writes[0]? = some ⟨0, 0, 0, 4, .waiting⟩ ∧ s.mayWrite 0 4 = true ∧
      outside.job 0 = some twoWrites ∧ twoWrites.writes[1]? = some ⟨1, 4, 0x100000, 4, .waiting⟩ ∧
      outside.mayWrite 0x100000 4 = false ∧ twoWrites.writes[0]? = some ⟨0, 0, 0, 4, .issued [1, 0, 0, 0]⟩ ∧
      (querying (.waiting write5)).delivery.snapshotPort.isWaiting = true ∧
      alone.job 0 = some outsideJob ∧ outsideJob.writes[0]? = some ⟨0, 0, 0x100000, 4, .waiting⟩ ∧
      outsideJob.writes.length = 1 ∧ (alone.ctx 5).state = .active ∧ (closing.ctx 5).state = .closing) ∧
      StagingConserved alone ∧ DeliverySafe alone ∧ StagingConserved closing ∧ DeliverySafe closing :=
  ⟨by decide +kernel, delivering_staging _ _ _, delivering_delivery _ _ _ rfl, delivering_staging _ _ _,
    delivering_delivery _ _ _ rfl⟩

/-- A job of two writes, the first out, the second as it stands. -/
def secondWrite (progress : WriteProgress) : Job :=
  { owner := 5, older := false, writes := [⟨0, 0, 0, 4, .issued [1, 0, 0, 0]⟩, ⟨1, 4, 65536, 4, progress⟩] }

/-- The extents of a record whose last window is being delivered are in order. -/
theorem small_extents :
    ExtentsSafe (deliveringState { writing with total := .manifest 4 ⟨1, 1⟩ } (job0 false (.issued [1, 0, 0, 0])) []) :=
  have g := extents_of (holding { writing with total := .manifest 4 ⟨1, 1⟩ }) { writing with total := .manifest 4 ⟨1, 1⟩ }
    (holding_ctx _) (by decide +kernel) ⟨by decide +kernel, by decide +kernel⟩ (by decide +kernel) (by decide +kernel)
    (by decide +kernel) (by decide +kernel)
  ⟨g.limit, g.ordered, g.within, g.edge, g.bound, g.holds, g.parity⟩

/-- The bytes of both windows are received, and record 0 holds the last of them. -/
def twoWindows : State := deliveringState { writing with extents := [⟨0, 131072⟩] } (job0 false (.issued [1, 0, 0, 0])) []

/-- Its extents are in order. -/
theorem twoWindows_extents : ExtentsSafe twoWindows :=
  have g := extents_of (holding { writing with extents := [⟨0, 131072⟩] }) { writing with extents := [⟨0, 131072⟩] }
    (holding_ctx _) (by decide +kernel) ⟨by decide +kernel, by decide +kernel⟩ (by decide +kernel) (by decide +kernel)
    (by decide +kernel) (by decide +kernel)
  ⟨g.limit, g.ordered, g.within, g.edge, g.bound, g.holds, g.parity⟩

/-- R105: one completion retires both windows. -/
theorem witness_PieceReportsCompleteJobs_both :
    (StagingConserved twoWindows ∧ DeliverySafe twoWindows ∧ ExtentsSafe twoWindows) ∧
      twoWindows.job 0 = some (job0 false (.issued [1, 0, 0, 0])) ∧
      (twoWindows.ctx 5).whole (twoWindows.pieceLeft 5 fun q => q == 0) 0 = true ∧
      (twoWindows.ctx 5).whole (twoWindows.pieceLeft 5 fun q => q == 0) 1 = true ∧
      ((after (.pieceWriteReport 0 0 ⟨0, .ok⟩) twoWindows).ctx 5).retired = 131072 :=
  ⟨⟨delivering_staging _ _ _, delivering_delivery _ _ _ rfl, twoWindows_extents⟩, by decide +kernel⟩

/-- A job whose one write is out, and which completes, with half of its window reached, or its window filled; a job with
another write waiting, issued, faulted; the last job of an older generation; a CLOSING context with one job and with two. -/
theorem witness_PieceReportsCompleteJobs :
    let out : PieceWrite := ⟨0, 0, 0, 4, .issued [1, 0, 0, 0]⟩
    let state := fun (progress : WriteProgress) (order : List PieceRef) =>
      deliveringState writing (secondWrite progress) order
    let waits := state .waiting [⟨0, 1⟩]
    let issued := state (.issued [0, 0, 0, 0]) []
    let faulted := state .fault []
    let small := deliveringState { writing with total := .manifest 4 ⟨1, 1⟩ } (job0 false (.issued [1, 0, 0, 0])) []
    let old := deliveringState { writing with current := 0, older := 1, fence := true }
      (job0 true (.issued [1, 0, 0, 0])) []
    let closing := deliveringState closing5 (job0 false (.issued [1, 0, 0, 0])) []
    let closing2 := deliveringState { closing5 with current := 2 } (job0 false (.issued [1, 0, 0, 0])) []
    (StagingConserved atWork ∧ DeliverySafe atWork ∧ StagingConserved waits ∧ DeliverySafe waits ∧
      StagingConserved issued ∧ DeliverySafe issued ∧ StagingConserved faulted ∧ DeliverySafe faulted ∧
      StagingConserved small ∧ DeliverySafe small ∧ ExtentsSafe small ∧ StagingConserved old ∧ DeliverySafe old ∧
      StagingConserved closing ∧ DeliverySafe closing ∧ StagingConserved closing2 ∧ DeliverySafe closing2) ∧
      (atWork.resets.held = false ∧ atWork.job 0 = some (job0 false (.issued [1, 0, 0, 0])) ∧
        atWork.staged 0 = some (word0 .writing) ∧ (job0 false (.issued [1, 0, 0, 0])).writes = [out] ∧
        (atWork.ctx 5).state ≠ .closing ∧ (atWork.ctx 5).receiving = true) ∧
      (waits.job 0 = some (secondWrite .waiting) ∧ issued.job 0 = some (secondWrite (.issued [0, 0, 0, 0])) ∧
        faulted.job 0 = some (secondWrite .fault) ∧ (secondWrite .fault).writes[0]? = some out) ∧
      ((after (.pieceWriteReport 0 0 ⟨0, .ok⟩) small).ctx 5).state = .done ∧ (small.ctx 5).retired = 0 * 65536 ∧
      ((small.ctx 5).windowLength 0 + 1) / 2 ≤ (((after (.pieceWriteReport 0 0 ⟨0, .ok⟩) small).ctx 5).area 0).delivered ∧
      (old.ctx 5).older = 1 ∧ (job0 true (.issued [1, 0, 0, 0])).older = true ∧
      (closing.ctx 5).state = .closing ∧ (closing.ctx 5).current = 1 ∧ (closing.ctx 5).older = 0 ∧
      (closing2.ctx 5).current = 2 :=
  ⟨⟨delivering_staging _ _ _, delivering_delivery _ _ _ rfl, delivering_staging _ _ _, delivering_delivery _ _ _ rfl,
    delivering_staging _ _ _, delivering_delivery _ _ _ rfl, delivering_staging _ _ _, delivering_delivery _ _ _ rfl,
    delivering_staging _ _ _, delivering_delivery _ _ _ rfl, small_extents, delivering_staging _ _ _,
    delivering_delivery _ _ _ rfl, delivering_staging _ _ _, delivering_delivery _ _ _ rfl, delivering_staging _ _ _,
    delivering_delivery _ _ _ rfl⟩,
    by decide +kernel⟩

theorem witness_TimersExpire :
    (holding expiring).resets.held = false ∧ (5 : BitVec 12).toNat = 5 ∧ ((holding expiring).ctx 5).state = .active ∧
      ((holding expiring).ctx 5).timer = .stall 0 ∧ ((holding expiring).effMask 5).stalled = true ∧
      StagingConserved (holding abandoning) ∧ ((holding abandoning).ctx 5).state = .stalled ∧
      ((holding abandoning).ctx 5).timer = .abandon (some 0) ∧ ((holding fresh).ctx 5).timer = .stall 50 ∧
      ((holding fresh).ctx 4095).state ≠ .stalled :=
  ⟨rfl, by decide, by decide +kernel, by decide +kernel, by decide +kernel, holding_staging _, by decide +kernel⟩

/-- The last bytes of a request, with another behind it; bytes that are not the last, whose next read the apertures allow and
do not allow, also in a drain; a request aborted, by a restart and by a CLOSE; a next request that the apertures do not
allow; and an aborted request with a newer one of the same area behind it. -/
theorem witness_VerifyReadsRunToAnOutcome :
    let more : VerifyRequest := { request false with area := 1, readOutstanding := false }
    let s := { holding filled0 with verify := [request false, more] }
    let long : VerifyRequest := { request false with length := 4097 }
    let edge : VerifyRequest := { long with base := 0xFF000 }
    let beyond : VerifyRequest := { more with base := 0x100000 }
    let drained := { draining with verify := [long, more] }
    let closed : VerifyRequest := { request true with byClose := true }
    let newer : VerifyRequest := { request false with readOutstanding := false }
    let again := { holding filled0 with verify := [request true, newer] }
    (newer.context = 5 ∧ newer.area % 2 = (request true).area % 2 ∧ again.mayRead 0 4 = true ∧
      ((after (.verifyReadReturn ⟨0, .fault⟩) again).ctx 5).area0.verify = .active) ∧
    s.resets.held = false ∧ s.resets.draining = false ∧ s.verify = request false :: [more] ∧
      (request false).readOutstanding = true ∧ (request false).byClose = false ∧
      (∀ q ∈ [more], q.context ≠ 5 ∨ q.area % 2 ≠ 0) ∧ (request true).aborted = true ∧ (request false).aborted = false ∧
      (4 : Nat) = min 4096 ((request false).length - 0) ∧
      (⟨0, 0⟩ : Tally).add (tallyFrom 0 [1, 0, 0, 0]) = ((s.ctx 5).area 0).digest ∧
      (⟨0, 0⟩ : Tally).add (tallyFrom 0 [2, 0, 0, 0]) ≠ ((s.ctx 5).area 0).digest ∧
      long.bytesRead + min 4096 (long.length - long.bytesRead) < long.length ∧ s.mayRead (0 + (0 + 4096)) 1 = true ∧
      s.mayRead (edge.base + 4096) 1 = false ∧ (∀ q ∈ [beyond], q.context ≠ 5 ∨ q.area % 2 ≠ 0) ∧
      s.mayRead (beyond.base + 0) 4 = false ∧ drained.resets.held = false ∧ drained.resets.draining = true ∧
      drained.verify = long :: [more] ∧ closed.byClose = true ∧ closed.aborted = true ∧ s.notice.full = false := by
  decide +kernel

theorem witness_NoticesReachTheRing :
    noticed.resets.held = false ∧ noticed.notice.queue = [.stalled 5] ∧
      (noticed.notice.producer + 1) % noticed.notice.size ≠ noticed.notice.consumer ∧
      noticed.delivery.noticePort = .idle ∧ noticed.notice.writeFault = false ∧
      noticeOut.delivery.noticePort = .issued stalledWrite ∧ noticeOut.resets.pending = false ∧
      (noticeOut.notice.producer + 1) % noticeOut.notice.size = 1 ∧ configured.resets.pending = true ∧ idle.notice.queue = [] ∧
      idle.notice.full = false ∧ CanonicalForm (holding { fresh with owed := [.stalled] }) ∧
      ((holding { fresh with owed := [.stalled] }).ctx 5).owed ≠ [] ∧
      ∀ j, j < 5 → ((holding { fresh with owed := [.stalled] }).ctx j).owed = [] :=
  ⟨rfl, rfl, by decide +kernel, rfl, rfl, rfl, rfl, by decide +kernel, rfl, rfl, by decide +kernel,
    holding_canonical (by decide +kernel), by decide +kernel,
    fun j hj => by interval_cases j <;> decide +kernel⟩

/-! ### Controls and resets -/

theorem witness_ControlsActOnTheirRegisters :
    idle.resets.held = false ∧ idle.resets.pending = false ∧ State.reset.resets.held = false ∧
      State.reset.resets.pending = true ∧ State.reset.staging.freeBlocks = 4096 ∧
      State.reset.staging.freeRecords = 4096 := by decide +kernel

theorem witness_AcknowledgeTestsTheRings :
    configured.resets.held = false ∧ configured.resets.pending = true ∧ configured.resets.draining = false ∧
      configured.command.size ≠ 0 ∧ configured.notice.size ≠ 0 ∧ configured.command.base % 64 = 0 ∧
      configured.notice.base % 32 = 0 ∧
      configured.command.base + 64 * configured.command.size ≤ configured.notice.base := by decide +kernel

theorem witness_ResetsClearThePart :
    draining.resets.held = false ∧ draining.resets.draining = true ∧ draining.delivery.inFlight = 0 ∧
      draining.verify = [] ∧ draining.delivery.snapshotPort = .idle ∧ draining.command.fetch = none ∧
      draining.delivery.noticePort = .idle ∧ configured.resets.pending = true ∧ configured.resets.draining = false ∧
      delivering.delivery.inFlight ≠ 0 ∧ (after (.fullReset .resetInput) idle).resets.held = true ∧
      crowded.intake.channels ≠ [] ∧ issuedAt (.pieceWriteReport 0 0 ⟨0, .ok⟩) = some 0 ∧
      (after (.fullReset .powerOn) idle).resets.count = 1 := by decide +kernel

end Sys2Proof.Tests
end

section
/-! What each shared operation does to the context records, field by field of what R5 speaks of: a record's state, key and
window size select (its face), and a record but for its areas and what it is owed (its core). -/

namespace Sys2Proof.Contexts

open Sys2Proof Sys2Proof.Machine Sys2Proof.Laws

/-- What of a record only the events of R5's table change. -/
structure Face where
  state : CtxState
  key : Option Key
  windowSelect : BitVec 3

/-- The face of a record. -/
def face (c : Ctx) : Face := ⟨c.state, c.key, c.windowSelect⟩

/-- A face in another state. -/
def Face.enter (f : Face) (st : CtxState) : Face := { f with state := st }

/-- A record but for its areas and what it is owed: what notices and verify requests leave alone. -/
def core (c : Ctx) : Ctx := { c with owed := [], area0 := Area.free, area1 := Area.free }

@[simp] theorem face_state (c : Ctx) : (face c).state = c.state := rfl
@[simp] theorem face_key (c : Ctx) : (face c).key = c.key := rfl
@[simp] theorem face_windowSelect (c : Ctx) : (face c).windowSelect = c.windowSelect := rfl
@[simp] theorem enter_state (f : Face) (st : CtxState) : (f.enter st).state = st := rfl
@[simp] theorem enter_key (f : Face) (st : CtxState) : (f.enter st).key = f.key := rfl
@[simp] theorem enter_windowSelect (f : Face) (st : CtxState) : (f.enter st).windowSelect = f.windowSelect := rfl
@[simp] theorem enter_enter (f : Face) (a b : CtxState) : (f.enter a).enter b = f.enter b := rfl
@[simp] theorem enter_own (c : Ctx) : (face c).enter c.state = face c := rfl

theorem face_of_core {c d : Ctx} (h : core c = core d) : face c = face d :=
  show face (core c) = face (core d) from congrArg face h

@[simp] theorem core_setArea (c : Ctx) (n : Nat) (a : Area) : core (c.setArea n a) = core c := by
  unfold Ctx.setArea; split <;> rfl

/-! ## Records read after writes of something else -/

@[simp] theorem rejudge_ctx (s : State) (p : Nat → Bool) (j : Nat) : (s.rejudge p).ctx j = s.ctx j := rfl
@[simp] theorem rejudgeCtx_ctx (s : State) (i j : Nat) : (s.rejudgeCtx i).ctx j = s.ctx j := rfl
@[simp] theorem rejudgeHolds_ctx (s b : State) (j : Nat) : (s.rejudgeHolds b).ctx j = s.ctx j := rfl
@[simp] theorem markOlder_ctx (s : State) (i j : Nat) : (s.markOlder i).ctx j = s.ctx j := rfl

theorem ctx_of_contexts {s t : State} (h : t.contexts = s.contexts) (j : Nat) : t.ctx j = s.ctx j := by
  unfold State.ctx; rw [h]

/-- Record `i` of the state `s` replaced by `c`. -/
theorem ctx_of_set {s t : State} {i : Nat} {c : Ctx} (h : t.contexts = Table.set Ctx.free s.contexts i c) (j : Nat) :
    t.ctx j = if j = i then c else s.ctx j := by
  unfold State.ctx; rw [h, get_set]

@[simp] theorem pushOrDrop_ctx (s : State) (n : Notice) (j : Nat) : (s.pushOrDrop n).ctx j = s.ctx j :=
  ctx_of_contexts (by simp) j

@[simp] theorem memberRecovered_ctx (s : State) (i j : Nat) : (s.memberRecovered i).ctx j = s.ctx j :=
  ctx_of_contexts (by simp) j

/-! ## Operations that keep every record's core -/

theorem core_modCtx (s : State) (i j : Nat) {f : Ctx → Ctx} (hf : ∀ c, core (f c) = core c) :
    core ((s.modCtx i f).ctx j) = core (s.ctx j) := by
  rw [ctx_modCtx]
  split
  · next h => rw [h, hf]
  · rfl

@[simp] theorem core_fold (s : State) (i j : Nat) (k : OwedKind) : core ((s.fold i k).ctx j) = core (s.ctx j) := by
  rw [ctx_fold]
  split
  · next h => rw [h]; rfl
  · rfl

@[simp] theorem core_notify (s : State) (i j : Nat) (k : OwedKind) (n : Notice) :
    core ((s.notify i k n).ctx j) = core (s.ctx j) := by
  rcases notify_cases s i k n with ⟨h, _⟩ | ⟨h, _⟩ <;> simp [h]

@[simp] theorem core_notifyMasked (s : State) (i j : Nat) (h : NoticeMask → Bool) (k : OwedKind) (n : Notice) :
    core ((s.notifyMasked i h k n).ctx j) = core (s.ctx j) := by
  rcases notifyMasked_cases s i h k n with ⟨e, _⟩ | ⟨e, _⟩ <;> simp [e]

@[simp] theorem core_groupDoneTest (s : State) (g : Nat) (b : Group) (j : Nat) :
    core ((s.groupDoneTest g b).ctx j) = core (s.ctx j) := by
  unfold State.groupDoneTest
  dsimp only
  split <;> simp

@[simp] theorem core_memberDone (s : State) (i j : Nat) : core ((s.memberDone i).ctx j) = core (s.ctx j) := by
  unfold State.memberDone
  split <;> simp

@[simp] theorem core_memberFailed (s : State) (i j : Nat) (c : FailCause) :
    core ((s.memberFailed i c).ctx j) = core (s.ctx j) := by
  unfold State.memberFailed
  split
  · rfl
  · dsimp only [rejudgeHolds_ctx]
    split <;> simp

@[simp] theorem core_setVerify (s : State) (i p j : Nat) (v : VerifyStatus) :
    core ((s.setVerify i p v).ctx j) = core (s.ctx j) := core_modCtx s i j fun c => core_setArea c p _

@[simp] theorem core_verifyNotice (s : State) (r : VerifyRequest) (o : VerifyOutcome) (j : Nat) :
    core ((s.verifyNotice r o).ctx j) = core (s.ctx j) := by
  unfold State.verifyNotice
  dsimp only
  split <;> simp

@[simp] theorem core_verifyOutcome (s : State) (r : VerifyRequest) (o : VerifyOutcome) (j : Nat) :
    core ((s.verifyOutcome r o).ctx j) = core (s.ctx j) := by
  unfold State.verifyOutcome
  split <;> simp

@[simp] theorem core_startVerify (l : List VerifyRequest) (s : State) (j : Nat) :
    core ((startVerify l s).ctx j) = core (s.ctx j) := by
  induction l generalizing s with
  | nil => rfl
  | cons r l ih =>
    unfold startVerify
    dsimp only
    split
    · exact core_setVerify s r.context r.area j .active
    · simp [ih]

@[simp] theorem core_nextVerify (s : State) (l : List VerifyRequest) (j : Nat) :
    core ((s.nextVerify l).ctx j) = core (s.ctx j) := by
  unfold State.nextVerify
  split
  · rfl
  · simp

@[simp] theorem core_foldAbort (b : Bool) (l : List VerifyRequest) (s : State) (j : Nat) :
    core ((l.foldl (State.abortQueued b) s).ctx j) = core (s.ctx j) := by
  induction l generalizing s with
  | nil => rfl
  | cons r l ih => rw [List.foldl_cons, ih]; simp [State.abortQueued]

@[simp] theorem verifyQueue_ctx (s : State) (l : List VerifyRequest) (j : Nat) :
    State.ctx { s with verify := l } j = s.ctx j := rfl

@[simp] theorem core_abortVerify (s : State) (i : Nat) (b : Bool) (j : Nat) :
    core ((s.abortVerify i b).ctx j) = core (s.ctx j) := by
  unfold State.abortVerify
  split
  · rfl
  · dsimp only
    split
    · simp
    · split
      · exact core_foldAbort ..
      · split
        · exact (core_setVerify ..).trans (core_foldAbort ..)
        · simp

@[simp] theorem core_halfTest (s : State) (i n j : Nat) : core ((s.halfTest i n).ctx j) = core (s.ctx j) := by
  unfold State.halfTest
  dsimp only
  split
  · rw [core_notifyMasked, core_modCtx s i j fun c => core_setArea c n _]
  · rfl

@[simp] theorem core_cutHalfTest (s : State) (i p j : Nat) : core ((s.cutHalfTest i p).ctx j) = core (s.ctx j) := by
  unfold State.cutHalfTest
  split
  · split <;> simp
  · rfl

@[simp] theorem core_trimAreas (s : State) (i j : Nat) : core ((s.trimAreas i).ctx j) = core (s.ctx j) := by
  unfold State.trimAreas
  simp only [core_cutHalfTest, rejudgeCtx_ctx]
  exact core_modCtx s i j (by intro; rfl)

theorem core_gains (pieces : List Piece) (l : List Nat) (c : Ctx) :
    core (l.foldl (fun c n => c.gain pieces n) c) = core c := by
  induction l generalizing c with
  | nil => rfl
  | cons n l ih => rw [List.foldl_cons, ih]; simp [Ctx.gain]

theorem core_foldHalf (i : Nat) (l : List Nat) (s : State) (j : Nat) :
    core ((l.foldl (fun s n => s.halfTest i n) s).ctx j) = core (s.ctx j) := by
  induction l generalizing s with
  | nil => rfl
  | cons n l ih => rw [List.foldl_cons, ih, core_halfTest]

@[simp] theorem core_takePieces (s : State) (i : Nat) (pieces : List Piece) (j : Nat) :
    core ((s.takePieces i pieces).ctx j) = core (s.ctx j) := by
  have gained := core_modCtx s i j fun c => core_gains pieces (windowsOf pieces) c
  unfold State.takePieces
  dsimp only
  split
  · rw [core_foldHalf, gained]
  · exact gained

@[simp] theorem core_markFaulted (s : State) (i : Nat) (b : Job) (j : Nat) :
    core ((s.markFaulted i b).ctx j) = core (s.ctx j) := by
  refine core_modCtx s i j fun c => ?_
  generalize b.writes.filter (fun w => w.progress == .fault) = l
  induction l generalizing c with
  | nil => rfl
  | cons w l ih => rw [List.foldl_cons, ih, core_setArea]

/-! ## Operations that keep every record's face -/

theorem face_modCtx (s : State) (i j : Nat) {f : Ctx → Ctx} (hf : ∀ c, face (f c) = face c) :
    face ((s.modCtx i f).ctx j) = face (s.ctx j) := by
  rw [ctx_modCtx]
  split
  · next h => rw [h, hf]
  · rfl

theorem face_of_set {s t : State} {i : Nat} {c : Ctx} (h : t.contexts = Table.set Ctx.free s.contexts i c)
    (hc : face c = face (s.ctx i)) (j : Nat) : face (t.ctx j) = face (s.ctx j) := by
  rw [ctx_of_set h]
  split
  · next e => rw [e, hc]
  · rfl

@[simp] theorem face_notify (s : State) (i j : Nat) (k : OwedKind) (n : Notice) :
    face ((s.notify i k n).ctx j) = face (s.ctx j) := face_of_core (core_notify ..)

@[simp] theorem face_notifyMasked (s : State) (i j : Nat) (h : NoticeMask → Bool) (k : OwedKind) (n : Notice) :
    face ((s.notifyMasked i h k n).ctx j) = face (s.ctx j) := face_of_core (core_notifyMasked ..)

@[simp] theorem face_memberDone (s : State) (i j : Nat) : face ((s.memberDone i).ctx j) = face (s.ctx j) :=
  face_of_core (core_memberDone ..)

@[simp] theorem face_memberFailed (s : State) (i j : Nat) (c : FailCause) :
    face ((s.memberFailed i c).ctx j) = face (s.ctx j) := face_of_core (core_memberFailed ..)

@[simp] theorem face_setVerify (s : State) (i p j : Nat) (v : VerifyStatus) :
    face ((s.setVerify i p v).ctx j) = face (s.ctx j) := face_of_core (core_setVerify ..)

@[simp] theorem face_verifyOutcome (s : State) (r : VerifyRequest) (o : VerifyOutcome) (j : Nat) :
    face ((s.verifyOutcome r o).ctx j) = face (s.ctx j) := face_of_core (core_verifyOutcome ..)

@[simp] theorem face_startVerify (l : List VerifyRequest) (s : State) (j : Nat) :
    face ((startVerify l s).ctx j) = face (s.ctx j) := face_of_core (core_startVerify ..)

@[simp] theorem face_nextVerify (s : State) (l : List VerifyRequest) (j : Nat) :
    face ((s.nextVerify l).ctx j) = face (s.ctx j) := face_of_core (core_nextVerify ..)

@[simp] theorem face_abortVerify (s : State) (i : Nat) (b : Bool) (j : Nat) :
    face ((s.abortVerify i b).ctx j) = face (s.ctx j) := face_of_core (core_abortVerify ..)

@[simp] theorem face_trimAreas (s : State) (i j : Nat) : face ((s.trimAreas i).ctx j) = face (s.ctx j) :=
  face_of_core (core_trimAreas ..)

@[simp] theorem face_takePieces (s : State) (i : Nat) (pieces : List Piece) (j : Nat) :
    face ((s.takePieces i pieces).ctx j) = face (s.ctx j) := face_of_core (core_takePieces ..)

@[simp] theorem face_markFaulted (s : State) (i : Nat) (b : Job) (j : Nat) :
    face ((s.markFaulted i b).ctx j) = face (s.ctx j) := face_of_core (core_markFaulted ..)

@[simp] theorem face_release (s : State) (i : Nat) (g : Nat × StagedRecord → Bool) (j : Nat) :
    face ((s.release i g).ctx j) = face (s.ctx j) := face_of_set rfl (by rfl) j

@[simp] theorem face_releaseUnwritten (s : State) (i j : Nat) : face ((s.releaseUnwritten i).ctx j) = face (s.ctx j) :=
  face_release ..

@[simp] theorem face_releaseRecord (s : State) (i r j : Nat) : face ((s.releaseRecord i r).ctx j) = face (s.ctx j) :=
  face_release ..

@[simp] theorem face_stage (s : State) (i o : Nat) (p : List Byte) (l : List Piece) (j : Nat) :
    face ((s.stage i o p l).ctx j) = face (s.ctx j) := face_of_set rfl (by rfl) j

@[simp] theorem face_implyTotal (s : State) (i : Nat) (g : DataSegment) (j : Nat) :
    face ((s.implyTotal i g).ctx j) = face (s.ctx j) := by
  unfold State.implyTotal
  split
  · rw [face_trimAreas, face_modCtx s i j (by intro; rfl)]
  · rfl

@[simp] theorem face_retireWindow (s : State) (i n j : Nat) : face ((s.retireWindow i n).ctx j) = face (s.ctx j) := by
  unfold State.retireWindow
  rw [face_notify]
  exact face_modCtx s i j fun c => by simp [face]

@[simp] theorem face_joinGroup (s : State) (i g : Nat) (h : Bool) (j : Nat) :
    face ((s.joinGroup i g h).ctx j) = face (s.ctx j) :=
  face_of_set rfl (by rfl) j

@[simp] theorem face_leaveGroup (s : State) (i j : Nat) : face ((s.leaveGroup i).ctx j) = face (s.ctx j) := by
  unfold State.leaveGroup
  split
  · rfl
  · dsimp only [rejudgeHolds_ctx]
    rw [face_of_core (core_groupDoneTest ..), face_modCtx _ i j (by intro; rfl), setGroup_ctx]

@[simp] theorem face_lowerCounts (s : State) (i : Nat) (older : Bool) (j : Nat) :
    face ((s.lowerCounts i older).ctx j) = face (s.ctx j) :=
  face_of_set rfl (by cases older <;> rfl) j

@[simp] theorem face_clearFence (s : State) (i : Nat) (older : Bool) (j : Nat) :
    face ((s.clearFence i older).ctx j) = face (s.ctx j) := by
  unfold State.clearFence
  split
  · rw [rejudgeCtx_ctx, face_modCtx s i j (by intro; rfl)]
  · rfl

/-- A millisecond without a command changes of a record its timer only (R138; log 2). -/
theorem ctx_tick (s : State) (j : Nat) : s.tick.ctx j = { s.ctx j with timer := (s.ctx j).timer.tick } := by
  unfold State.ctx State.tick Table.get
  rw [lookup_mapEntries _ (by intro; rfl)]
  unfold Table.lookup
  cases s.contexts.find? fun e => e.1 == j <;> rfl

@[simp] theorem face_tick (s : State) (j : Nat) : face (s.tick.ctx j) = face (s.ctx j) := by rw [ctx_tick]; rfl

end Sys2Proof.Contexts
end

section
/-! Which state each operation can bring a context to, and that no other context follows: the ground of R5's table. -/

namespace Sys2Proof.Contexts

open Sys2Proof Sys2Proof.Machine Sys2Proof.Laws

/-- Between two states record `i` took a face, and no other record's face changed. -/
def Turns (s t : State) (i : Nat) (f : Face) : Prop :=
  ∀ j, face (t.ctx j) = if j = i then f else face (s.ctx j)

section
variable {s t u : State} {i j : Nat} {f g : Face}

theorem Turns.self (h : Turns s t i f) : face (t.ctx i) = f := by rw [h i, if_pos rfl]

theorem Turns.other (h : Turns s t i f) (hj : j ≠ i) : face (t.ctx j) = face (s.ctx j) := by rw [h j, if_neg hj]

theorem turns_of_faces (h : ∀ j, face (t.ctx j) = face (s.ctx j)) (i : Nat) : Turns s t i (face (s.ctx i)) := by
  intro j
  rw [h j]
  split
  · next e => rw [e]
  · rfl

theorem turns_of_set {c : Ctx} (h : t.contexts = Table.set Ctx.free s.contexts i c) : Turns s t i (face c) := by
  intro j
  rw [ctx_of_set h]
  split <;> rfl

theorem Turns.trans (h : Turns s t i f) (k : Turns t u i g) : Turns s u i g := by
  intro j
  rw [k j]
  split
  · rfl
  · next e => exact h.other e

theorem Turns.then_faces (h : Turns s t i f) (k : ∀ j, face (u.ctx j) = face (t.ctx j)) : Turns s u i f := by
  intro j
  rw [k j, h j]

theorem Turns.after_faces (h : ∀ j, face (t.ctx j) = face (s.ctx j)) (k : Turns t u i f) : Turns s u i f :=
  (turns_of_faces h i).trans k

theorem Turns.state (h : Turns s t i f) : (t.ctx i).state = f.state := congrArg Face.state h.self

end

/-- A write that brings record `i` to a state, from a state in which every face is still as it was. -/
theorem turns_modCtx {s t : State} (i : Nat) {f : Ctx → Ctx} {st : CtxState}
    (before : ∀ j, face (t.ctx j) = face (s.ctx j)) (enters : ∀ c, face (f c) = (face c).enter st) :
    Turns s (t.modCtx i f) i ((face (s.ctx i)).enter st) := by
  rw [← before i, ← enters]
  exact Turns.after_faces before (turns_of_set rfl)

/-- The same, with what keeps every face after the write. -/
theorem turns_through {s t u : State} {i : Nat} {f : Ctx → Ctx} {st : CtxState}
    (after : ∀ j, face (u.ctx j) = face ((t.modCtx i f).ctx j)) (before : ∀ j, face (t.ctx j) = face (s.ctx j))
    (enters : ∀ c, face (f c) = (face c).enter st) : Turns s u i ((face (s.ctx i)).enter st) :=
  (turns_modCtx i before enters).then_faces after

/-! ## Steps from state to state -/

/-- ACTIVE or STALLED. -/
def running (a : CtxState) : Bool := a == .active || a == .stalled

theorem receiving_eq (c : Ctx) : c.receiving = running c.state := rfl

/-- Between two states context `i`, and no other, went where `may` lets it, with its key and window size select. -/
def Goes (may : CtxState → CtxState → Bool) (s t : State) (i : Nat) : Prop :=
  ∃ st, Turns s t i ((face (s.ctx i)).enter st) ∧ may (s.ctx i).state st = true

/-- Failing: from ACTIVE or STALLED to FAILED, or not at all (R143, R144). -/
def failing (a b : CtxState) : Bool := a == b || (running a && b == .failed)

/-- The completion check: from ACTIVE or STALLED to DONE or FAILED, or not at all (R22, R23). -/
def settling (a b : CtxState) : Bool := a == b || (running a && (b == .done || b == .failed))

section
variable {may may' : CtxState → CtxState → Bool} {s t u : State} {i : Nat}

theorem goes_of_faces (refl : ∀ a, may a a = true) (h : ∀ j, face (t.ctx j) = face (s.ctx j)) : Goes may s t i :=
  ⟨(s.ctx i).state, turns_of_faces h i, refl _⟩

theorem Goes.mono (h : Goes may s t i) (le : ∀ b, may (s.ctx i).state b = true → may' (s.ctx i).state b = true) :
    Goes may' s t i := by
  obtain ⟨st, turns, ok⟩ := h
  exact ⟨st, turns, le st ok⟩

theorem Turns.goes {st : CtxState} (h : Turns s t i ((face (s.ctx i)).enter st))
    (ok : may (s.ctx i).state st = true) : Goes may s t i := ⟨st, h, ok⟩

/-- A context that entered a state and went on from there. -/
theorem Turns.then_goes {st : CtxState} (h : Turns s t i ((face (s.ctx i)).enter st)) (k : Goes may t u i)
    (le : ∀ b, may st b = true → may' (s.ctx i).state b = true) : Goes may' s u i := by
  obtain ⟨b, turns, ok⟩ := k
  rw [h.state, enter_state] at ok
  rw [h.self, enter_enter] at turns
  exact ⟨b, h.trans turns, le b ok⟩

theorem Goes.trans (closed : ∀ a b c, may a b = true → may b c = true → may a c = true) (h : Goes may s t i)
    (k : Goes may t u i) : Goes may s u i := by
  obtain ⟨st, turns, ok⟩ := h
  exact turns.then_goes k fun b => closed _ _ b ok

theorem Goes.then_faces (h : Goes may s t i) (k : ∀ j, face (u.ctx j) = face (t.ctx j)) : Goes may s u i := by
  obtain ⟨st, turns, ok⟩ := h
  exact ⟨st, turns.then_faces k, ok⟩

theorem Goes.after_faces (h : ∀ j, face (t.ctx j) = face (s.ctx j)) (k : Goes may t u i) : Goes may s u i := by
  obtain ⟨st, turns, ok⟩ := k
  rw [h i] at turns
  rw [show (t.ctx i).state = (s.ctx i).state from congrArg Face.state (h i)] at ok
  exact ⟨st, turns.after_faces h, ok⟩

end

theorem failing_self (a : CtxState) : failing a a = true := by simp [failing]

theorem settling_self (a : CtxState) : settling a a = true := by simp [settling]

theorem settling_closed : ∀ a b c, settling a b = true → settling b c = true → settling a c = true := by
  intro a b c; cases a <;> cases b <;> cases c <;> decide

/-! ## Failure, completion, retirement -/

theorem fail_running (s : State) (i : Nat) (cause : FailCause) (h : running (s.ctx i).state = true) :
    Turns s (s.fail i cause) i ((face (s.ctx i)).enter .failed) := by
  unfold State.fail
  rw [receiving_eq, if_pos h]
  refine turns_through (fun j => by rw [face_memberFailed, face_notify]) (fun j => ?_) (by intro; rfl)
  rw [face_releaseUnwritten, face_modCtx _ _ _ (by intro; rfl)]

theorem fail_goes (s : State) (i : Nat) (cause : FailCause) : Goes failing s (s.fail i cause) i := by
  by_cases h : running (s.ctx i).state = true
  · exact (fail_running s i cause h).goes (by simp [failing, h])
  · have same : s.fail i cause = s := by unfold State.fail; rw [receiving_eq, if_neg h]
    rw [same]
    exact goes_of_faces failing_self fun _ => rfl

theorem completionCheck_goes (s : State) (i : Nat) : Goes settling s (s.completionCheck i) i := by
  unfold State.completionCheck
  dsimp only
  split
  · split
    · next h =>
      have run : running (s.ctx i).state = true := (Bool.and_eq_true_iff.1 h).1
      split
      · refine Turns.goes (st := .done) ?_ (by simp [settling, run])
        exact turns_through (fun j => by rw [face_memberDone, face_notify]) (fun _ => rfl) (by intro; rfl)
      · exact (fail_goes s i _).mono fun b hb => by
          revert hb; cases (s.ctx i).state <;> cases b <;> decide
    · exact goes_of_faces settling_self fun _ => rfl
  · exact goes_of_faces settling_self fun _ => rfl
  · exact goes_of_faces settling_self fun _ => rfl

theorem evaluateOnce_goes (s : State) (i : Nat) : Goes settling s (s.evaluateOnce i) i := by
  unfold State.evaluateOnce
  dsimp only
  split
  · split
    · exact (completionCheck_goes _ i).after_faces fun j => face_retireWindow ..
    · exact goes_of_faces settling_self fun j => face_retireWindow ..
  · exact goes_of_faces settling_self fun _ => rfl

theorem evaluateRetirement_goes (s : State) (i : Nat) : Goes settling s (s.evaluateRetirement i) i :=
  (evaluateOnce_goes s i).trans settling_closed (evaluateOnce_goes _ i)

/-! ## Return to ACTIVE -/

theorem revive_turns (s : State) (i : Nat) : Turns s (s.revive i) i ((face (s.ctx i)).enter .active) := by
  unfold State.revive
  dsimp only
  split
  · exact turns_through (fun j => face_notifyMasked ..) (fun _ => rfl) (by intro; rfl)
  · exact turns_modCtx i (fun _ => rfl) (by intro; rfl)

theorem restart_turns (s : State) (i : Nat) : Turns s (s.restart i) i ((face (s.ctx i)).enter .active) := by
  have before : ∀ j, face
      (((((s.releaseUnwritten i).markOlder i).modCtx i Ctx.restarted).abortVerify i false).ctx j) = face (s.ctx j) := by
    intro j
    rw [face_abortVerify, face_modCtx _ i j (by intro; rfl), markOlder_ctx, face_releaseUnwritten]
  unfold State.restart
  dsimp only
  generalize State.abortVerify _ i false = t at before ⊢
  split
  · exact turns_through (fun j => by rw [memberRecovered_ctx, face_notifyMasked, rejudgeCtx_ctx]) before (by intro; rfl)
  · exact turns_through (fun j => by rw [face_notifyMasked, rejudgeCtx_ctx]) before (by intro; rfl)

/-- Everything the signal stage can do to a context's state (R34, R135, R136): nothing, or the restart. -/
theorem signalStage_cases (s : State) (i : Nat) (level : Bool) :
    ((s.signalStage i level).2 = false ∧ ∀ j, face ((s.signalStage i level).1.ctx j) = face (s.ctx j)) ∨
      ((s.signalStage i level).2 = true ∧
        ∃ v : State, (s.signalStage i level).1 = v.restart i ∧ ∀ j, face (v.ctx j) = face (s.ctx j)) := by
  have recorded : ∀ j, face ((s.modCtx i fun c => { c with signal := level }).ctx j) = face (s.ctx j) := fun j =>
    face_modCtx s i j (by intro; rfl)
  unfold State.signalStage
  dsimp only
  split
  · exact .inl ⟨rfl, fun _ => rfl⟩
  · split
    · have told : ∀ j, face ((if s.actions.notify = true then
          (s.modCtx i fun c => { c with signal := level }).notifyMasked i NoticeMask.senderSignal .senderSignal
            (.senderSignal i)
          else s.modCtx i fun c => { c with signal := level }).ctx j) = face (s.ctx j) := by
        intro j
        split
        · rw [face_notifyMasked, recorded]
        · exact recorded j
      split
      · exact .inr ⟨rfl, _, rfl, fun j => told j⟩
      · exact .inl ⟨rfl, fun j => told j⟩
    · exact .inl ⟨rfl, fun j => recorded j⟩

end Sys2Proof.Contexts
end

section
/-! What a segment can make of the contexts' states (chapters 2 and 8). -/

namespace Sys2Proof.Contexts

open Sys2Proof Sys2Proof.Machine Sys2Proof.Laws

/-- What a DATA segment can do to a context that is ACTIVE or STALLED (R39, R42, R142). -/
def taking (a b : CtxState) : Bool := a == b || (running a && (b == .active || b == .failed))

/-- What a MANIFEST can do to one: it may also complete it (R43). -/
def recording (a b : CtxState) : Bool := a == b || (running a && (b == .active || b == .failed || b == .done))

theorem taking_self (a : CtxState) : taking a a = true := by simp [taking]

theorem taking_of_failing (a : CtxState) : ∀ b, failing a b = true → taking a b = true := by
  intro b; cases a <;> cases b <;> decide

theorem recording_of_taking (a : CtxState) : ∀ b, taking a b = true → recording a b = true := by
  intro b; cases a <;> cases b <;> decide

/-- From ACTIVE the completion check goes where a MANIFEST may bring a running context. -/
theorem recording_of_settling {a : CtxState} (h : running a = true) :
    ∀ b, settling .active b = true → recording a b = true := by
  intro b; revert h; cases a <;> cases b <;> decide

/-- What goes on from ACTIVE is what a running context may do. -/
theorem taking_of_active {a : CtxState} (h : running a = true) :
    ∀ b, taking .active b = true → taking a b = true := by
  intro b; revert h; cases a <;> cases b <;> decide

theorem recording_of_active {a : CtxState} (h : running a = true) :
    ∀ b, recording .active b = true → recording a b = true := by
  intro b; revert h; cases a <;> cases b <;> decide

theorem revive_goes (s : State) (i : Nat) (h : running (s.ctx i).state = true) : Goes taking s (s.revive i) i :=
  (revive_turns s i).goes (by simp [taking, h])

@[simp] theorem countUnmatched_ctx (s : State) (link : BitVec 2) (key : Key) (j : Nat) :
    (s.countUnmatched link key).ctx j = s.ctx j := by
  unfold State.countUnmatched
  dsimp only
  split
  · exact pushOrDrop_ctx _ _ j
  · rfl

/-! ## DATA -/

theorem commit_goes (s : State) (i : Nat) (g : DataSegment) (h : running (s.ctx i).state = true) :
    Goes taking s (s.commit i g) i := by
  have committed : ∀ pieces ranges j,
      face (((((s.modCtx i fun c => c.received ranges pieces).implyTotal i g).stage i (DataSegment.start g) g.payload
        pieces).ctx j)) = face (s.ctx j) := by
    intro pieces ranges j
    rw [face_stage, face_implyTotal, face_modCtx _ _ _ (by intro; rfl)]
  unfold State.commit
  refine Goes.after_faces (committed _ _) (revive_goes _ i ?_)
  rw [← face_state, committed, face_state, h]

theorem trimStage_goes (s : State) (i : Nat) (g : DataSegment) (h : running (s.ctx i).state = true) :
    Goes taking s (s.trimStage i g).state i := by
  unfold State.trimStage State.answer
  dsimp only
  split
  · exact revive_goes s i h
  · split
    · exact goes_of_faces taking_self fun _ => rfl
    · split
      · exact goes_of_faces taking_self fun _ => rfl
      · exact commit_goes s i g h

theorem rangeStage_goes (s : State) (i : Nat) (g : DataSegment) (h : running (s.ctx i).state = true) :
    Goes taking s (s.rangeStage i g).state i := by
  unfold State.rangeStage
  split
  · exact (fail_goes s i _).mono (taking_of_failing _)
  · exact goes_of_faces taking_self fun _ => rfl
  · exact trimStage_goes s i g h

theorem countDamaged_goes (s : State) (i : Nat) : Goes failing s (s.countDamaged i) i := by
  have counted : ∀ j, face ((s.modCtx i fun c => { c with damaged := min 255 (c.damaged + 1) }).ctx j) = face (s.ctx j) :=
    fun j => face_modCtx s i j (by intro; rfl)
  unfold State.countDamaged
  dsimp only
  split
  · exact (fail_goes _ i _).after_faces counted
  · exact goes_of_faces failing_self counted

/-- The stages behind the signal stage, for a context that is ACTIVE or STALLED before it: a restart leaves it ACTIVE. -/
theorem signalled_goes {may : CtxState → CtxState → Bool} (s : State) (i : Nat) (level : Bool) (f : State → State)
    (stages : ∀ v : State, running (v.ctx i).state = true → Goes may v (f v) i)
    (active : ∀ b, may .active b = true → may (s.ctx i).state b = true) (h : running (s.ctx i).state = true) :
    Goes may s (f (s.signalStage i level).1) i := by
  rcases signalStage_cases s i level with ⟨_, same⟩ | ⟨_, v, restarted, same⟩
  · refine Goes.after_faces same (stages _ ?_)
    rw [← face_state, same, face_state, h]
  · rw [restarted]
    refine Goes.after_faces same ((restart_turns v i).then_goes (stages _ ?_) ?_)
    · rw [(restart_turns v i).state]; rfl
    · rw [show (v.ctx i).state = (s.ctx i).state from congrArg Face.state (same i)]
      exact active

theorem dataStages_goes (s : State) (i : Nat) (g : DataSegment) (p : Presented DataSegment) :
    Goes (transitionAllowed (.data p)) s (s.dataStages i g).state i := by
  have le : ∀ a b, taking a b = true → transitionAllowed (.data p) a b = true := by
    intro a b; cases a <;> cases b <;> simp [taking, running, transitionAllowed]
  have stays : ∀ t : State, (∀ j, face (t.ctx j) = face (s.ctx j)) → Goes (transitionAllowed (.data p)) s t i :=
    fun t same => goes_of_faces (fun a => by simp [transitionAllowed]) same
  have open_ : running (s.ctx i).state = true → Goes (transitionAllowed (.data p)) s
      (if DataSegment.tallyMatches g then (s.signalStage i g.signal).1.rangeStage i g
        else (s.countDamaged i).answer i .damaged).state i := by
    intro run
    split
    · exact (signalled_goes s i g.signal (fun v => (v.rangeStage i g).state) (fun v => rangeStage_goes v i g)
        (taking_of_active run) run).mono (le _)
    · exact (countDamaged_goes s i).mono fun b hb => le _ b (taking_of_failing _ b hb)
  unfold State.dataStages
  dsimp only
  split
  · next h => exact open_ (by rw [h]; rfl)
  · next h => exact open_ (by rw [h]; rfl)
  · split
    · exact stays _ fun j => face_modCtx s i j (by intro; rfl)
    · exact stays _ fun _ => rfl
  · next h =>
    split
    · rcases signalStage_cases s i g.signal with ⟨no, same⟩ | ⟨yes, v, restarted, same⟩
      · rw [no]
        exact stays _ same
      · rw [yes, restarted]
        refine Goes.after_faces same ((restart_turns v i).then_goes (rangeStage_goes _ i g ?_) ?_)
        · rw [(restart_turns v i).state]; rfl
        · rw [show (v.ctx i).state = .failed from (congrArg Face.state (same i)).trans h]
          intro b; cases b <;> simp [taking, running, transitionAllowed]
    · exact stays _ fun _ => rfl
  · exact stays _ fun j => by rw [State.answer0, countUnmatched_ctx]
  · exact stays _ fun j => by rw [State.answer0, countUnmatched_ctx]

theorem takeData_goes (s : State) (g : DataSegment) (p : Presented DataSegment) :
    ∃ i, Goes (transitionAllowed (.data p)) s (s.takeData g).state i := by
  have stays : ∀ t : State, (∀ j, t.ctx j = s.ctx j) → ∃ i, Goes (transitionAllowed (.data p)) s t i := fun t same =>
    ⟨0, goes_of_faces (fun a => by simp [transitionAllowed]) fun j => by rw [same]⟩
  unfold State.takeData
  split
  · exact stays _ fun _ => rfl
  · split
    · exact stays _ fun _ => rfl
    · split
      · exact stays _ fun j => by rw [State.answer0, countUnmatched_ctx]
      · exact ⟨_, dataStages_goes s _ g p⟩

/-! ## MANIFEST -/

theorem evaluateOnce_of_empty (s : State) (i : Nat) (h : (s.ctx i).extents = []) : s.evaluateOnce i = s := by
  unfold State.evaluateOnce State.retirable
  simp [h, firstCovers]

theorem evaluateRetirement_of_empty (s : State) (i : Nat) (h : (s.ctx i).extents = []) : s.evaluateRetirement i = s := by
  unfold State.evaluateRetirement
  rw [evaluateOnce_of_empty s i h, evaluateOnce_of_empty s i h]

theorem completionCheck_of_short (s : State) (i : Nat)
    (h : ∀ n d, (s.ctx i).total = .manifest n d → (s.ctx i).retired ≠ n) : s.completionCheck i = s := by
  unfold State.completionCheck
  dsimp only
  split
  · next n d e => rw [if_neg]; simp [h n d e]
  · rfl
  · rfl

/-- What a revival changes of the record itself but for its areas and what it is owed (R139, R142). -/
theorem core_revive (s : State) (i : Nat) : core ((s.revive i).ctx i) =
    { core (s.ctx i) with state := .active, timer := fullStall (s.ctx i).stallSelect, damaged := 0 } := by
  unfold State.revive
  dsimp only
  split
  · rw [core_notifyMasked, ctx_modCtx_same]; rfl
  · rw [ctx_modCtx_same]; rfl

/-- The recording of a MANIFEST makes the context ACTIVE; the completion check follows (R43). -/
theorem recordManifest_cases (s : State) (i : Nat) (g : ManifestSegment) : ∃ u : State,
    Turns s u i ((face (s.ctx i)).enter .active) ∧
      s.recordManifest i g = (u.evaluateRetirement i).completionCheck i ∧
      (u.ctx i).retired = (s.ctx i).retired ∧ (u.ctx i).extents = (s.ctx i).extents ∧
      (u.ctx i).total = .manifest g.total.toNat (ManifestSegment.expected g) := by
  let r := s.modCtx i fun c => { c with total := .manifest g.total.toNat (ManifestSegment.expected g) }
  have recorded : ∀ j, face (r.ctx j) = face (s.ctx j) := fun j => face_modCtx s i j (by intro; rfl)
  have turned : Turns s (r.revive i) i ((face (s.ctx i)).enter .active) := by
    rw [← recorded i]
    exact (revive_turns r i).after_faces recorded
  have revived : core ((r.revive i).ctx i) =
      { core (s.ctx i) with
        total := .manifest g.total.toNat (ManifestSegment.expected g), state := .active,
        timer := fullStall (s.ctx i).stallSelect, damaged := 0 } := by
    rw [core_revive, ctx_modCtx_same]; rfl
  let u := if (s.ctx i).totalBytes.isNone then (r.revive i).trimAreas i else r.revive i
  have kept : ∀ j, core (u.ctx j) = core ((r.revive i).ctx j) := by
    intro j
    show core ((if _ then _ else _ : State).ctx j) = _
    split
    · rw [core_trimAreas]
    · rfl
  have field := (kept i).trans revived
  refine ⟨u, turned.then_faces fun j => face_of_core (kept j), rfl, ?_, ?_, ?_⟩
  · exact (congrArg Ctx.retired field :)
  · exact (congrArg Ctx.extents field :)
  · exact (congrArg Ctx.total field :)

theorem recordManifest_goes (s : State) (i : Nat) (g : ManifestSegment) (h : running (s.ctx i).state = true) :
    Goes recording s (s.recordManifest i g) i := by
  obtain ⟨u, turned, eq, _⟩ := recordManifest_cases s i g
  rw [eq]
  exact turned.then_goes ((evaluateRetirement_goes u i).trans settling_closed (completionCheck_goes _ i))
    (recording_of_settling h)

/-- Right after a restart nothing can retire and nothing can complete. -/
theorem recordManifest_fresh (s : State) (i : Nat) (g : ManifestSegment) (hr : (s.ctx i).retired = 0)
    (hx : (s.ctx i).extents = []) (hg : 1 ≤ g.total.toNat) :
    Turns s (s.recordManifest i g) i ((face (s.ctx i)).enter .active) := by
  obtain ⟨u, turned, eq, retired, extents, total⟩ := recordManifest_cases s i g
  rw [eq, evaluateRetirement_of_empty u i (extents.trans hx), completionCheck_of_short]
  · exact turned
  · intro n d e
    rw [total] at e
    injection e with e _
    omega

theorem manifestStage_goes (s : State) (i : Nat) (g : ManifestSegment) (h : running (s.ctx i).state = true) :
    Goes recording s (s.manifestStage i g).state i := by
  unfold State.manifestStage
  split
  · exact (revive_goes s i h).mono (recording_of_taking _)
  · exact recordManifest_goes s i g h
  · exact (fail_goes s i _).mono fun b hb => recording_of_taking _ b (taking_of_failing _ b hb)

theorem manifestStage_fresh (s : State) (i : Nat) (g : ManifestSegment) (h : running (s.ctx i).state = true)
    (hr : (s.ctx i).retired = 0) (hx : (s.ctx i).extents = []) (hg : 1 ≤ g.total.toNat) :
    Goes taking s (s.manifestStage i g).state i := by
  unfold State.manifestStage
  split
  · exact revive_goes s i h
  · exact (recordManifest_fresh s i g hr hx hg).goes (by simp [taking, h])
  · exact (fail_goes s i _).mono (taking_of_failing _)

/-- A restart's record but for its areas and what it is owed (R146). -/
theorem core_restart (s : State) (i : Nat) : ∃ c : Ctx, core c = core ((s.releaseUnwritten i).ctx i).restarted ∧
    core ((s.restart i).ctx i) = { core c with state := .active, timer := fullStall c.stallSelect } := by
  have before := core_abortVerify (((s.releaseUnwritten i).markOlder i).modCtx i Ctx.restarted) i false i
  rw [ctx_modCtx_same, markOlder_ctx] at before
  refine ⟨_, before, ?_⟩
  unfold State.restart
  dsimp only
  split
  · rw [memberRecovered_ctx, core_notifyMasked, rejudgeCtx_ctx, ctx_modCtx_same]; rfl
  · rw [core_notifyMasked, rejudgeCtx_ctx, ctx_modCtx_same]; rfl

/-- A restarted context has received nothing (R146). -/
theorem restart_fresh (s : State) (i : Nat) :
    ((s.restart i).ctx i).retired = 0 ∧ ((s.restart i).ctx i).extents = [] := by
  obtain ⟨c, before, after⟩ := core_restart s i
  exact ⟨(congrArg Ctx.retired after :).trans (congrArg Ctx.retired before :),
    (congrArg Ctx.extents after :).trans (congrArg Ctx.extents before :)⟩

theorem manifestStages_goes (s : State) (i : Nat) (g : ManifestSegment) (p : Presented ManifestSegment)
    (hg : 1 ≤ g.total.toNat) : Goes (transitionAllowed (.manifest p)) s (s.manifestStages i g).state i := by
  have stays : ∀ t : State, (∀ j, face (t.ctx j) = face (s.ctx j)) → Goes (transitionAllowed (.manifest p)) s t i :=
    fun t same => goes_of_faces (fun a => by simp [transitionAllowed]) same
  have open_ : running (s.ctx i).state = true →
      Goes (transitionAllowed (.manifest p)) s ((s.signalStage i g.signal).1.manifestStage i g).state i := by
    intro run
    refine (signalled_goes s i g.signal (fun v => (v.manifestStage i g).state) (fun v => manifestStage_goes v i g)
      (recording_of_active run) run).mono fun b => ?_
    cases (s.ctx i).state <;> cases b <;> simp [recording, running, transitionAllowed]
  unfold State.manifestStages
  dsimp only
  split
  · next h => exact open_ (by rw [h]; rfl)
  · next h => exact open_ (by rw [h]; rfl)
  · next h =>
    rcases signalStage_cases s i g.signal with ⟨no, same⟩ | ⟨yes, v, restarted, same⟩
    · rw [no]
      exact stays _ same
    · rw [yes, restarted]
      obtain ⟨hr, hx⟩ := restart_fresh v i
      refine Goes.after_faces same ((restart_turns v i).then_goes (manifestStage_fresh _ i g ?_ hr hx hg) ?_)
      · rw [(restart_turns v i).state]; rfl
      · rw [show (v.ctx i).state = .failed from (congrArg Face.state (same i)).trans h]
        intro b; cases b <;> simp [taking, running, transitionAllowed]
  · exact stays _ fun _ => rfl
  · exact stays _ fun j => by rw [State.answer0, countUnmatched_ctx]
  · exact stays _ fun j => by rw [State.answer0, countUnmatched_ctx]

theorem takeManifest_goes (s : State) (g : ManifestSegment) (p : Presented ManifestSegment) :
    ∃ i, Goes (transitionAllowed (.manifest p)) s (s.takeManifest g).state i := by
  have stays : ∀ t : State, (∀ j, t.ctx j = s.ctx j) → ∃ i, Goes (transitionAllowed (.manifest p)) s t i :=
    fun t same => ⟨0, goes_of_faces (fun a => by simp [transitionAllowed]) fun j => by rw [same]⟩
  unfold State.takeManifest
  split
  · exact stays _ fun _ => rfl
  · split
    · exact stays _ fun _ => rfl
    · next shaped =>
      split
      · exact stays _ fun j => by rw [State.answer0, countUnmatched_ctx]
      · refine ⟨_, manifestStages_goes s _ g p ?_⟩
        simp only [ManifestSegment.wellShaped, Bool.not_eq_true', Bool.not_eq_false, Bool.and_eq_true,
          decide_eq_true_eq] at shaped
        exact shaped.1.1.1.1

/-! ## ABANDON, and a segment of any kind -/

theorem takeAbandon_goes (s : State) (g : AbandonSegment) (p : Presented AbandonSegment) :
    ∃ i, Goes (transitionAllowed (.abandon p)) s (s.takeAbandon g).state i := by
  have stays : ∀ t : State, (∀ j, t.ctx j = s.ctx j) → ∃ i, Goes (transitionAllowed (.abandon p)) s t i :=
    fun t same => ⟨0, goes_of_faces (fun a => by simp [transitionAllowed]) fun j => by rw [same]⟩
  have fails : ∀ i, Goes (transitionAllowed (.abandon p)) s (s.fail i .abandoned) i := fun i =>
    (fail_goes s i .abandoned).mono fun b => by
      cases (s.ctx i).state <;> cases b <;> simp [failing, running, transitionAllowed]
  unfold State.takeAbandon State.abandonStages
  split
  · exact stays _ fun _ => rfl
  · split
    · exact stays _ fun _ => rfl
    · split
      · exact stays _ fun j => by rw [State.answer0, countUnmatched_ctx]
      · next i _ =>
        split
        · exact ⟨i, fails i⟩
        · exact ⟨i, fails i⟩
        · exact stays _ fun _ => rfl
        · exact stays _ fun _ => rfl
        · exact stays _ fun j => by rw [State.answer0, countUnmatched_ctx]
        · exact stays _ fun j => by rw [State.answer0, countUnmatched_ctx]

/-- Everything a segment taken whole can do to the contexts' states: what R5 lists for its kind. -/
theorem takeSegment_goes (s : State) (seg : Segment) (arrival : Arrival) :
    ∃ i, Goes (transitionAllowed (seg.presented arrival)) s (s.takeSegment seg) i := by
  cases seg with
  | data g => exact takeData_goes s g ⟨g, arrival⟩
  | manifest g => exact takeManifest_goes s g ⟨g, arrival⟩
  | abandon g => exact takeAbandon_goes s g ⟨g, arrival⟩
  | unknownKind g => exact ⟨0, goes_of_faces (fun a => by simp [transitionAllowed]) fun _ => rfl⟩

theorem arrive_goes (s : State) (seg : Segment) (arrival : Arrival) :
    ∃ i, Goes (transitionAllowed (seg.presented arrival)) s (s.arrive seg arrival) i := by
  have refl : ∀ a, transitionAllowed (seg.presented arrival) a a = true := fun a => by simp [transitionAllowed]
  rcases arrive_cases s seg arrival with ⟨eq, _⟩ | ⟨eq, _⟩ | ⟨eq, _⟩ <;> rw [eq]
  · exact ⟨0, goes_of_faces refl fun _ => rfl⟩
  · exact takeSegment_goes s seg arrival
  · exact ⟨0, goes_of_faces refl fun _ => rfl⟩

end Sys2Proof.Contexts
end

section
/-! What a host command can do as a whole, and what OPEN, CLOSE and the completion of a job make of a context's state. -/

namespace Sys2Proof.Contexts

open Sys2Proof Sys2Proof.Machine Sys2Proof.Laws

/-! ## The shape of a host command -/

section
variable {α : Type} {P : State → Prop} {s : State}

/-- What holds of the state as it stands and of the state the action leaves, holds whether or not the part is live. -/
theorem whenLive_induct (f : State → State) (idle : P s) (acts : P (f s)) : P (s.whenLive f) := by
  unfold State.whenLive; split <;> assumption

theorem takeReply_induct (reply : Reply α) (take : α → State → State) (idle : P s) (taken : P (take reply.value s)) :
    P (s.takeReply reply take) := by
  rw [takeReply_eq]; split <;> assumption

theorem runCommand_induct (cmd : Reply α) (body : α → State → State) (idle : P s) (discarded : P s.endFetch)
    (runs : P (body cmd.value s.takeFetched)) : P (s.runCommand cmd body) := by
  rw [runCommand_eq]
  split
  · split <;> assumption
  · exact idle

theorem conclude_induct (tag : BitVec 16) (code : BitVec 8) (index : Nat) (failure : Option CmdStatus)
    (effect : State → State) (refused : ∀ status, P (s.finish tag code status index))
    (done : failure = none → P ((effect s).finish tag code .ok index)) :
    P (s.conclude tag code index failure effect) := by
  cases failure with
  | none => exact done rfl
  | some status => exact refused status

/-- A command that names a context is refused by R7, or runs on the context, which is open. -/
theorem onContext_induct (tag : BitVec 16) (code : BitVec 8) (index : BitVec 16) (body : Nat → State → State)
    (refused : ∀ status i, P (s.finish tag code status i))
    (runs : (s.ctx index.toNat).isOpen = true → P (body index.toNat s)) : P (s.onContext tag code index body) := by
  unfold State.onContext State.resolve
  split_ifs with high isOpen
  · exact refused _ _
  · exact runs isOpen
  · exact refused _ _

end

/-- The state a host command meets when it is taken has the records the fetch found. -/
@[simp] theorem takeFetched_ctx (s : State) (j : Nat) : s.takeFetched.ctx j = s.ctx j := rfl

@[simp] theorem endFetch_ctx (s : State) (j : Nat) : s.endFetch.ctx j = s.ctx j := rfl

/-! ## OPEN -/

/-- The lowest number that is not used, or none when all looked at are. -/
theorem lowestFree_one (used : Nat → Bool) (fuel n : Nat) :
    (lowestFree used fuel n 1 = [] ∧ ∀ k, n ≤ k → k < n + fuel → used k = true) ∨
      ∃ i, lowestFree used fuel n 1 = [i] ∧ n ≤ i ∧ i < n + fuel ∧ used i = false ∧
        ∀ k, n ≤ k → k < i → used k = true := by
  induction fuel generalizing n with
  | zero => exact .inl ⟨rfl, fun k _ _ => by omega⟩
  | succ fuel ih =>
    unfold lowestFree
    cases h : used n with
    | false =>
      refine .inr ⟨n, ?_, le_refl n, by omega, h, fun k _ _ => by omega⟩
      cases fuel <;> simp [lowestFree]
    | true =>
      have skip : ∀ k, n ≤ k → (n + 1 ≤ k → used k = true) → used k = true := fun k hk later => by
        rcases Nat.eq_or_lt_of_le hk with rfl | hk
        · exact h
        · exact later hk
      rcases ih (n + 1) with ⟨none, all⟩ | ⟨i, first, low, high, free, below⟩
      · exact .inl ⟨by simpa using none, fun k hk hl => skip k hk fun g => all k g (by omega)⟩
      · exact .inr ⟨i, by simpa using first, by omega, by omega, free,
          fun k hk hl => skip k hk fun g => below k g hl⟩

/-- The record OPEN takes: the lowest FREE one, or none when no record is FREE (R14). -/
theorem freeContexts_one (s : State) :
    (s.freeContexts 1 = [] ∧ ∀ k, k < Config.contextCount → (s.ctx k).state ≠ .free) ∨
      ∃ i, s.freeContexts 1 = [i] ∧ i < Config.contextCount ∧ (s.ctx i).state = .free ∧
        ∀ k, k < i → (s.ctx k).state ≠ .free := by
  rcases lowestFree_one (fun i => (s.ctx i).state != .free) Config.contextCount 0 with ⟨none, all⟩ | ⟨i, first, h⟩
  · exact .inl ⟨none, fun k hk => by simpa using all k (Nat.zero_le k) (by simpa using hk)⟩
  · obtain ⟨_, high, free, below⟩ := h
    exact .inr ⟨i, first, by simpa using high, by simpa using free, fun k hk => by simpa using below k (Nat.zero_le k) hk⟩

/-- Checks all pass exactly when each does. -/
theorem firstFailure_eq_none (l : List (Bool × CmdStatus)) : firstFailure l = none ↔ ∀ e ∈ l, e.1 = true := by
  induction l with
  | nil => simp [firstFailure]
  | cons e l ih =>
    obtain ⟨passes, status⟩ := e
    cases passes <;> simp [firstFailure, ih]

/-- The state OPEN leaves when its checks pass and record `i` is the one it takes (R14). -/
def opened (s : State) (m : OpenCommand) (i : Nat) : State :=
  ((s.insertKey (OpenCommand.key m) i).setCtx i (OpenCommand.record m)).finish m.hostTag codeOpen .ok i

/-- Everything OPEN can do: refused, or the lowest FREE record is taken; its key was not in the map, and its bucket has
room (R13, R14). -/
theorem runOpen_cases (s : State) (m : OpenCommand) :
    (∃ status, s.runOpen m = s.finish m.hostTag codeOpen status 0) ∨
      ∃ i, s.runOpen m = opened s m i ∧ i < Config.contextCount ∧ (s.ctx i).state = .free ∧
        s.lookup (OpenCommand.key m) = none ∧
        (s.bucket (bucketOf (OpenCommand.key m))).length < Config.bucketEntries := by
  unfold State.runOpen
  split
  · next status _ => exact .inl ⟨status, rfl⟩
  · next passed =>
    simp only [firstFailure_eq_none, State.openChecks, List.forall_mem_cons, decide_eq_true_eq,
      Bool.not_eq_true'] at passed
    obtain ⟨_, _, _, _, absent, room, some_, _⟩ := passed
    rcases freeContexts_one s with ⟨none, _⟩ | ⟨i, first, low, free, _⟩
    · simp [none] at some_
    · refine .inr ⟨i, ?_, low, free, Option.isNone_iff_eq_none.1 absent, room⟩
      rw [first]; rfl

theorem opened_turns (s : State) (m : OpenCommand) (i : Nat) :
    Turns s (opened s m i) i (face (OpenCommand.record m)) := turns_of_set rfl

/-! ## CLOSE -/

theorem enterFree_turns (s : State) (i : Nat) : Turns s (s.enterFree i) i (face Ctx.free) := turns_of_set rfl

theorem freeIfIdle_cases (s : State) (i : Nat) :
    (s.freeIfIdle i = s.enterFree i ∧ (s.ctx i).current + (s.ctx i).older = 0) ∨
      (s.freeIfIdle i = s ∧ (s.ctx i).current + (s.ctx i).older ≠ 0) := by
  unfold State.freeIfIdle
  split
  · next h => exact .inl ⟨rfl, h⟩
  · next h => exact .inr ⟨rfl, h⟩

/-- CLOSE's first step: the context's key leaves the map (R11, R19). -/
def keyless (s : State) (i : Nat) : State :=
  match (s.ctx i).key with
  | some k => s.removeKey k
  | none => s

/-- CLOSE up to the context's group: the key, the unwritten records and the verify requests are gone (R19, R167). -/
def unverified (s : State) (i : Nat) : State := ((keyless s i).releaseUnwritten i).abortVerify i true

/-- CLOSE up to the record's own state (R19). -/
def unlinked (s : State) (i : Nat) : State := (unverified s i).leaveGroup i

/-- The state CLOSE leaves while a job of the context is in flight (R19). -/
def closing (s : State) (i : Nat) : State :=
  (unlinked s i).modCtx i fun c => { c with state := .closing, timer := .stopped }

theorem closeCtx_eq (s : State) (i : Nat) : s.closeCtx i = (closing s i).freeIfIdle i := rfl

/-- The removal of a key changes the map only. -/
theorem keyless_frame (s : State) (i : Nat) :
    (keyless s i).intake = s.intake ∧ (keyless s i).contexts = s.contexts ∧ (keyless s i).staging = s.staging ∧
      (keyless s i).delivery = s.delivery ∧ (keyless s i).actions = s.actions ∧ (keyless s i).groups = s.groups ∧
      (keyless s i).verify = s.verify ∧ (keyless s i).notice = s.notice ∧ (keyless s i).resets = s.resets ∧
      (keyless s i).pending = s.pending := by
  unfold keyless
  split <;> simp

@[simp] theorem keyless_ctx (s : State) (i j : Nat) : (keyless s i).ctx j = s.ctx j :=
  ctx_of_contexts (keyless_frame s i).2.1 j

theorem unlinked_face (s : State) (i j : Nat) : face ((unlinked s i).ctx j) = face (s.ctx j) := by
  unfold unlinked unverified
  rw [face_leaveGroup, face_abortVerify, face_releaseUnwritten, keyless_ctx]

theorem closing_turns (s : State) (i : Nat) : Turns s (closing s i) i ((face (s.ctx i)).enter .closing) :=
  turns_modCtx i (unlinked_face s i) (by intro; rfl)

theorem closeCtx_turns (s : State) (i : Nat) :
    Turns s (s.closeCtx i) i (face Ctx.free) ∨ Turns s (s.closeCtx i) i ((face (s.ctx i)).enter .closing) := by
  rw [closeCtx_eq]
  rcases freeIfIdle_cases (closing s i) i with ⟨eq, _⟩ | ⟨eq, _⟩ <;> rw [eq]
  · exact .inl ((closing_turns s i).trans (enterFree_turns _ i))
  · exact .inr (closing_turns s i)

/-! ## Delivery -/

theorem handleFault_goes (s : State) (i : Nat) (j : Job) : Goes failing s (s.handleFault i j) i := by
  unfold State.handleFault
  dsimp only
  split
  · exact goes_of_faces failing_self fun _ => rfl
  · split
    · exact goes_of_faces failing_self fun _ => face_markFaulted ..
    · exact (fail_goes _ i _).after_faces fun _ => face_markFaulted ..

theorem handleOk_face (s : State) (i : Nat) (j : Job) (pieces : List Piece) (k : Nat) :
    face ((s.handleOk i j pieces).ctx k) = face (s.ctx k) := by
  unfold State.handleOk
  split
  · rfl
  · exact face_takePieces ..

@[simp] theorem jobs_ctx (s : State) (jobs : Table Job) (k : Nat) :
    State.ctx { s with delivery := { s.delivery with jobs := jobs } } k = s.ctx k := rfl

theorem settling_of_failing (a : CtxState) : ∀ b, failing a b = true → settling a b = true := by
  intro b; cases a <;> cases b <;> decide

/-- The completion of a job up to its outcome for the owner (R123, steps 1 and 2). -/
def outcome (s : State) (r : Nat) (j : Job) : State :=
  let pieces := match s.staged r with
    | some rec => rec.pieces
    | none => []
  if j.faulted then (s.lowerCounts j.owner j.older).handleFault j.owner j
  else (s.lowerCounts j.owner j.older).handleOk j.owner j pieces

/-- The record, the job and the fence after an outcome (R123, steps 3 to 5). -/
def cleaned (s : State) (r : Nat) (j : Job) : State :=
  let t := s.releaseRecord j.owner r
  State.clearFence { t with delivery := { t.delivery with jobs := Table.erase t.delivery.jobs r } } j.owner j.older

/-- The completion of a job up to the freeing of a CLOSING record (R123). -/
def evaluated (s : State) (r : Nat) (j : Job) : State :=
  if j.faulted || j.older then cleaned (outcome s r j) r j
  else (cleaned (outcome s r j) r j).evaluateRetirement j.owner

theorem completeJob_eq (s : State) (r : Nat) (j : Job) : s.completeJob r j =
    if ((evaluated s r j).ctx j.owner).state = .closing then (evaluated s r j).freeIfIdle j.owner
    else evaluated s r j := rfl

@[simp] theorem cleaned_face (s : State) (r : Nat) (j : Job) (k : Nat) :
    face ((cleaned s r j).ctx k) = face (s.ctx k) := by
  unfold cleaned
  dsimp only
  rw [face_clearFence, jobs_ctx, face_releaseRecord]

/-- A FAULT completion may fail the context, and what retires after an OK one may complete it. -/
theorem evaluated_goes (s : State) (r : Nat) (j : Job) :
    Goes settling s (evaluated s r j) j.owner ∧ (j.faulted = true → Goes failing s (evaluated s r j) j.owner) := by
  have lowered := fun k => face_lowerCounts s j.owner j.older k
  cases hf : j.faulted with
  | true =>
    have failed : Goes failing s (outcome s r j) j.owner := by
      unfold outcome
      rw [if_pos hf]
      exact (handleFault_goes _ j.owner j).after_faces lowered
    have ends : Goes failing s (evaluated s r j) j.owner := by
      unfold evaluated
      rw [if_pos (by simp [hf])]
      exact failed.then_faces fun k => cleaned_face ..
    exact ⟨ends.mono (settling_of_failing _), fun _ => ends⟩
  | false =>
    refine ⟨?_, fun h => by cases h⟩
    have kept : ∀ k, face ((cleaned (outcome s r j) r j).ctx k) = face (s.ctx k) := by
      intro k
      unfold outcome
      rw [cleaned_face, if_neg (by simp [hf])]
      exact (handleOk_face ..).trans (lowered k)
    unfold evaluated
    split
    · exact goes_of_faces settling_self kept
    · exact (evaluateRetirement_goes _ j.owner).after_faces kept

/-- What the completion of a job can do to its owner: go where the completion check lets it, or from CLOSING to FREE. -/
def JobTurns (s t : State) (faulted : Bool) : Prop :=
  ∃ i, Goes settling s t i ∧ (faulted = true → Goes failing s t i) ∨
    (s.ctx i).state = .closing ∧ Turns s t i (face Ctx.free)

theorem completeJob_turns (s : State) (r : Nat) (j : Job) : JobTurns s (s.completeJob r j) j.faulted := by
  obtain ⟨goes, fails⟩ := evaluated_goes s r j
  refine ⟨j.owner, ?_⟩
  rw [completeJob_eq]
  split
  · next atEnd =>
    rcases freeIfIdle_cases (evaluated s r j) j.owner with ⟨freed, _⟩ | ⟨stays, _⟩
    · obtain ⟨st, turns, ok⟩ := goes
      refine .inr ⟨?_, by rw [freed]; exact turns.trans (enterFree_turns _ j.owner)⟩
      rw [turns.state, enter_state] at atEnd
      rw [atEnd] at ok
      revert ok
      cases (s.ctx j.owner).state <;> decide
    · rw [stays]; exact .inl ⟨goes, fails⟩
  · exact .inl ⟨goes, fails⟩

theorem jobTurns_of_contexts {s t u : State} {faulted : Bool} (h : t.contexts = s.contexts) (k : JobTurns t u faulted) :
    JobTurns s u faulted := by
  have same := ctx_of_contexts h
  obtain ⟨i, k⟩ := k
  refine ⟨i, ?_⟩
  rcases k with ⟨goes, fails⟩ | ⟨atEnd, turns⟩
  · have faces : ∀ j, face (t.ctx j) = face (s.ctx j) := fun j => by rw [same]
    exact .inl ⟨goes.after_faces faces, fun h => (fails h).after_faces faces⟩
  · exact .inr ⟨by rw [← same, atEnd], turns.after_faces fun j => by rw [same]⟩

theorem jobTurns_of_faces {s t : State} {faulted : Bool} (h : ∀ j, face (t.ctx j) = face (s.ctx j)) :
    JobTurns s t faulted :=
  ⟨0, .inl ⟨goes_of_faces settling_self h, fun _ => goes_of_faces failing_self h⟩⟩

/-- A write that is reported FAULT makes its job a faulted one (R122). -/
theorem faulted_of_fault (j : Job) (k : Nat) (w : PieceWrite) (h : j.writes[k]? = some w) :
    (j.setProgress k .fault).dropWaiting.faulted = true := by
  have inside : { w with progress := WriteProgress.fault } ∈ (j.setProgress k .fault).writes := by
    refine List.mem_of_getElem? (i := k) ?_
    simp [Job.setProgress, h]
  simp only [Job.faulted, Job.dropWaiting, List.any_map, List.any_eq_true, Function.comp_apply]
  exact ⟨_, inside, rfl⟩

/-- A piece write reported (R122): its job may complete. -/
theorem pieceReported_turns (s : State) (r k : Nat) (j : Job) (report : Report) :
    JobTurns s (s.pieceReported r k j report) false := by
  unfold State.pieceReported
  have completes : ∀ (t : State) (j' : Job), t.contexts = s.contexts →
      JobTurns s (if j'.complete then t.completeJob r j' else t) false := by
    intro t j' same
    split
    · obtain ⟨i, h⟩ := jobTurns_of_contexts same (completeJob_turns t r j')
      exact ⟨i, h.imp (fun g => ⟨g.1, fun no => by cases no⟩) id⟩
    · exact jobTurns_of_faces fun j => by rw [ctx_of_contexts same]
  cases report with
  | ok => exact completes _ _ rfl
  | fault => exact completes _ _ rfl

theorem pieceFaulted_turns (s : State) (r k : Nat) (j : Job) (w : PieceWrite) (h : j.writes[k]? = some w) :
    JobTurns s (s.pieceReported r k j .fault) true := by
  unfold State.pieceReported
  dsimp only
  split
  · rw [← faulted_of_fault j k w h]
    exact jobTurns_of_contexts rfl (completeJob_turns (State.dropFromOrder (s.setJob r _) r) r _)
  · exact jobTurns_of_faces fun _ => rfl

theorem issueNextPiece_turns (s : State) : JobTurns s s.issueNextPiece true := by
  have stays : ∀ t : State, t.contexts = s.contexts → JobTurns s t true := fun t same =>
    jobTurns_of_faces fun j => by rw [ctx_of_contexts same]
  unfold State.issueNextPiece
  dsimp only
  split
  · exact stays _ rfl
  · split
    · exact stays _ rfl
    · next q rest _ =>
      split
      · split
        · next w found =>
          split
          · exact stays _ rfl
          · exact jobTurns_of_contexts (t := { s with delivery := { s.delivery with issueOrder := rest } }) rfl
              (pieceFaulted_turns _ _ _ _ w found)
        · exact stays _ rfl
      · exact stays _ rfl

theorem takePieceReport_turns (s : State) (r k : Nat) (report : Report) :
    JobTurns s (s.takePieceReport r k report) false := by
  unfold State.takePieceReport
  split
  · exact jobTurns_of_faces fun _ => rfl
  · split
    · exact pieceReported_turns ..
    · exact jobTurns_of_faces fun _ => rfl

@[simp] theorem face_grantOne (s : State) (j : Nat) : face (s.grantOne.ctx j) = face (s.ctx j) := by
  have granted : ∀ i r rec, face ((s.grant i r rec).ctx j) = face (s.ctx j) := fun i r rec =>
    face_of_set (i := i) rfl (by rfl) j
  unfold State.grantOne
  (repeat' split) <;> simp [granted]

/-! ## Verify requests -/

@[simp] theorem face_takeReadReturn (s : State) (ret : ReadReturn) (j : Nat) :
    face ((s.takeReadReturn ret).ctx j) = face (s.ctx j) := by
  have ends : ∀ r rest o, face ((s.endVerify r rest o).ctx j) = face (s.ctx j) := by
    intro r rest o
    unfold State.endVerify
    rw [face_nextVerify, face_verifyOutcome, verifyQueue_ctx]
  unfold State.takeReadReturn State.takeRead
  dsimp only
  (repeat' split) <;> simp [ends]

@[simp] theorem face_appendVerify (s : State) (i p j : Nat) : face ((s.appendVerify i p).ctx j) = face (s.ctx j) := by
  unfold State.appendVerify
  dsimp only
  split
  · rw [face_startVerify, face_setVerify]
  · exact face_setVerify ..

/-! ## Timers, settings, areas and notices -/

theorem stallExpire_goes (s : State) (i : Nat) :
    Goes (fun a b => a == b || (a == .active && b == .stalled)) s (s.stallExpire i) i := by
  rcases stallExpire_cases s i with eq | ⟨active, _, eq⟩ <;> rw [eq]
  · exact goes_of_faces (fun a => by simp) fun _ => rfl
  · exact Turns.goes (turns_through (fun j => by rw [face_notifyMasked]) (fun _ => rfl) (by intro; rfl))
      (by rw [active]; rfl)

theorem abandonExpire_goes (s : State) (i : Nat) :
    Goes (fun a b => a == b || (a == .stalled && b == .failed)) s (s.abandonExpire i) i := by
  rcases abandonExpire_cases s i with eq | ⟨stalled, _, eq⟩ <;> rw [eq]
  · exact goes_of_faces (fun a => by simp) fun _ => rfl
  · exact (fail_running s i _ (by rw [stalled]; rfl)).goes (by rw [stalled]; rfl)

@[simp] theorem face_adjustCtx (s : State) (i : Nat) (m : AdjustCommand) (j : Nat) :
    face ((s.adjustCtx i m).ctx j) = face (s.ctx j) := by
  unfold State.adjustCtx
  rw [rejudgeHolds_ctx, face_modCtx s i j (by intro; rfl)]

theorem refillArea_goes (s : State) (i : Nat) (m : RefillCommand) : Goes settling s (s.refillArea i m) i := by
  have moved : ∀ f : Ctx → Area, ∀ j,
      face ((s.modCtx i fun c => c.setArea m.area.toNat (f c)).ctx j) = face (s.ctx j) := fun f j =>
    face_of_core (core_modCtx s i j fun c => core_setArea c _ _)
  unfold State.refillArea
  dsimp only
  split
  · exact (evaluateRetirement_goes _ i).after_faces (moved fun c => c.rebased m.area.toNat m.base.toNat)
  · split
    · exact (evaluateRetirement_goes _ i).after_faces fun j => by
        rw [rejudgeCtx_ctx, moved fun c => c.refilled m.area.toNat m.base.toNat]
    · exact (evaluateRetirement_goes _ i).after_faces (moved fun c => c.refilled m.area.toNat m.base.toNat)

@[simp] theorem face_queueRollup (s : State) (j : Nat) : face (s.queueRollup.ctx j) = face (s.ctx j) := by
  unfold State.queueRollup
  split
  · rfl
  · split
    · rfl
    · rw [face_modCtx _ _ _ (by intro; rfl), push_ctx]

end Sys2Proof.Contexts
end

section
/-! R5's table, for every command: the statements O14 and O15. -/

namespace Sys2Proof.Contexts

open Sys2Proof Sys2Proof.Machine Sys2Proof.Laws

/-- Between two states every context went where R5's table lets command `c` bring it, with its key and window size select
unless it was or is FREE. -/
def Follows (c : Instr) (s t : State) : Prop :=
  ∀ j, transitionAllowed c (s.ctx j).state (t.ctx j).state = true ∧
    ((s.ctx j).state = .free ∨ (t.ctx j).state = .free ∨
      ((t.ctx j).key = (s.ctx j).key ∧ (t.ctx j).windowSelect = (s.ctx j).windowSelect))

section
variable {c : Instr} {s t : State} {i : Nat}

@[simp] theorem transitionAllowed_self (c : Instr) (a : CtxState) : transitionAllowed c a a = true := by
  simp [transitionAllowed]

theorem follows_of_faces (h : ∀ j, face (t.ctx j) = face (s.ctx j)) : Follows c s t := by
  intro j
  refine ⟨?_, .inr (.inr ⟨congrArg Face.key (h j), congrArg Face.windowSelect (h j)⟩)⟩
  rw [show (t.ctx j).state = (s.ctx j).state from congrArg Face.state (h j)]
  exact transitionAllowed_self c _

theorem follows_of_contexts (h : t.contexts = s.contexts) : Follows c s t :=
  follows_of_faces fun j => by rw [ctx_of_contexts h]

theorem Turns.follows {f : Face} (h : Turns s t i f) (ok : transitionAllowed c (s.ctx i).state f.state = true)
    (fixed : (s.ctx i).state = .free ∨ f.state = .free ∨
      (f.key = (s.ctx i).key ∧ f.windowSelect = (s.ctx i).windowSelect)) : Follows c s t := by
  intro j
  by_cases e : j = i
  · subst e
    refine ⟨by rw [h.state]; exact ok, ?_⟩
    rw [h.state, show (t.ctx j).key = f.key from congrArg Face.key h.self,
      show (t.ctx j).windowSelect = f.windowSelect from congrArg Face.windowSelect h.self]
    exact fixed
  · have same := h.other e
    refine ⟨?_, .inr (.inr ⟨congrArg Face.key same, congrArg Face.windowSelect same⟩)⟩
    rw [show (t.ctx j).state = (s.ctx j).state from congrArg Face.state same]
    exact transitionAllowed_self c _

theorem Goes.follows {may : CtxState → CtxState → Bool} (h : Goes may s t i)
    (le : ∀ b, may (s.ctx i).state b = true → transitionAllowed c (s.ctx i).state b = true) : Follows c s t := by
  obtain ⟨st, turns, ok⟩ := h
  exact turns.follows (le st ok) (.inr (.inr ⟨rfl, rfl⟩))

/-- A reset frees every record (R1). -/
theorem follows_of_reset (h : t.contexts = []) (resets : ∀ a, transitionAllowed c a .free = true) : Follows c s t := by
  intro j
  have free : t.ctx j = Ctx.free := by unfold State.ctx; rw [h]; rfl
  rw [free]
  exact ⟨resets _, .inr (.inl rfl)⟩

end

/-- A CMD_RESULT changes no record (R172). -/
theorem follows_finish {c : Instr} {s t : State} (tag : BitVec 16) (code : BitVec 8) (status : CmdStatus) (i : Nat)
    (h : Follows c s t) : Follows c s (t.finish tag code status i) := h

/-- Taking the fetched entry changes no record (R171). -/
theorem follows_takeFetched {c : Instr} {s t : State} (h : Follows c s.takeFetched t) : Follows c s t := h

/-! ## Commands whose effect on the contexts is one lemma away -/

theorem open_follows (cmd : Reply OpenCommand) (s : State) :
    Follows (.openTransfer cmd) s (s.runCommand cmd fun cmd s => s.runOpen cmd) := by
  refine runCommand_induct cmd _ (follows_of_faces fun _ => rfl) (follows_of_faces fun _ => rfl) ?_
  rcases runOpen_cases s.takeFetched cmd.value with ⟨status, eq⟩ | ⟨i, eq, _, free, _⟩
  · rw [eq]; exact follows_of_faces fun _ => rfl
  · rw [eq]
    rw [takeFetched_ctx] at free
    exact (opened_turns s.takeFetched cmd.value i).follows (s := s) (by rw [free]; rfl) (.inl free)

theorem close_follows (cmd : Reply IndexCommand) (s : State) :
    Follows (.close cmd) s (s.runCommand cmd fun cmd s => s.onContext cmd.hostTag codeClose cmd.index fun i s =>
      s.conclude cmd.hostTag codeClose i none fun s => s.closeCtx i) := by
  refine runCommand_induct cmd _ (follows_of_faces fun _ => rfl) (follows_of_faces fun _ => rfl)
    (onContext_induct _ _ _ _ (fun _ _ => follows_of_faces fun _ => rfl) fun isOpen =>
      conclude_induct _ _ _ _ _ (fun _ => follows_of_faces fun _ => rfl) fun _ => ?_)
  refine follows_finish _ _ _ _ (follows_takeFetched ?_)
  revert isOpen
  generalize s.takeFetched = u
  intro isOpen
  rcases closeCtx_turns u cmd.value.index.toNat with turns | turns
  · refine turns.follows ?_ (.inr (.inl rfl))
    revert isOpen
    unfold Ctx.isOpen
    cases (u.ctx cmd.value.index.toNat).state <;> simp [transitionAllowed, face, Ctx.free]
  · refine turns.follows ?_ (.inr (.inr ⟨rfl, rfl⟩))
    revert isOpen
    unfold Ctx.isOpen
    cases (u.ctx cmd.value.index.toNat).state <;> simp [transitionAllowed]

theorem restart_follows (cmd : Reply IndexCommand) (s : State) :
    Follows (.restart cmd) s (s.runCommand cmd fun cmd s => s.onContext cmd.hostTag codeRestart cmd.index fun i s =>
      s.conclude cmd.hostTag codeRestart i (firstFailure (s.ctx i).restartChecks) fun s => s.restart i) := by
  refine runCommand_induct cmd _ (follows_of_faces fun _ => rfl) (follows_of_faces fun _ => rfl)
    (onContext_induct _ _ _ _ (fun _ _ => follows_of_faces fun _ => rfl) fun isOpen =>
      conclude_induct _ _ _ _ _ (fun _ => follows_of_faces fun _ => rfl) fun passed => ?_)
  have notDone : (s.ctx cmd.value.index.toNat).state ≠ .done := by
    simpa using (firstFailure_eq_none _).1 passed _ List.mem_cons_self
  rw [takeFetched_ctx] at isOpen
  refine Turns.follows (s := s) (restart_turns s.takeFetched cmd.value.index.toNat) ?_ (.inr (.inr ⟨rfl, rfl⟩))
  revert isOpen notDone
  unfold Ctx.isOpen
  cases (s.ctx cmd.value.index.toNat).state <;> simp [transitionAllowed]

theorem refill_follows (cmd : Reply RefillCommand) (s : State) :
    Follows (.refill cmd) s (s.runCommand cmd fun cmd s => s.onContext cmd.hostTag codeRefill cmd.index fun i s =>
      s.conclude cmd.hostTag codeRefill i (firstFailure (s.refillChecks i cmd)) fun s => s.refillArea i cmd) := by
  refine runCommand_induct cmd _ (follows_of_faces fun _ => rfl) (follows_of_faces fun _ => rfl)
    (onContext_induct _ _ _ _ (fun _ _ => follows_of_faces fun _ => rfl) fun _ =>
      conclude_induct _ _ _ _ _ (fun _ => follows_of_faces fun _ => rfl) fun _ => ?_)
  refine Goes.follows (s := s) (refillArea_goes s.takeFetched cmd.value.index.toNat cmd.value) fun b => ?_
  show settling (s.ctx _).state b = true → _
  cases (s.ctx cmd.value.index.toNat).state <;> cases b <;> simp [settling, running, transitionAllowed]

/-- A command on a context whose effect keeps every face. -/
theorem contextCommand_follows {α : Type} (c : Instr) (cmd : Reply α) (s : State) (tag : α → BitVec 16) (code : BitVec 8)
    (index : α → BitVec 16) (failure : α → Nat → State → Option CmdStatus) (effect : α → Nat → State → State)
    (kept : ∀ m i (u : State) j, face ((effect m i u).ctx j) = face (u.ctx j)) :
    Follows c s (s.runCommand cmd fun cmd s => s.onContext (tag cmd) code (index cmd) fun i s =>
      s.conclude (tag cmd) code i (failure cmd i s) (effect cmd i)) :=
  runCommand_induct cmd _ (follows_of_faces fun _ => rfl) (follows_of_faces fun _ => rfl)
    (onContext_induct _ _ _ _ (fun _ _ => follows_of_faces fun _ => rfl) fun _ =>
      conclude_induct _ _ _ _ _ (fun _ => follows_of_faces fun _ => rfl) fun _ => follows_of_faces fun j => by
        rw [finish_ctx, kept, takeFetched_ctx])

theorem jobTurns_follows {c : Instr} {s t : State} {faulted : Bool} (h : JobTurns s t faulted)
    (settles : ∀ a b, settling a b = true → (faulted = true → failing a b = true) → transitionAllowed c a b = true)
    (frees : transitionAllowed c .closing .free = true) : Follows c s t := by
  obtain ⟨i, ⟨⟨st, turns, ok⟩, fails⟩ | ⟨atEnd, turns⟩⟩ := h
  · refine turns.follows (settles _ _ ok fun faulted => ?_) (.inr (.inr ⟨rfl, rfl⟩))
    obtain ⟨b, other, failed⟩ := fails faulted
    have same : st = b := by simpa using (turns.state).symm.trans other.state
    exact same ▸ failed
  · exact turns.follows (by rw [atEnd]; exact frees) (.inr (.inl rfl))

theorem arrive_follows (s : State) (seg : Segment) (arrival : Arrival) :
    Follows (seg.presented arrival) s (s.arrive seg arrival) := by
  obtain ⟨i, goes⟩ := arrive_goes s seg arrival
  exact goes.follows fun _ => id

/-! ## Commands that write no context -/

@[simp] theorem endQuery_contexts (s : State) (report : Report) : (s.endQuery report).contexts = s.contexts := by
  unfold State.endQuery
  split <;> rfl

@[simp] theorem runQuery_contexts (s : State) (m : QueryCommand) : (s.runQuery m).contexts = s.contexts := by
  unfold State.runQuery
  (repeat' split) <;> rfl

@[simp] theorem issueSnapshot_contexts (s : State) : s.issueSnapshot.contexts = s.contexts := by
  unfold State.issueSnapshot
  dsimp only
  (repeat' split) <;> simp

@[simp] theorem takeSnapshotReport_contexts (s : State) (report : Report) :
    (s.takeSnapshotReport report).contexts = s.contexts := by
  unfold State.takeSnapshotReport
  split <;> simp

@[simp] theorem takeNoticeReport_contexts (s : State) (report : Report) :
    (s.takeNoticeReport report).contexts = s.contexts := by
  unfold State.takeNoticeReport
  dsimp only
  (repeat' split) <;> rfl

@[simp] theorem writeNotice_contexts (s : State) : s.writeNotice.contexts = s.contexts := by
  unfold State.writeNotice
  dsimp only
  (repeat' split) <;> rfl

@[simp] theorem writeConsumer_contexts (s : State) (value : BitVec 32) : (s.writeConsumer value).contexts = s.contexts := by
  unfold State.writeConsumer
  dsimp only
  (repeat' split) <;> rfl

@[simp] theorem writeConsumerWithReport_contexts (s : State) (value : BitVec 32) (report : Reply Report) :
    (s.writeConsumerWithReport value report).contexts = s.contexts := by
  have taken : (s.takeReply report fun report s => s.takeNoticeReport report).contexts = s.contexts :=
    takeReply_induct (P := fun t => t.contexts = s.contexts) report _ rfl (by simp)
  unfold State.writeConsumerWithReport
  dsimp only
  split <;> simp [taken]

@[simp] theorem writeRing_contexts (s : State) (reg : RingRegisterWrite) : (s.writeRing reg).contexts = s.contexts := by
  unfold State.writeRing
  (repeat' split) <;> rfl

@[simp] theorem acknowledge_contexts (s : State) : s.acknowledge.contexts = s.contexts := by
  unfold State.acknowledge
  (repeat' split) <;> rfl

@[simp] theorem writeTail_contexts (s : State) (value : BitVec 32) : (s.writeTail value).contexts = s.contexts := by
  unfold State.writeTail
  split <;> rfl

@[simp] theorem commandFetchFault_contexts (s : State) (report : Report) :
    (if s.command.fetch.isNone = true then s
    else match report with
      | .fault => { s.endFetch with command := { s.endFetch.command with fetchFault := true } }
      | .ok => if s.resets.draining = true then s.endFetch else s).contexts = s.contexts := by
  (repeat' split) <;> rfl

/-! ## The drain and the resets -/

theorem requestSoftReset_cases (s : State) :
    s.requestSoftReset.contexts = s.contexts ∨ s.requestSoftReset = s.clearDevice := by
  unfold State.requestSoftReset
  split_ifs
  · exact .inl rfl
  · exact .inr rfl
  · exact .inl rfl

theorem endDrain_cases (s : State) : s.endDrain = s ∨ s.endDrain = s.clearDevice := by
  unfold State.endDrain
  split
  · exact .inr rfl
  · exact .inl rfl

/-- Everything a command can do to the contexts' states, keys and window size selects (R2, R5). -/
theorem exec_follows (c : Instr) (s t : State) (h : exec c s = .next t) : Follows c s t := by
  cases c <;> injection h with h <;> subst h
  case data seg => exact arrive_follows s (.data seg.segment) seg.arrival
  case manifest seg => exact arrive_follows s (.manifest seg.segment) seg.arrival
  case abandon seg => exact arrive_follows s (.abandon seg.segment) seg.arrival
  case unknownKindSegment seg => exact arrive_follows s (.unknownKind seg.segment) seg.arrival
  case openTransfer cmd => exact open_follows cmd s
  case query cmd =>
    exact runCommand_induct cmd _ (follows_of_contexts rfl) (follows_of_contexts rfl)
      (follows_of_contexts (runQuery_contexts s.takeFetched cmd.value))
  case snapshotWriteIssue => exact whenLive_induct _ (follows_of_contexts rfl) (follows_of_contexts (by simp))
  case snapshotWriteReport report =>
    exact takeReply_induct report _ (follows_of_contexts rfl) (follows_of_contexts (by simp))
  case adjust cmd =>
    exact contextCommand_follows _ cmd s (fun m => m.hostTag) codeAdjust (fun m => m.index) (fun _ _ _ => none)
      (fun m i u => u.adjustCtx i m) fun m i u j => face_adjustCtx u i m j
  case refill cmd => exact refill_follows cmd s
  case restart cmd => exact restart_follows cmd s
  case reverify cmd =>
    exact contextCommand_follows _ cmd s (fun m => m.hostTag) codeReverify (fun m => m.index)
      (fun m i u => firstFailure (u.reverifyChecks i m)) (fun m i u => u.appendVerify i m.area.toNat)
      fun m i u j => face_appendVerify u i m.area.toNat j
  case close cmd => exact close_follows cmd s
  case groupJoin cmd =>
    exact contextCommand_follows _ cmd s (fun m => m.hostTag) codeGroupJoin (fun m => m.index)
      (fun m i u => firstFailure (u.joinChecks i m)) (fun m i u => u.joinGroup i m.group.toNat m.holdOnFailure)
      fun m i u j => face_joinGroup u i m.group.toNat m.holdOnFailure j
  case groupLeave cmd =>
    exact contextCommand_follows _ cmd s (fun m => m.hostTag) codeGroupLeave (fun m => m.index)
      (fun m i u => firstFailure [((u.ctx i).group.isSome, .wrongState)]) (fun _ i u => u.leaveGroup i)
      fun m i u j => face_leaveGroup u i j
  case setAperture cmd =>
    exact runCommand_induct cmd _ (follows_of_contexts rfl) (follows_of_contexts rfl)
      (conclude_induct _ _ _ _ _ (fun _ => follows_of_contexts rfl) fun _ => follows_of_contexts rfl)
  case configure cmd => exact runCommand_induct cmd _ (follows_of_contexts rfl) (follows_of_contexts rfl) (follows_of_contexts rfl)
  case badCommand cmd => exact runCommand_induct cmd _ (follows_of_contexts rfl) (follows_of_contexts rfl) (follows_of_contexts rfl)
  case commandFetch =>
    exact whenLive_induct _ (follows_of_contexts rfl) (follows_of_contexts (by split <;> rfl))
  case commandFetchFault report =>
    exact takeReply_induct report _ (follows_of_contexts rfl)
      (follows_of_contexts (commandFetchFault_contexts s report.value))
  case writeJobGrant => exact whenLive_induct _ (follows_of_faces fun _ => rfl) (follows_of_faces (face_grantOne s))
  case pieceWriteIssue =>
    refine whenLive_induct _ (follows_of_faces fun _ => rfl) (jobTurns_follows (issueNextPiece_turns s) ?_ rfl)
    intro a b _ fails
    have failed := fails rfl
    revert failed
    cases a <;> cases b <;> simp [failing, running, transitionAllowed]
  case pieceWriteReport record piece report =>
    refine takeReply_induct report _ (follows_of_faces fun _ => rfl)
      (jobTurns_follows (takePieceReport_turns s record.toNat piece.toNat report.value) ?_ rfl)
    intro a b ok _
    revert ok
    cases a <;> cases b <;> simp [settling, running, transitionAllowed]
  case stallExpiry index =>
    refine whenLive_induct _ (follows_of_faces fun _ => rfl) ((stallExpire_goes s index.toNat).follows fun b => ?_)
    cases (s.ctx index.toNat).state <;> cases b <;> simp [transitionAllowed]
  case abandonExpiry index =>
    refine whenLive_induct _ (follows_of_faces fun _ => rfl) ((abandonExpire_goes s index.toNat).follows fun b => ?_)
    cases (s.ctx index.toNat).state <;> cases b <;> simp [transitionAllowed]
  case verifyReadReturn ret =>
    exact takeReply_induct ret _ (follows_of_faces fun _ => rfl) (follows_of_faces (face_takeReadReturn s ret.value))
  case noticeWrite => exact whenLive_induct _ (follows_of_contexts rfl) (follows_of_contexts (by simp))
  case noticeWriteReport report =>
    exact takeReply_induct report _ (follows_of_contexts rfl) (follows_of_contexts (by simp))
  case rollup => exact whenLive_induct _ (follows_of_faces fun _ => rfl) (follows_of_faces (face_queueRollup s))
  case quiesceRise => exact follows_of_contexts rfl
  case quiesceFall => exact follows_of_contexts rfl
  case quiesceRequest value => exact whenLive_induct _ (follows_of_contexts rfl) (follows_of_contexts rfl)
  case resetAcknowledge => exact whenLive_induct _ (follows_of_contexts rfl) (follows_of_contexts (by simp))
  case softReset =>
    refine whenLive_induct _ (follows_of_contexts rfl) ?_
    rcases requestSoftReset_cases s with same | cleared
    · exact follows_of_contexts same
    · rw [cleared]; exact follows_of_reset rfl (by intro a; simp [transitionAllowed])
  case drainClear =>
    refine whenLive_induct _ (follows_of_contexts rfl) ?_
    rcases endDrain_cases s with same | cleared
    · rw [same]; exact follows_of_contexts rfl
    · rw [cleared]; exact follows_of_reset rfl (by intro a; simp [transitionAllowed])
  case fullReset cause => exact follows_of_reset rfl (by intro a; simp [transitionAllowed])
  case statusClear value => exact whenLive_induct _ (follows_of_contexts rfl) (follows_of_contexts rfl)
  case unmatchedCountRead => exact whenLive_induct _ (follows_of_contexts rfl) (follows_of_contexts rfl)
  case commandRingTailWrite value => exact whenLive_induct _ (follows_of_contexts rfl) (follows_of_contexts (by simp))
  case noticeRingConsumerWrite write =>
    exact whenLive_induct _ (follows_of_contexts rfl) (follows_of_contexts (by split <;> simp))
  case registerWrite reg => exact whenLive_induct _ (follows_of_contexts rfl) (follows_of_contexts (by simp))
  case resetInputRelease => exact follows_of_contexts (by split <;> rfl)

/-- Settles O14: what each command can do to the states (`exec_follows`) is R5's table. -/
theorem contextStatesFollowTheTable : Obligations.ContextStatesFollowTheTable := by
  intro c s t i h
  exact (exec_follows c s t h i).1

/-- Settles O15, from the same account of each command. -/
theorem keyAndWindowSizeFixedUntilFree : Obligations.KeyAndWindowSizeFixedUntilFree := by
  intro c s t i h before after
  exact (((exec_follows c s t h i).2).resolve_left before).resolve_left after

end Sys2Proof.Contexts
end

section
/-! What leaves the lookup map and the queue of commands alone; the lookup map's own operations; the statements O2 and O9. -/

namespace Sys2Proof.Contexts

open Sys2Proof Sys2Proof.Machine Sys2Proof.Laws

/-! ## Beside the map and the queue -/

/-- Between two states neither the lookup map nor the queue of commands changed. -/
def Beside (s t : State) : Prop := t.map = s.map ∧ t.pending = s.pending

theorem beside_refl (s : State) : Beside s s := ⟨rfl, rfl⟩

theorem Beside.trans {s t u : State} (h : Beside s t) (k : Beside t u) : Beside s u :=
  ⟨k.1.trans h.1, k.2.trans h.2⟩

theorem countUnmatched_beside (s : State) (link : BitVec 2) (key : Key) : Beside s (s.countUnmatched link key) := by
  unfold State.countUnmatched
  dsimp only
  split <;> simp [Beside]

theorem signalStage_beside (s : State) (i : Nat) (level : Bool) : Beside s (s.signalStage i level).1 := by
  unfold State.signalStage
  dsimp only
  (repeat' split) <;> simp [Beside]

theorem rangeStage_beside (s : State) (i : Nat) (g : DataSegment) : Beside s (s.rangeStage i g).state := by
  unfold State.rangeStage State.trimStage State.answer State.commit State.implyTotal
  dsimp only
  (repeat' split) <;> simp [Beside]

theorem manifestStage_beside (s : State) (i : Nat) (g : ManifestSegment) : Beside s (s.manifestStage i g).state := by
  unfold State.manifestStage State.answer State.recordManifest
  dsimp only
  (repeat' split) <;> simp [Beside]

theorem dataStages_beside (s : State) (i : Nat) (g : DataSegment) : Beside s (s.dataStages i g).state := by
  have signalled := signalStage_beside s i g.signal
  have ranged := signalled.trans (rangeStage_beside _ i g)
  have unmatched := countUnmatched_beside s g.link (DataSegment.key g)
  have received : Beside s (if DataSegment.tallyMatches g then (s.signalStage i g.signal).1.rangeStage i g
      else (s.countDamaged i).answer i .damaged).state := by
    split
    · exact ranged
    · simp [Beside, State.answer]
  unfold State.dataStages
  dsimp only
  split
  · exact received
  · exact received
  · split <;> exact beside_refl s
  · split
    · split
      · exact ranged
      · exact signalled
    · exact beside_refl s
  · exact unmatched
  · exact unmatched

theorem manifestStages_beside (s : State) (i : Nat) (g : ManifestSegment) : Beside s (s.manifestStages i g).state := by
  have signalled := signalStage_beside s i g.signal
  have staged := signalled.trans (manifestStage_beside _ i g)
  have unmatched := countUnmatched_beside s g.link (ManifestSegment.key g)
  unfold State.manifestStages
  dsimp only
  split
  · exact staged
  · exact staged
  · split
    · exact staged
    · exact signalled
  · exact beside_refl s
  · exact unmatched
  · exact unmatched

theorem abandonStages_beside (s : State) (i : Nat) (g : AbandonSegment) : Beside s (s.abandonStages i g).state := by
  have unmatched := countUnmatched_beside s g.link (AbandonSegment.key g)
  unfold State.abandonStages
  split
  · simp [Beside, State.answer]
  · simp [Beside, State.answer]
  · exact beside_refl s
  · exact beside_refl s
  · exact unmatched
  · exact unmatched

/-- A segment taken whole changes neither (chapter 2). -/
theorem takeSegment_beside (s : State) (seg : Segment) : Beside s (s.takeSegment seg) := by
  cases seg with
  | data g =>
    show Beside s (s.takeData g).state
    unfold State.takeData
    split_ifs
    · exact beside_refl s
    · exact beside_refl s
    · split
      · exact countUnmatched_beside ..
      · exact dataStages_beside ..
  | manifest g =>
    show Beside s (s.takeManifest g).state
    unfold State.takeManifest
    split_ifs
    · exact beside_refl s
    · exact beside_refl s
    · split
      · exact countUnmatched_beside ..
      · exact manifestStages_beside ..
  | abandon g =>
    show Beside s (s.takeAbandon g).state
    unfold State.takeAbandon
    split_ifs
    · exact beside_refl s
    · exact beside_refl s
    · split
      · exact countUnmatched_beside ..
      · exact abandonStages_beside ..
  | unknownKind g => exact beside_refl s

theorem arrive_beside (s : State) (seg : Segment) (arrival : Arrival) : Beside s (s.arrive seg arrival) := by
  rcases arrive_cases s seg arrival with ⟨eq, _⟩ | ⟨eq, _⟩ | ⟨eq, _⟩ <;> rw [eq]
  · exact beside_refl s
  · exact takeSegment_beside s seg
  · exact beside_refl s

theorem runQuery_beside (s : State) (m : QueryCommand) : Beside s (s.runQuery m) := by
  unfold State.runQuery
  (repeat' split) <;> exact beside_refl s

theorem endQuery_beside (s : State) (report : Report) : Beside s (s.endQuery report) := by
  unfold State.endQuery
  split <;> exact beside_refl s

theorem issueSnapshot_beside (s : State) : Beside s s.issueSnapshot := by
  unfold State.issueSnapshot
  dsimp only
  split
  · split
    · exact beside_refl s
    · exact Beside.trans (beside_refl s) (endQuery_beside _ _)
  · exact beside_refl s
  · exact beside_refl s

theorem takeSnapshotReport_beside (s : State) (report : Report) : Beside s (s.takeSnapshotReport report) := by
  unfold State.takeSnapshotReport
  split
  · exact endQuery_beside ..
  · exact beside_refl s
  · exact beside_refl s

theorem refillArea_beside (s : State) (i : Nat) (m : RefillCommand) : Beside s (s.refillArea i m) := by
  unfold State.refillArea
  dsimp only
  (repeat' split) <;> simp [Beside]

theorem appendVerify_beside (s : State) (i p : Nat) : Beside s (s.appendVerify i p) := by
  unfold State.appendVerify
  dsimp only
  split <;> simp [Beside]

theorem grantOne_beside (s : State) : Beside s s.grantOne := by
  unfold State.grantOne
  (repeat' split) <;> exact beside_refl s

theorem outcome_beside (s : State) (r : Nat) (j : Job) : Beside s (outcome s r j) := by
  unfold outcome State.handleFault State.handleOk
  dsimp only
  (repeat' split) <;> simp [Beside, State.lowerCounts, State.markFaulted]

theorem cleaned_beside (s : State) (r : Nat) (j : Job) : Beside s (cleaned s r j) := by
  unfold cleaned State.clearFence
  dsimp only
  split <;> simp [Beside]

theorem completeJob_beside (s : State) (r : Nat) (j : Job) : Beside s (s.completeJob r j) := by
  have cleanedUp := (outcome_beside s r j).trans (cleaned_beside _ r j)
  have whole : Beside s (evaluated s r j) := by
    unfold evaluated
    split
    · exact cleanedUp
    · exact cleanedUp.trans (by simp [Beside])
  rw [completeJob_eq]
  split
  · exact whole.trans (by simp [Beside])
  · exact whole

theorem pieceReported_beside (s : State) (r k : Nat) (j : Job) (report : Report) :
    Beside s (s.pieceReported r k j report) := by
  have completes : ∀ (t : State) (j' : Job), Beside s t →
      Beside s (if j'.complete then t.completeJob r j' else t) := by
    intro t j' same
    split
    · exact same.trans (completeJob_beside t r j')
    · exact same
  unfold State.pieceReported
  cases report with
  | ok => exact completes _ _ (beside_refl s)
  | fault => exact completes _ _ (beside_refl s)

theorem issueNextPiece_beside (s : State) : Beside s s.issueNextPiece := by
  have self := beside_refl s
  unfold State.issueNextPiece
  dsimp only
  split
  · exact self
  · split
    · exact self
    · next q rest _ =>
      split
      · split
        · split
          · exact self
          · exact self.trans (t := { s with delivery := { s.delivery with issueOrder := rest } }) self
              |>.trans (pieceReported_beside _ _ _ _ _)
        · exact self
      · exact self

theorem takePieceReport_beside (s : State) (r k : Nat) (report : Report) : Beside s (s.takePieceReport r k report) := by
  unfold State.takePieceReport
  split
  · exact beside_refl s
  · split
    · exact pieceReported_beside ..
    · exact beside_refl s

theorem stallExpire_beside (s : State) (i : Nat) : Beside s (s.stallExpire i) := by
  rcases stallExpire_cases s i with eq | ⟨_, _, eq⟩ <;> rw [eq] <;> simp [Beside]

theorem abandonExpire_beside (s : State) (i : Nat) : Beside s (s.abandonExpire i) := by
  rcases abandonExpire_cases s i with eq | ⟨_, _, eq⟩ <;> rw [eq] <;> simp [Beside]

theorem endVerify_beside (s : State) (r : VerifyRequest) (rest : List VerifyRequest) (o : VerifyOutcome) :
    Beside s (s.endVerify r rest o) := by simp [Beside, State.endVerify]

theorem takeReadReturn_beside (s : State) (ret : ReadReturn) : Beside s (s.takeReadReturn ret) := by
  have ends := endVerify_beside s
  unfold State.takeReadReturn State.takeRead
  dsimp only
  (repeat' split) <;> simp_all [Beside]

theorem writeNotice_beside (s : State) : Beside s s.writeNotice := by
  unfold State.writeNotice
  dsimp only
  (repeat' split) <;> exact beside_refl s

theorem takeNoticeReport_beside (s : State) (report : Report) : Beside s (s.takeNoticeReport report) := by
  unfold State.takeNoticeReport
  dsimp only
  (repeat' split) <;> exact beside_refl s

theorem writeConsumer_beside (s : State) (value : BitVec 32) : Beside s (s.writeConsumer value) := by
  unfold State.writeConsumer
  dsimp only
  split <;> exact beside_refl s

theorem writeConsumerWithReport_beside (s : State) (value : BitVec 32) (report : Reply Report) :
    Beside s (s.writeConsumerWithReport value report) := by
  have taken : Beside s (s.takeReply report fun report s => s.takeNoticeReport report) :=
    takeReply_induct report _ (beside_refl s) (takeNoticeReport_beside s report.value)
  have whole := taken.trans (writeConsumer_beside _ value)
  unfold State.writeConsumerWithReport
  dsimp only
  split <;> exact whole

theorem queueRollup_beside (s : State) : Beside s s.queueRollup := by
  unfold State.queueRollup
  (repeat' split) <;> exact beside_refl s

theorem writeRing_beside (s : State) (reg : RingRegisterWrite) : Beside s (s.writeRing reg) := by
  unfold State.writeRing
  (repeat' split) <;> exact beside_refl s

theorem acknowledge_beside (s : State) : Beside s s.acknowledge := by
  unfold State.acknowledge
  (repeat' split) <;> exact beside_refl s

theorem writeTail_beside (s : State) (value : BitVec 32) : Beside s (s.writeTail value) := by
  unfold State.writeTail
  split <;> exact beside_refl s

/-- A command on a context whose effect changes neither. -/
theorem contextCommand_beside {α : Type} (cmd : Reply α) (s : State) (tag : α → BitVec 16) (code : BitVec 8)
    (index : α → BitVec 16) (failure : α → Nat → State → Option CmdStatus) (effect : α → Nat → State → State)
    (kept : ∀ m i (u : State), Beside u (effect m i u)) :
    Beside s (s.runCommand cmd fun cmd s => s.onContext (tag cmd) code (index cmd) fun i s =>
      s.conclude (tag cmd) code i (failure cmd i s) (effect cmd i)) :=
  runCommand_induct cmd _ (beside_refl s) (beside_refl s)
    (onContext_induct _ _ _ _ (fun _ _ => beside_refl s) fun _ =>
      conclude_induct _ _ _ _ _ (fun _ => beside_refl s) fun _ =>
        Beside.trans (t := s.takeFetched) (beside_refl s) (kept _ _ _))

/-- The commands that write the lookup map: OPEN, CLOSE and the resets (R11, R181, R183). -/
def writesMap : Instr → Bool
  | .openTransfer _ | .close _ | .softReset | .drainClear | .fullReset _ => true
  | _ => false

/-- No other command touches the map, and none of them the queue. -/
theorem exec_beside (c : Instr) (s t : State) (inside : writesMap c = false) (h : exec c s = .next t) : Beside s t := by
  have self := beside_refl s
  cases c <;> injection h with h <;> subst h
  case data seg => exact arrive_beside ..
  case manifest seg => exact arrive_beside ..
  case abandon seg => exact arrive_beside ..
  case unknownKindSegment seg => exact arrive_beside ..
  case openTransfer cmd => cases inside
  case query cmd => exact runCommand_induct cmd _ self self (runQuery_beside s.takeFetched cmd.value)
  case snapshotWriteIssue => exact whenLive_induct _ self (issueSnapshot_beside s)
  case snapshotWriteReport report => exact takeReply_induct report _ self (takeSnapshotReport_beside s _)
  case adjust cmd =>
    exact contextCommand_beside cmd s (fun m => m.hostTag) codeAdjust (fun m => m.index) (fun _ _ _ => none)
      (fun m i u => u.adjustCtx i m) fun m i u => by simp [Beside, State.adjustCtx]
  case refill cmd =>
    exact contextCommand_beside cmd s (fun m => m.hostTag) codeRefill (fun m => m.index)
      (fun m i u => firstFailure (u.refillChecks i m)) (fun m i u => u.refillArea i m) fun m i u => refillArea_beside ..
  case restart cmd =>
    exact contextCommand_beside cmd s (fun m => m.hostTag) codeRestart (fun m => m.index)
      (fun _ i u => firstFailure (u.ctx i).restartChecks) (fun _ i u => u.restart i) fun m i u => by simp [Beside]
  case reverify cmd =>
    exact contextCommand_beside cmd s (fun m => m.hostTag) codeReverify (fun m => m.index)
      (fun m i u => firstFailure (u.reverifyChecks i m)) (fun m i u => u.appendVerify i m.area.toNat)
      fun m i u => appendVerify_beside ..
  case close cmd => cases inside
  case groupJoin cmd =>
    exact contextCommand_beside cmd s (fun m => m.hostTag) codeGroupJoin (fun m => m.index)
      (fun m i u => firstFailure (u.joinChecks i m)) (fun m i u => u.joinGroup i m.group.toNat m.holdOnFailure)
      fun m i u => by simp [Beside]
  case groupLeave cmd =>
    exact contextCommand_beside cmd s (fun m => m.hostTag) codeGroupLeave (fun m => m.index)
      (fun m i u => firstFailure [((u.ctx i).group.isSome, .wrongState)]) (fun _ i u => u.leaveGroup i)
      fun m i u => by simp [Beside]
  case setAperture cmd =>
    exact runCommand_induct cmd _ self self (conclude_induct _ _ _ _ _ (fun _ => self) fun _ => self)
  case configure cmd => exact runCommand_induct cmd _ self self self
  case badCommand cmd => exact runCommand_induct cmd _ self self self
  case commandFetch => exact whenLive_induct _ self (by split <;> exact self)
  case commandFetchFault report =>
    exact takeReply_induct report _ self (by dsimp only; (repeat' split) <;> exact self)
  case writeJobGrant => exact whenLive_induct _ self (grantOne_beside s)
  case pieceWriteIssue => exact whenLive_induct _ self (issueNextPiece_beside s)
  case pieceWriteReport record piece report => exact takeReply_induct report _ self (takePieceReport_beside s _ _ _)
  case stallExpiry index => exact whenLive_induct _ self (stallExpire_beside s _)
  case abandonExpiry index => exact whenLive_induct _ self (abandonExpire_beside s _)
  case verifyReadReturn ret => exact takeReply_induct ret _ self (takeReadReturn_beside s _)
  case noticeWrite => exact whenLive_induct _ self (writeNotice_beside s)
  case noticeWriteReport report => exact takeReply_induct report _ self (takeNoticeReport_beside s _)
  case rollup => exact whenLive_induct _ self (queueRollup_beside s)
  case quiesceRise => exact self
  case quiesceFall => exact self
  case quiesceRequest value => exact whenLive_induct _ self self
  case resetAcknowledge => exact whenLive_induct _ self (acknowledge_beside s)
  case softReset => cases inside
  case drainClear => cases inside
  case fullReset cause => cases inside
  case statusClear value => exact whenLive_induct _ self self
  case unmatchedCountRead => exact whenLive_induct _ self self
  case commandRingTailWrite value => exact whenLive_induct _ self (writeTail_beside s value)
  case noticeRingConsumerWrite write =>
    refine whenLive_induct _ self ?_
    split
    · exact writeConsumer_beside ..
    · exact writeConsumerWithReport_beside ..
  case registerWrite reg => exact whenLive_induct _ self (writeRing_beside s reg)
  case resetInputRelease => split <;> exact self

/-! ## The queue of commands -/

theorem closing_pending (s : State) (i : Nat) : (closing s i).pending = s.pending := by
  unfold closing unlinked unverified
  simp only [modCtx_pending, leaveGroup_frame, abortVerify_frame, releaseUnwritten_frame, keyless_frame]

theorem closeCtx_pending (s : State) (i : Nat) : (s.closeCtx i).pending = s.pending := by
  rw [closeCtx_eq]
  simp only [freeIfIdle_frame, closing_pending]

theorem exec_pending (c : Instr) (s t : State) (h : exec c s = .next t) : t.pending = s.pending := by
  cases inside : writesMap c with
  | false => exact (exec_beside c s t inside h).2
  | true =>
    cases c <;> injection inside
    case openTransfer cmd =>
      injection h with h; subst h
      refine runCommand_induct (P := fun t => t.pending = s.pending) cmd _ rfl rfl ?_
      rcases runOpen_cases s.takeFetched cmd.value with ⟨status, eq⟩ | ⟨i, eq, _⟩ <;> rw [eq] <;> rfl
    case close cmd =>
      injection h with h; subst h
      exact runCommand_induct (P := fun t => t.pending = s.pending) cmd _ rfl rfl
        (onContext_induct (P := fun t => t.pending = s.pending) _ _ _ _ (fun _ _ => rfl) fun _ =>
          conclude_induct (P := fun t => t.pending = s.pending) _ _ _ _ _ (fun _ => rfl) fun _ =>
            (finish_pending ..).trans (closeCtx_pending s.takeFetched cmd.value.index.toNat))
    case softReset =>
      injection h with h; subst h
      refine whenLive_induct (P := fun t => t.pending = s.pending) _ rfl ?_
      unfold State.requestSoftReset
      split_ifs <;> rfl
    case drainClear =>
      injection h with h; subst h
      refine whenLive_induct (P := fun t => t.pending = s.pending) _ rfl ?_
      rcases endDrain_cases s with eq | eq <;> rw [eq]; rfl
    case fullReset cause => injection h with h; subst h; rfl

/-- Settles O2: every arm of `exec` answers with a next state, and no command touches the queue (`exec_pending`). -/
theorem everyCommandAnswersNext : Obligations.EveryCommandAnswersNext := by
  intro c s
  have answers : ∃ t, exec c s = .next t := by cases c <;> exact ⟨_, rfl⟩
  obtain ⟨t, h⟩ := answers
  exact ⟨t, h, exec_pending c s t h⟩

end Sys2Proof.Contexts
end

section
/-! The lookup map (R8 to R11): what a lookup finds, what OPEN, CLOSE and the resets make of it, and the statement O9. -/

namespace Sys2Proof.Contexts

open Sys2Proof Sys2Proof.Machine Sys2Proof.Laws

/-! ## Lookups -/

/-- A lookup finds an entry of the key's bucket with that key (R10). -/
theorem mem_of_lookup {s : State} {k : Key} {i : Nat} (h : s.lookup k = some i) : ⟨k, i⟩ ∈ s.bucket (bucketOf k) := by
  obtain ⟨e, found, rfl⟩ := Option.map_eq_some_iff.1 h
  have inside := List.mem_of_find?_eq_some found
  obtain rfl : e.key = k := by simpa using List.find?_some found
  exact inside

theorem lookup_eq_none {s : State} {k : Key} :
    s.lookup k = none ↔ ∀ e ∈ s.bucket (bucketOf k), e.key ≠ k := by
  simp [State.lookup]

/-! ## The buckets after an insertion and a removal -/

theorem bucket_insertKey (s : State) (k : Key) (i b : Nat) : (s.insertKey k i).bucket b =
    if b = bucketOf k then s.bucket (bucketOf k) ++ [⟨k, i⟩] else s.bucket b := bucket_setBucket ..

theorem bucket_removeKey (s : State) (k : Key) (b : Nat) : (s.removeKey k).bucket b =
    if b = bucketOf k then (s.bucket (bucketOf k)).filter fun e => e.key != k else s.bucket b := bucket_setBucket ..

theorem bucket_of_map {s t : State} (h : t.map = s.map) (b : Nat) : t.bucket b = s.bucket b := by
  unfold State.bucket; rw [h]

theorem opened_bucket (s : State) (m : OpenCommand) (i b : Nat) :
    (opened s m i).bucket b = if b = bucketOf (OpenCommand.key m) then
      s.bucket (bucketOf (OpenCommand.key m)) ++ [⟨OpenCommand.key m, i⟩] else s.bucket b :=
  bucket_insertKey s (OpenCommand.key m) i b

theorem opened_ctx (s : State) (m : OpenCommand) (i j : Nat) :
    (opened s m i).ctx j = if j = i then OpenCommand.record m else s.ctx j := ctx_of_set (s := s) rfl j

theorem closeCtx_map {s : State} {i : Nat} {k : Key} (h : (s.ctx i).key = some k) :
    (s.closeCtx i).map = (s.removeKey k).map := by
  rw [closeCtx_eq, (freeIfIdle_frame _ i).2.1]
  unfold closing unlinked unverified keyless
  simp only [modCtx_map, leaveGroup_frame, abortVerify_frame, releaseUnwritten_frame, h]

theorem closeCtx_bucket {s : State} {i : Nat} {k : Key} (h : (s.ctx i).key = some k) (b : Nat) :
    (s.closeCtx i).bucket b =
      if b = bucketOf k then (s.bucket (bucketOf k)).filter fun e => e.key != k else s.bucket b :=
  (bucket_of_map (closeCtx_map h) b).trans (bucket_removeKey s k b)

/-! ## The invariant of R8 -/

/-- The invariant speaks of the map and, per record, of whether it is open and of an open record's key. -/
theorem mapSafe_of_same {s t : State} (safe : MapSafe s) (map : t.map = s.map)
    (open_ : ∀ j, (t.ctx j).isOpen = (s.ctx j).isOpen)
    (key : ∀ j, (s.ctx j).isOpen = true → (t.ctx j).key = (s.ctx j).key) : MapSafe t where
  found i h := by
    rw [open_ i] at h
    rw [key i h]
    simpa only [bucket_of_map map] using safe.found i h
  entry b e h := by
    rw [bucket_of_map map] at h
    obtain ⟨place, isOpen, own⟩ := safe.entry b e h
    exact ⟨place, by rw [open_, isOpen], by rw [key _ isOpen, own]⟩
  once b := by rw [bucket_of_map map]; exact safe.once b
  limit b := by rw [bucket_of_map map]; exact safe.limit b

/-- The empty map of a part without contexts (R1, R181, R183). -/
theorem mapSafe_of_empty {s : State} (map : s.map = []) (contexts : s.contexts = []) : MapSafe s := by
  have bucket : ∀ b, s.bucket b = [] := fun b => by unfold State.bucket; rw [map]; rfl
  have ctx : ∀ i, s.ctx i = Ctx.free := fun i => by unfold State.ctx; rw [contexts]; rfl
  exact
    { found := fun i h => by rw [ctx] at h; cases h
      entry := fun b e h => by rw [bucket] at h; cases h
      once := fun b => by rw [bucket]; exact List.nodup_nil
      limit := fun b => by rw [bucket]; exact Nat.zero_le _ }

/-- The states in which a context has its key in the map (R8). -/
def openState (a : CtxState) : Bool := a == .active || a == .stalled || a == .done || a == .failed

theorem isOpen_eq (c : Ctx) : c.isOpen = openState c.state := rfl

/-- Beside OPEN, CLOSE and the resets, no transition of R5's table enters or leaves the open states. -/
theorem openState_of_allowed (c : Instr) (inside : writesMap c = false) (a b : CtxState)
    (h : transitionAllowed c a b = true) : openState b = openState a := by
  -- either both states are open or neither is, or the table lists no such transition for the command
  cases a <;> cases b <;> first
    | rfl
    | (cases c <;> cases inside <;> cases h)

/-- What goes by R5's table, and writes no map, keeps the invariant. -/
theorem Follows.mapSafe {c : Instr} {s t : State} (h : Follows c s t) (inside : writesMap c = false)
    (map : t.map = s.map) (safe : MapSafe s) : MapSafe t := by
  have open_ : ∀ j, (t.ctx j).isOpen = (s.ctx j).isOpen := fun j =>
    openState_of_allowed c inside _ _ (h j).1
  refine mapSafe_of_same safe map open_ fun j isOpen => ?_
  rcases (h j).2 with free | free | ⟨key, _⟩
  · rw [isOpen_eq, free] at isOpen; cases isOpen
  · rw [← open_ j, isOpen_eq, free] at isOpen; cases isOpen
  · exact key

/-- OPEN puts a key that was not in the map into a bucket with room, for a record that was FREE (R8, R13, R14). -/
theorem opened_mapSafe {s : State} (m : OpenCommand) (i : Nat) (safe : MapSafe s) (free : (s.ctx i).state = .free)
    (absent : s.lookup (OpenCommand.key m) = none)
    (room : (s.bucket (bucketOf (OpenCommand.key m))).length < Config.bucketEntries) : MapSafe (opened s m i) := by
  have shut : ∀ j, (s.ctx j).isOpen = true → j ≠ i := by
    rintro j isOpen rfl
    rw [isOpen_eq, free] at isOpen
    cases isOpen
  refine ⟨fun j isOpen => ?_, fun b e inside => ?_, fun b => ?_, fun b => ?_⟩
  · rw [opened_ctx] at isOpen ⊢
    by_cases same : j = i
    · rw [if_pos same]
      exact ⟨OpenCommand.key m, rfl, by rw [opened_bucket, if_pos rfl, same]; simp⟩
    · rw [if_neg same] at isOpen ⊢
      obtain ⟨k, key, inside⟩ := safe.found j isOpen
      refine ⟨k, key, ?_⟩
      rw [opened_bucket]
      split
      · next eq => exact List.mem_append_left _ (eq ▸ inside)
      · exact inside
  · have cases_ : e ∈ s.bucket b ∨ (b = bucketOf (OpenCommand.key m) ∧ e = ⟨OpenCommand.key m, i⟩) := by
      rw [opened_bucket] at inside
      split at inside
      · next eq =>
        rcases List.mem_append.1 inside with old | new
        · exact .inl (eq ▸ old)
        · exact .inr ⟨eq, List.mem_singleton.1 new⟩
      · exact .inl inside
    rcases cases_ with old | ⟨place, rfl⟩
    · obtain ⟨place, isOpen, own⟩ := safe.entry b e old
      rw [opened_ctx, if_neg (shut _ isOpen)]
      exact ⟨place, isOpen, own⟩
    · rw [opened_ctx, if_pos rfl]
      exact ⟨place, rfl, rfl⟩
  · rw [opened_bucket]
    split
    · rw [List.map_append, List.map_singleton, List.nodup_append]
      refine ⟨safe.once _, List.nodup_singleton _, fun k old k' new => ?_⟩
      obtain ⟨e, inside, rfl⟩ := List.mem_map.1 old
      rw [List.mem_singleton.1 new]
      exact lookup_eq_none.1 absent e inside
    · exact safe.once b
  · rw [opened_bucket]
    split
    · rw [List.length_append, List.length_singleton]; exact room
    · exact safe.limit b

/-- A context that leaves the open states takes its key out of the map (R8, R19). -/
theorem mapSafe_of_removed {s t : State} {i : Nat} {k : Key} (safe : MapSafe s) (key : (s.ctx i).key = some k)
    (inMap : ⟨k, i⟩ ∈ s.bucket (bucketOf k)) (shut : openState (t.ctx i).state = false)
    (other : ∀ j, j ≠ i → face (t.ctx j) = face (s.ctx j))
    (bucket : ∀ b, t.bucket b =
      if b = bucketOf k then (s.bucket (bucketOf k)).filter fun e => e.key != k else s.bucket b) : MapSafe t := by
  have mem : ∀ b e, e ∈ t.bucket b ↔ e ∈ s.bucket b ∧ e.key ≠ k := by
    intro b e
    rw [bucket]
    split
    · next eq => rw [eq]; simp
    · next ne =>
      refine ⟨fun inside => ⟨inside, fun same => ne ?_⟩, And.left⟩
      rw [(safe.entry b e inside).1, same]
  have otherOpen : ∀ j, j ≠ i → (t.ctx j).isOpen = (s.ctx j).isOpen := fun j ne =>
    congrArg (fun f : Face => openState f.state) (other j ne)
  have otherKey : ∀ j, j ≠ i → (t.ctx j).key = (s.ctx j).key := fun j ne => congrArg Face.key (other j ne)
  refine ⟨fun j open_ => ?_, fun b e inside => ?_, fun b => ?_, fun b => ?_⟩
  · have ne : j ≠ i := by rintro rfl; rw [isOpen_eq, shut] at open_; cases open_
    rw [otherOpen j ne] at open_
    obtain ⟨k', key', inside⟩ := safe.found j open_
    refine ⟨k', (otherKey j ne).trans key', (mem _ _).2 ⟨inside, fun same => ne ?_⟩⟩
    obtain rfl : k' = k := same
    exact congrArg MapEntry.index (List.inj_on_of_nodup_map (safe.once _) inside inMap rfl)
  · obtain ⟨inside, notKey⟩ := (mem b e).1 inside
    obtain ⟨place, open_, own⟩ := safe.entry b e inside
    have ne : e.index ≠ i := by
      intro same
      rw [same, key] at own
      exact notKey (Option.some.inj own).symm
    exact ⟨place, by rw [otherOpen _ ne, open_], by rw [otherKey _ ne, own]⟩
  · rw [bucket]
    split
    · exact (safe.once _).sublist (List.filter_sublist.map _)
    · exact safe.once b
  · rw [bucket]
    split
    · exact le_trans (List.length_filter_le _ _) (safe.limit _)
    · exact safe.limit b

theorem closeCtx_mapSafe {s : State} {i : Nat} (safe : MapSafe s) (isOpen : (s.ctx i).isOpen = true) :
    MapSafe (s.closeCtx i) := by
  obtain ⟨k, key, inMap⟩ := safe.found i isOpen
  refine mapSafe_of_removed safe key inMap ?_ (fun j ne => ?_) (closeCtx_bucket key)
  · rcases closeCtx_turns s i with turns | turns <;> rw [turns.state] <;> rfl
  · rcases closeCtx_turns s i with turns | turns <;> exact turns.other ne

/-! ## One step -/

theorem exec_mapSafe (c : Instr) (s t : State) (safe : MapSafe s) (h : exec c s = .next t) : MapSafe t := by
  cases inside : writesMap c with
  | false => exact (exec_follows c s t h).mapSafe inside (exec_beside c s t inside h).1 safe
  | true =>
    have same : ∀ u : State, u.map = s.map → u.contexts = s.contexts → MapSafe u := fun u map contexts =>
      mapSafe_of_same safe map (fun j => by rw [ctx_of_contexts contexts]) fun j _ => by rw [ctx_of_contexts contexts]
    have taken : MapSafe s.takeFetched := same _ rfl rfl
    have ended : ∀ (u : State) tag code status i, MapSafe u → MapSafe (u.finish tag code status i) :=
      fun u _ _ _ _ safe => mapSafe_of_same safe rfl (fun _ => rfl) fun _ _ => rfl
    cases c <;> injection inside
    case openTransfer cmd =>
      injection h with h; subst h
      refine runCommand_induct cmd _ safe (same _ rfl rfl) ?_
      rcases runOpen_cases s.takeFetched cmd.value with ⟨status, eq⟩ | ⟨i, eq, _, free, absent, room⟩ <;> rw [eq]
      · exact ended _ _ _ _ _ taken
      · exact opened_mapSafe cmd.value i taken free absent room
    case close cmd =>
      injection h with h; subst h
      exact runCommand_induct cmd _ safe (same _ rfl rfl)
        (onContext_induct _ _ _ _ (fun _ _ => ended _ _ _ _ _ taken) fun isOpen =>
          conclude_induct _ _ _ _ _ (fun _ => ended _ _ _ _ _ taken) fun _ =>
            ended _ _ _ _ _ (closeCtx_mapSafe taken isOpen))
    case softReset =>
      injection h with h; subst h
      refine whenLive_induct _ safe ?_
      unfold State.requestSoftReset
      split_ifs
      · exact safe
      · exact mapSafe_of_empty rfl rfl
      · exact same _ rfl rfl
    case drainClear =>
      injection h with h; subst h
      refine whenLive_induct _ safe ?_
      rcases endDrain_cases s with eq | eq <;> rw [eq]
      · exact safe
      · exact mapSafe_of_empty rfl rfl
    case fullReset cause => injection h with h; subst h; exact mapSafe_of_empty rfl rfl

/-- What the part does with no command keeps the map's invariant: a waiting segment, an expiry, or a millisecond (log 2). -/
theorem idle_mapSafe (s : State) (safe : MapSafe s) : MapSafe s.idle := by
  rcases idle_cases s with eq | eq | ⟨i, eq⟩ | ⟨i, eq⟩ | eq <;> rw [eq]
  · exact safe
  · rcases serveNext_cases s with eq | ⟨k, seg, _, _, eq⟩ <;> rw [eq]
    · exact safe
    · have moved : MapSafe (s.setChannel k none) := mapSafe_of_same safe rfl (fun _ => rfl) fun _ _ => rfl
      obtain ⟨i, goes⟩ := takeSegment_goes (s.setChannel k none) seg .idle
      refine (goes.follows (c := seg.presented .idle) fun _ => id).mapSafe ?_ (takeSegment_beside _ seg).1 moved
      cases seg <;> rfl
  · refine Follows.mapSafe (c := .stallExpiry 0) ((stallExpire_goes s i).follows fun b => ?_) rfl
      (stallExpire_beside s i).1 safe
    cases (s.ctx i).state <;> cases b <;> simp [transitionAllowed]
  · refine Follows.mapSafe (c := .abandonExpiry 0) ((abandonExpire_goes s i).follows fun b => ?_) rfl
      (abandonExpire_beside s i).1 safe
    cases (s.ctx i).state <;> cases b <;> simp [transitionAllowed]
  · exact Follows.mapSafe (c := .noticeWrite) (follows_of_faces (face_tick s)) rfl rfl safe

/-- Settles O9: R5's table enters and leaves the states with a key in the map by OPEN, CLOSE and the resets only, and these
write the map with it. -/
theorem lookupMapKept : Obligations.LookupMapKept := by
  intro s t safe h
  unfold step at h
  split at h
  · injection h with h
    exact h ▸ idle_mapSafe s safe
  · next rest _ =>
    exact exec_mapSafe _ { s with pending := rest } t (mapSafe_of_same safe rfl (fun _ => rfl) fun _ _ => rfl) h

end Sys2Proof.Contexts
end

section
/-! The bucket of a key, the resolution of an index, OPEN and QUERY: the statements O19 and O36 to O41. -/

namespace Sys2Proof.Contexts

open Sys2Proof Sys2Proof.Machine Sys2Proof.Laws

/-! ## The bucket of a key (R9) -/

/-- The four values that a bucket combines, as numbers. -/
theorem bucketOf_eq (k : Key) :
    bucketOf k = (k.tag.toNat ^^^ k.tag.toNat / 2 ^ 11 ^^^ k.tag.toNat / 2 ^ 22 ^^^ 8 * k.peer.toNat) % 2048 := by
  have peer : (k.peer.zeroExtend 32 <<< 3).toNat = 8 * k.peer.toNat := by
    have small := k.peer.isLt
    simp only [BitVec.truncate_eq_setWidth, BitVec.toNat_shiftLeft, BitVec.toNat_setWidth, Nat.shiftLeft_eq]
    omega
  unfold bucketOf
  simp only [BitVec.toNat_xor, BitVec.toNat_ushiftRight, Nat.shiftRight_eq_div_pow, peer]

theorem tag_shifted_small (k : Key) : k.tag.toNat / 2 ^ 22 < 2 ^ 10 := by
  have := k.tag.isLt
  omega

theorem peer_times_8_small (k : Key) : 8 * k.peer.toNat ≤ 2040 := by
  have := k.peer.isLt
  omega

/-- The low 11 bits of an exclusive or are those of its parts; the last two parts have no others. -/
theorem bucketOf_eq_low (k : Key) : bucketOf k =
    (k.tag.toNat % 2048 ^^^ k.tag.toNat / 2 ^ 11 % 2048 ^^^ k.tag.toNat / 2 ^ 22 ^^^ 8 * k.peer.toNat) := by
  have shifted : k.tag.toNat / 2 ^ 22 % 2 ^ 11 = k.tag.toNat / 2 ^ 22 :=
    Nat.mod_eq_of_lt (lt_trans (tag_shifted_small k) (by decide))
  have peer : 8 * k.peer.toNat % 2 ^ 11 = 8 * k.peer.toNat :=
    Nat.mod_eq_of_lt (lt_of_le_of_lt (peer_times_8_small k) (by decide))
  rw [bucketOf_eq, show 2048 = 2 ^ 11 from rfl]
  simp only [Nat.xor_mod_two_pow, shifted, peer]

/-- An entry that OPEN brings into the map stands in the bucket of OPEN's key (R11). -/
theorem open_bucket (cmd : Reply OpenCommand) (s : State) (b i : Nat)
    (inside : ⟨OpenCommand.key cmd.value, i⟩ ∈ (s.runCommand cmd fun cmd s => s.runOpen cmd).bucket b)
    (before : ⟨OpenCommand.key cmd.value, i⟩ ∉ s.bucket b) : b = bucketOf (OpenCommand.key cmd.value) := by
  revert inside
  refine runCommand_induct (P := fun t : State => ⟨OpenCommand.key cmd.value, i⟩ ∈ t.bucket b → _) cmd _
    (fun inside => absurd inside before) (fun inside => absurd inside before) ?_
  rcases runOpen_cases s.takeFetched cmd.value with ⟨status, eq⟩ | ⟨j, eq, _⟩ <;> rw [eq]
  · exact fun inside => absurd inside before
  · rw [opened_bucket]
    split
    · next place => exact fun _ => place
    · exact fun inside => absurd inside before

/-- Settles O19. -/
theorem bucketOfAKey : Obligations.BucketOfAKey := by
  intro k
  refine ⟨bucketOf_eq k, bucketOf_eq_low k, Nat.mod_lt _ (by decide), tag_shifted_small k, peer_times_8_small k,
    fun s i found => mem_of_lookup found, fun s t m b i key h inside before => ?_⟩
  injection h with h
  subst h key
  exact open_bucket m s b i inside before

/-! ## Commands that are taken, and their one CMD_RESULT -/

/-- A fetched command is run on the state its taking leaves (R171). -/
theorem runCommand_fetched {α : Type} {s : State} (fetched : Fetched s) {cmd : Reply α}
    (issued : cmd.issued = s.resets.count) (body : α → State → State) :
    s.runCommand cmd body = body cmd.value s.takeFetched := by
  obtain ⟨held, draining, fetch⟩ := fetched
  rw [runCommand_eq, if_pos ⟨held, issued, fetch⟩, if_neg (by simp [draining])]

/-- Two ends of commands with different statuses are different states. -/
theorem finish_ne_ended {s u : State} {tag tag' : BitVec 16} {code code' : BitVec 8} {status status' : CmdStatus}
    {i i' : Nat} (h : status ≠ status') : u.finish tag code status i ≠ s.ended tag' code' status' i' := by
  intro same
  have last : (u.finish tag code status i).notice.queue.getLast? = (s.ended tag' code' status' i').notice.queue.getLast? := by
    rw [same]
  simp only [finish_queue, State.ended, List.getLast?_append, List.getLast?_singleton, Option.some_or, Option.some.injEq,
    Notice.cmdResult.injEq] at last
  obtain ⟨_, _, _, statuses⟩ := last
  exact h statuses

/-- A status that checks end in is the status of one of them. -/
theorem status_of_firstFailure {l : List (Bool × CmdStatus)} {status : CmdStatus} (h : firstFailure l = some status) :
    status ∈ l.map Prod.snd := by
  induction l with
  | nil => cases h
  | cons e l ih =>
    obtain ⟨passes, other⟩ := e
    cases passes with
    | true => exact List.mem_cons_of_mem _ (ih h)
    | false => exact (Option.some.inj h) ▸ List.mem_cons_self

/-! ## The resolution of an index (R7) -/

section
variable (s : State) (index : BitVec 16)

theorem resolve_high (h : 4096 ≤ index.toNat) : s.resolve index = .refused .badParam 0 := by
  unfold State.resolve; rw [if_pos h]

theorem not_isOpen_of_shut {c : Ctx} (h : c.state = .free ∨ c.state = .closing) : c.isOpen = false := by
  rw [isOpen_eq]
  rcases h with h | h <;> rw [h] <;> rfl

theorem resolve_shut (low : index.toNat < 4096)
    (h : (s.ctx index.toNat).state = .free ∨ (s.ctx index.toNat).state = .closing) :
    s.resolve index = .refused .noContext index.toNat := by
  unfold State.resolve
  rw [if_neg (Nat.not_le.2 low), not_isOpen_of_shut h]
  rfl

theorem resolve_open (low : index.toNat < 4096) (h : (s.ctx index.toNat).isOpen = true) :
    s.resolve index = .context index.toNat := by
  unfold State.resolve
  rw [if_neg (Nat.not_le.2 low), if_pos h]

end

/-- The state a command that names a context leaves is R7's refusal, or what the command makes of an open context,
which is not an end with NO_CONTEXT. -/
structure ResolvedFirst (s t : State) (tag : BitVec 16) (code : BitVec 8) (index : BitVec 16) : Prop where
  high : 4096 ≤ index.toNat → t = s.ended tag code .badParam 0
  shut : index.toNat < 4096 → (s.ctx index.toNat).state = .free ∨ (s.ctx index.toNat).state = .closing →
    t = s.ended tag code .noContext index.toNat
  resolved : index.toNat < 4096 → (s.ctx index.toNat).isOpen = true → t ≠ s.ended tag code .noContext index.toNat

theorem onContext_resolvedFirst (s : State) (tag : BitVec 16) (code : BitVec 8) (index : BitVec 16)
    (body : Nat → State → State)
    (resolved : body index.toNat s.takeFetched ≠ s.ended tag code .noContext index.toNat) :
    ResolvedFirst s (s.takeFetched.onContext tag code index body) tag code index where
  high h := by unfold State.onContext; rw [resolve_high _ _ h]; rfl
  shut low h := by unfold State.onContext; rw [resolve_shut s.takeFetched index low h]; rfl
  resolved low h := by
    unfold State.onContext
    rw [resolve_open s.takeFetched index low h]
    exact resolved

/-- A command on a context whose own checks never give NO_CONTEXT. -/
theorem contextCommand_resolvedFirst {α : Type} {s : State} (fetched : Fetched s) {cmd : Reply α}
    (issued : cmd.issued = s.resets.count) (tag : α → BitVec 16) (code : BitVec 8) (index : α → BitVec 16)
    (failure : α → Nat → State → Option CmdStatus) (effect : α → Nat → State → State)
    (own : ∀ m i u, failure m i u ≠ some .noContext) :
    ResolvedFirst s (s.runCommand cmd fun cmd s => s.onContext (tag cmd) code (index cmd) fun i s =>
      s.conclude (tag cmd) code i (failure cmd i s) (effect cmd i)) (tag cmd.value) code (index cmd.value) := by
  rw [runCommand_fetched fetched issued]
  refine onContext_resolvedFirst _ _ _ _ _ ?_
  have differs := own cmd.value (index cmd.value).toNat s.takeFetched
  unfold State.conclude
  split
  · next status eq =>
    refine finish_ne_ended fun same => differs ?_
    rw [eq, same]
  · exact finish_ne_ended (by decide)

/-- A failing check of a table that does not list NO_CONTEXT. -/
theorem firstFailure_ne_noContext {l : List (Bool × CmdStatus)} (h : CmdStatus.noContext ∉ l.map Prod.snd) :
    firstFailure l ≠ some .noContext := fun failed => h (status_of_firstFailure failed)

theorem runQuery_resolved (s : State) (m : QueryCommand) (i : Nat) (h : s.querySelect m = .context i) :
    s.runQuery m = (if m.address.toNat % 64 ≠ 0 then s.finish m.hostTag codeQuery .badParam i
      else if s.mayWrite m.address.toNat Config.snapshotBytes = false then s.finish m.hostTag codeQuery .badAddress i
      else
        { s with
          command := { s.command with executing := some ⟨m.hostTag, i⟩ }
          delivery := { s.delivery with snapshotPort := .waiting ⟨m.address.toNat, s.capture i⟩ } }) := by
  unfold State.runQuery
  rw [h]
  simp only [Bool.not_eq_true']

theorem runQuery_refused (s : State) (m : QueryCommand) (status : CmdStatus) (i : Nat)
    (h : s.querySelect m = .refused status i) : s.runQuery m = s.finish m.hostTag codeQuery status i := by
  unfold State.runQuery
  rw [h]

theorem querySelect_index (s : State) (m : QueryCommand) (h : m.selector = 0) : s.querySelect m = s.resolve m.index := by
  unfold State.querySelect
  rw [if_pos h]

theorem querySelect_found {s : State} {m : QueryCommand} {i : Nat} (h : m.selector = 1)
    (found : s.lookup ⟨m.peer, m.tag⟩ = some i) : s.querySelect m = .context i := by
  unfold State.querySelect
  rw [if_neg (by rw [h]; decide), if_pos h, found]

theorem querySelect_absent {s : State} {m : QueryCommand} (h : m.selector = 1)
    (absent : s.lookup ⟨m.peer, m.tag⟩ = none) : s.querySelect m = .refused .noContext 0 := by
  unfold State.querySelect
  rw [if_neg (by rw [h]; decide), if_pos h, absent]

theorem querySelect_neither (s : State) (m : QueryCommand) (h : 1 < m.selector.toNat) :
    s.querySelect m = .refused .badParam 0 := by
  unfold State.querySelect
  rw [if_neg, if_neg]
  · rintro e; rw [e] at h; exact absurd h (by decide)
  · rintro e; rw [e] at h; exact absurd h (by decide)

theorem query_resolvedFirst {s : State} (fetched : Fetched s) {cmd : Reply QueryCommand}
    (issued : cmd.issued = s.resets.count) (selector : cmd.value.selector = 0) :
    ResolvedFirst s (s.runCommand cmd fun cmd s => s.runQuery cmd) cmd.value.hostTag 2 cmd.value.index := by
  have select : s.takeFetched.querySelect cmd.value = s.takeFetched.resolve cmd.value.index :=
    querySelect_index _ _ selector
  rw [runCommand_fetched fetched issued]
  refine ⟨fun h => ?_, fun low h => ?_, fun low h => ?_⟩
  · exact runQuery_refused _ _ _ _ (select.trans (resolve_high _ _ h))
  · exact runQuery_refused _ _ _ _ (select.trans (resolve_shut _ _ low h))
  · rw [runQuery_resolved _ _ _ (select.trans (resolve_open s.takeFetched _ low h))]
    split_ifs
    · exact finish_ne_ended (by decide)
    · exact finish_ne_ended (by decide)
    · intro same
      have queues := congrArg (fun t : State => t.notice.queue.length) same
      simp [State.ended, State.takeFetched] at queues

/-- Settles O36: each command that names a context runs behind the resolution of its index, and no check of its own gives
NO_CONTEXT. -/
theorem indexIsResolvedFirst : Obligations.IndexIsResolvedFirst := by
  intro c s tag code index fetched named issued
  have first : ∃ t, exec c s = .next t ∧ ResolvedFirst s t tag code index := by
    cases c <;> simp only [namedIndex, issuedAt, Option.some.injEq, reduceCtorEq, Prod.mk.injEq] at named issued
    case query cmd =>
      split at named
      · next selector =>
        simp only [Option.some.injEq, Prod.mk.injEq] at named
        obtain ⟨rfl, rfl, rfl⟩ := named
        exact ⟨_, rfl, query_resolvedFirst fetched issued selector⟩
      · cases named
    all_goals obtain ⟨rfl, rfl, rfl⟩ := named
    case adjust cmd =>
      exact ⟨_, rfl, contextCommand_resolvedFirst fetched issued (fun m => m.hostTag) codeAdjust (fun m => m.index)
        (fun _ _ _ => none) (fun m i u => u.adjustCtx i m) (by simp)⟩
    case refill cmd =>
      exact ⟨_, rfl, contextCommand_resolvedFirst fetched issued (fun m => m.hostTag) codeRefill (fun m => m.index)
        (fun m i u => firstFailure (u.refillChecks i m)) (fun m i u => u.refillArea i m)
        fun _ _ _ => firstFailure_ne_noContext (by simp [State.refillChecks])⟩
    case restart cmd =>
      exact ⟨_, rfl, contextCommand_resolvedFirst fetched issued (fun m => m.hostTag) codeRestart (fun m => m.index)
        (fun _ i u => firstFailure (u.ctx i).restartChecks) (fun _ i u => u.restart i)
        fun _ _ _ => firstFailure_ne_noContext (by simp [Ctx.restartChecks])⟩
    case reverify cmd =>
      exact ⟨_, rfl, contextCommand_resolvedFirst fetched issued (fun m => m.hostTag) codeReverify (fun m => m.index)
        (fun m i u => firstFailure (u.reverifyChecks i m)) (fun m i u => u.appendVerify i m.area.toNat)
        fun _ _ _ => firstFailure_ne_noContext (by simp [State.reverifyChecks])⟩
    case close cmd =>
      exact ⟨_, rfl, contextCommand_resolvedFirst fetched issued (fun m => m.hostTag) codeClose (fun m => m.index)
        (fun _ _ _ => none) (fun _ i u => u.closeCtx i) (by simp)⟩
    case groupJoin cmd =>
      exact ⟨_, rfl, contextCommand_resolvedFirst fetched issued (fun m => m.hostTag) codeGroupJoin (fun m => m.index)
        (fun m i u => firstFailure (u.joinChecks i m)) (fun m i u => u.joinGroup i m.group.toNat m.holdOnFailure)
        fun _ _ _ => firstFailure_ne_noContext (by simp [State.joinChecks])⟩
    case groupLeave cmd =>
      exact ⟨_, rfl, contextCommand_resolvedFirst fetched issued (fun m => m.hostTag) codeGroupLeave (fun m => m.index)
        (fun m i u => firstFailure [((u.ctx i).group.isSome, .wrongState)]) (fun _ i u => u.leaveGroup i)
        fun _ _ _ => firstFailure_ne_noContext (by simp)⟩
  obtain ⟨t, eq, resolved⟩ := first
  rw [eq]
  refine ⟨fun h => congrArg _ (resolved.high h), fun low h => congrArg _ (resolved.shut low h), fun low h u same => ?_⟩
  injection same with same
  exact same ▸ resolved.resolved low h

/-! ## OPEN (R13, R14) -/

/-- One row of a table of checks: a check fails where its condition of refusal holds. -/
theorem firstFailure_cons {passes : Bool} {refuses : Prop} [Decidable refuses] {status : CmdStatus}
    {rest : List (Bool × CmdStatus)} {later : Option CmdStatus} (row : passes = true ↔ ¬refuses)
    (rows : firstFailure rest = later) :
    firstFailure ((passes, status) :: rest) = if refuses then some status else later := by
  unfold firstFailure
  by_cases h : refuses
  · rw [if_pos h, if_neg (fun p => row.1 p h)]
  · rw [if_neg h, if_pos (row.2 h), rows]

/-- OPEN's checks are R13's table. -/
theorem openChecks_eq (s : State) (m : OpenCommand) : firstFailure (s.openChecks m) = s.openRefusal m := by
  refine firstFailure_cons (by simp) (firstFailure_cons ?_ (firstFailure_cons (by simp) (firstFailure_cons (by simp)
    (firstFailure_cons ?_ (firstFailure_cons ?_ (firstFailure_cons ?_ rfl))))))
  · simp
  · simp [OpenCommand.key]
  · rw [decide_eq_true_eq, Nat.not_le]; rfl
  · rcases freeContexts_one s with ⟨none, all⟩ | ⟨i, first, low, free, _⟩
    · simpa [none] using all
    · simpa [first] using ⟨i, low, free⟩

/-- Settles O37. -/
theorem openChecksInOrder : Obligations.OpenChecksInOrder := by
  intro m s status fetched refused
  have failed : firstFailure (s.takeFetched.openChecks m) = some status := (openChecks_eq s m).trans refused
  show Host.Outcome.next (s.runCommand (s.reply m) fun cmd s => s.runOpen cmd) = _
  rw [runCommand_fetched fetched rfl]
  unfold State.runOpen
  rw [show (s.reply m).value = m from rfl, failed]
  rfl

/-- A key inserted where it was not is found (R10, R11). -/
theorem opened_lookup {s : State} {m : OpenCommand} (i : Nat) (absent : s.lookup (OpenCommand.key m) = none) :
    (opened s m i).lookup (OpenCommand.key m) = some i := by
  have none_ : (s.bucket (bucketOf (OpenCommand.key m))).find? (fun e => e.key == OpenCommand.key m) = none :=
    Option.map_eq_none_iff.1 absent
  unfold State.lookup
  rw [opened_bucket, if_pos rfl, List.find?_append, none_]
  simp

/-- OPEN with every row of R13's table passed takes the lowest FREE record. -/
theorem runOpen_passed {s : State} {m : OpenCommand} {i : Nat} (passed : s.openRefusal m = none)
    (free : (s.ctx i).state = .free) (lowest : ∀ j, j < i → (s.ctx j).state ≠ .free) (low : i < 4096) :
    s.runOpen m = opened s m i := by
  unfold State.runOpen
  rw [openChecks_eq, passed]
  rcases freeContexts_one s with ⟨_, all⟩ | ⟨j, first, _, free', lowest'⟩
  · exact absurd free (all i low)
  · have same : j = i := by
      rcases Nat.lt_trichotomy j i with h | h | h
      · exact absurd free' (lowest j h)
      · exact h
      · exact absurd free (lowest' i h)
    rw [first, same]
    rfl

/-- Settles O38. -/
theorem openTakesTheLowestFreeRecord : Obligations.OpenTakesTheLowestFreeRecord := by
  intro m s i fetched select aligned0 aligned1 writable0 writable1 absent room low free lowest
  have passed : s.openRefusal m = none := by
    unfold State.openRefusal
    rw [if_neg (Nat.not_lt.2 select), if_neg (by simp [aligned0, aligned1]), if_neg (by simp [writable0]),
      if_neg (by simp [writable1]), if_neg (by simp [absent]), if_neg (Nat.not_le.2 room), if_neg]
    intro all
    have taken : (s.ctx i).state ≠ .free := by simpa using List.all_eq_true.1 all i (List.mem_range.2 low)
    exact taken free
  refine ⟨opened s.takeFetched m i, ?_, opened_lookup (s := s.takeFetched) i absent, ?_, ?_, fun b other => ?_,
    fun j other => ?_, rfl, rfl, rfl, rfl, rfl, rfl, rfl, rfl, rfl⟩
  · show Host.Outcome.next (s.runCommand (s.reply m) fun cmd s => s.runOpen cmd) = _
    rw [runCommand_fetched fetched rfl]
    exact congrArg _ (runOpen_passed (s := s.takeFetched) passed free lowest low)
  · rw [opened_ctx, if_pos rfl]
    rfl
  · exact (opened_bucket s.takeFetched m i _).trans (if_pos rfl)
  · exact (opened_bucket s.takeFetched m i b).trans (if_neg other)
  · exact (opened_ctx s.takeFetched m i j).trans (if_neg other)

/-! ## QUERY (R15, R16) -/

/-- A QUERY is run on the state its taking leaves. -/
theorem exec_query {s : State} (fetched : Fetched s) (m : QueryCommand) :
    exec (.query (s.reply m)) s = .next (s.takeFetched.runQuery m) :=
  congrArg Host.Outcome.next (runCommand_fetched fetched rfl _)

/-- The context a QUERY selects, by an open index or by a key in the map. -/
theorem querySelect_selected {s : State} {m : QueryCommand} {i : Nat}
    (h : (m.selector = 0 ∧ m.index.toNat = i ∧ i < 4096 ∧ (s.ctx i).isOpen = true) ∨
      (m.selector = 1 ∧ s.lookup ⟨m.peer, m.tag⟩ = some i)) : s.querySelect m = .context i := by
  rcases h with ⟨selector, rfl, low, isOpen⟩ | ⟨selector, found⟩
  · rw [querySelect_index s m selector, resolve_open s m.index low isOpen]
  · exact querySelect_found selector found

/-- Settles O39. -/
theorem queryChecksInOrder : Obligations.QueryChecksInOrder := by
  intro m s fetched
  have refused : ∀ status i, s.takeFetched.querySelect m = .refused status i →
      exec (.query (s.reply m)) s = .next (s.ended m.hostTag 2 status i) := fun status i h => by
    rw [exec_query fetched, runQuery_refused _ _ _ _ h]; rfl
  refine ⟨fun h => ?_, fun h high => ?_, fun h low shut => ?_, fun h absent => ?_, fun i selected => ?_⟩
  · exact refused _ _ (querySelect_neither _ _ h)
  · exact refused _ _ ((querySelect_index _ _ h).trans (resolve_high _ _ high))
  · exact refused _ _ ((querySelect_index _ _ h).trans (resolve_shut s.takeFetched _ low shut))
  · exact refused _ _ (querySelect_absent (s := s.takeFetched) h absent)
  · rw [exec_query fetched, runQuery_resolved _ _ _ (querySelect_selected (s := s.takeFetched) selected)]
    refine ⟨fun unaligned => ?_, fun aligned outside => ?_⟩
    · rw [if_pos unaligned]; rfl
    · rw [if_neg (by simp [aligned]), if_pos (show s.takeFetched.mayWrite _ _ = false from outside)]; rfl

/-- The settings followed are the leader's, or the context's own in no group (R133, R155). -/
theorem governor_eq {s : State} {i lead : Nat} (h : ((s.ctx i).group = none ∧ lead = i) ∨
    ∃ g more, (s.ctx i).group = some g ∧ (s.group g).members = lead :: more) : s.governor i = lead := by
  unfold State.governor
  rcases h with ⟨group, rfl⟩ | ⟨g, more, group, members⟩
  · rw [group]
  · rw [group]; simp [members]

/-- The failure hold of a context's group (R158). -/
theorem groupHold_iff (s : State) (i : Nat) : s.groupHold i = true ↔
    ∃ g, (s.ctx i).group = some g ∧ (s.group g).holdOnFailure = true ∧ 0 < (s.group g).failed := by
  unfold State.groupHold
  cases (s.ctx i).group <;> simp

/-- The effective hold by its sources (R133). -/
theorem effHold_iff (s : State) (i : Nat) : s.effHold i = true ↔
    (s.ctx (s.governor i)).hostHold = true ∨
      ((s.ctx i).exclusive = false ∧ ∃ g, (s.ctx i).group = some g ∧ (s.group g).holdOnFailure = true ∧
        0 < (s.group g).failed) ∨
      ((s.ctx i).exclusive = false ∧ (s.ctx i).signal = true ∧ s.actions.hold = true) := by
  unfold State.effHold
  rw [← groupHold_iff]
  cases (s.ctx i).exclusive <;> simp

/-- Settles O40: the capture is made of the record, the map and the group as they stand. -/
theorem queryCapturesTheRecord : Obligations.QueryCapturesTheRecord := by
  intro m s i fetched selected aligned writable
  refine ⟨_, s.takeFetched.capture i, exec_query fetched m, ?_, rfl, rfl, rfl, rfl, rfl, fun lead leads => ?_,
    fun k key => ?_, fun group => ?_, fun g group => ?_⟩
  · rw [runQuery_resolved _ _ _ (querySelect_selected (s := s.takeFetched) selected), if_neg (by simp [aligned]),
      if_neg (by rw [show s.takeFetched.mayWrite m.address.toNat Config.snapshotBytes = true from writable]; decide)]
    rfl
  · have governs := governor_eq leads
    refine ⟨?_, ?_, ?_⟩
    · show (s.ctx (s.governor i)).priority = _
      rw [governs]
    · show (s.ctx (s.governor i)).mask = _
      rw [governs]
    · rw [← governs]
      exact effHold_iff s i
  · have own : (s.takeFetched.ctx i).key = some k := key
    refine ⟨?_, ?_⟩ <;> simp only [State.capture, own] <;> rfl
  · have own : (s.takeFetched.ctx i).group = none := group
    simp only [State.capture, State.groupView, own]
    rfl
  · have own : (s.takeFetched.ctx i).group = some g := group
    simp only [State.capture, State.groupView, own]
    exact ⟨_, rfl, rfl, rfl, rfl, rfl, rfl, rfl, rfl⟩

/-- The status of a QUERY by its report (R16). -/
def queryStatus : Report → CmdStatus
  | .ok => .ok
  | .fault => .badAddress

/-- The QUERY in execution ends with the status its report gives (R16). -/
theorem endQuery_eq {s : State} {q : QueryExec} (h : s.command.executing = some q) (report : Report) :
    s.endQuery report = State.finish
      { s with
        command := { s.command with executing := none }
        delivery := { s.delivery with snapshotPort := .idle } } q.hostTag codeQuery (queryStatus report) q.index := by
  unfold State.endQuery
  cases report <;> simp only [h, queryStatus]

/-- A notice write that waits goes out with the snapshot write (R121; log 11). -/
def noticeOut (s : State) : State :=
  { s with delivery := { s.delivery with noticePort := s.delivery.noticePort.goOut } }

/-- A waiting snapshot write that no aperture allows is reported FAULT at once (R121). -/
theorem issueSnapshot_outside {s : State} {w : SnapshotWrite} (port : s.delivery.snapshotPort = .waiting w)
    (outside : s.mayWrite w.address 512 = false) : s.issueSnapshot = (noticeOut s).endQuery .fault := by
  unfold State.issueSnapshot
  simp only [port, outside, Bool.false_eq_true, if_false]
  unfold noticeOut
  simp only [port]

/-- Settles O41: the port issues the write or reports it FAULT itself, and each report ends the QUERY (`endQuery_eq`). -/
theorem snapshotWriteEndsTheQuery : Obligations.SnapshotWriteEndsTheQuery := by
  intro s w q live executing
  have issues : exec .snapshotWriteIssue s = .next s.issueSnapshot := by
    show Host.Outcome.next (s.whenLive _) = _
    simp [State.whenLive, State.live, live]
  have reports : ∀ report, s.delivery.snapshotPort = .issued w →
      exec (.snapshotWriteReport (s.reply report)) s = .next (s.endQuery report) := fun report port => by
    show Host.Outcome.next (s.takeReply _ _) = _
    simp [State.whenLive, State.live, live, State.takeSnapshotReport, port]
  refine ⟨fun port writable => ?_, fun port outside => ?_, fun port => ⟨?_, ?_⟩⟩
  · refine ⟨_, issues, ?_⟩
    simp [State.issueSnapshot, port, writable]
  · refine ⟨_, issues, ?_⟩
    rw [issueSnapshot_outside port outside, endQuery_eq (s := noticeOut s) executing]
    exact ⟨rfl, rfl, rfl, rfl, rfl, rfl, rfl, rfl, rfl⟩
  · refine ⟨_, reports .ok port, ?_⟩
    rw [endQuery_eq executing]
    exact ⟨rfl, rfl, rfl, rfl, rfl, rfl, rfl, rfl, rfl⟩
  · refine ⟨_, reports .fault port, ?_⟩
    rw [endQuery_eq executing]
    exact ⟨rfl, rfl, rfl, rfl, rfl, rfl, rfl, rfl, rfl⟩

end Sys2Proof.Contexts
end

section
/-! What the end of verify requests does to the notice queue and to what contexts are owed (R165 to R167, R174, R175). -/

namespace Sys2Proof.Contexts

open Sys2Proof Sys2Proof.Machine Sys2Proof.Laws

/-! ## Owed sets -/

theorem mem_owe {x k : OwedKind} {owed : List OwedKind} : x ∈ owe k owed ↔ x = k ∨ x ∈ owed := by
  have listed : x ∈ owedKinds := by cases x <;> decide
  simp [owe, listed]

theorem owe_ne_nil (k : OwedKind) (owed : List OwedKind) : owe k owed ≠ [] :=
  List.ne_nil_of_mem (mem_owe.2 (.inl rfl))

@[simp] theorem pushOrDrop_owed (s : State) (n : Notice) (j : Nat) :
    ((s.pushOrDrop n).ctx j).owed = (s.ctx j).owed := by rw [pushOrDrop_ctx]

@[simp] theorem setVerify_owed (s : State) (i p : Nat) (v : VerifyStatus) (j : Nat) :
    ((s.setVerify i p v).ctx j).owed = (s.ctx j).owed := by
  unfold State.setVerify
  rw [ctx_modCtx]
  split
  · next h => rw [h, setArea_owed]
  · rfl

/-- A notice charged to another context is not owed to this one. -/
theorem notify_owed_other (s : State) {i j : Nat} (k : OwedKind) (n : Notice) (h : j ≠ i) :
    ((s.notify i k n).ctx j).owed = (s.ctx j).owed := by
  rcases notify_cases s i k n with ⟨eq, _⟩ | ⟨eq, _⟩ <;> rw [eq]
  · rw [ctx_fold, if_neg h]
  · rw [push_ctx]

/-- The end of a request aborted by a CLOSE, or of another context's, is not owed to context `j` (R167). -/
theorem verifyOutcome_owed (s : State) {r : VerifyRequest} {j : Nat} (o : VerifyOutcome)
    (h : r.byClose = true ∨ j ≠ r.context) : ((s.verifyOutcome r o).ctx j).owed = (s.ctx j).owed := by
  have marked : ((if r.aborted then s else s.setVerify r.context r.area o.status : State).ctx j).owed = (s.ctx j).owed := by
    split
    · rfl
    · rw [setVerify_owed]
  unfold State.verifyOutcome State.verifyNotice
  dsimp only
  split
  · rw [pushOrDrop_owed, marked]
  · next kept => rw [notify_owed_other _ _ _ (h.resolve_left kept), marked]

theorem startVerify_owed {j : Nat} (l : List VerifyRequest) (s : State) (others : ∀ r ∈ l, j ≠ r.context) :
    ((startVerify l s).ctx j).owed = (s.ctx j).owed := by
  induction l generalizing s with
  | nil => rfl
  | cons r l ih =>
    unfold startVerify
    dsimp only
    split
    · exact setVerify_owed ..
    · rw [ih _ fun q hq => others q (List.mem_cons_of_mem _ hq),
        verifyOutcome_owed _ _ (.inr (others r List.mem_cons_self)), setVerify_owed]

theorem nextVerify_owed {j : Nat} (s : State) (l : List VerifyRequest) (others : ∀ r ∈ l, j ≠ r.context) :
    ((s.nextVerify l).ctx j).owed = (s.ctx j).owed := by
  unfold State.nextVerify
  split
  · rfl
  · exact startVerify_owed l s others

theorem foldAbort_owed (l : List VerifyRequest) (s : State) (j : Nat) :
    ((l.foldl (State.abortQueued true) s).ctx j).owed = (s.ctx j).owed := by
  induction l generalizing s with
  | nil => rfl
  | cons r l ih => rw [List.foldl_cons, ih]; exact verifyOutcome_owed s _ (.inl rfl)

/-! ## Notices of ended requests -/

/-- Between two states only VERIFY_RESULTs went out: they joined the queue's end, or were owed, and what is owed to a
context that was owed nothing was refused by a full queue. -/
structure Told (s t : State) : Prop where
  queue : ∃ more, t.notice.queue = s.notice.queue ++ more ∧ ∀ n ∈ more, ∃ i p w o, n = .verifyResult i p w o
  reserved : t.notice.reserved = s.notice.reserved
  still : ∀ j, (s.ctx j).owed ≠ [] → (t.ctx j).owed ≠ []
  folded : ∀ j, (s.ctx j).owed = [] → (t.ctx j).owed ≠ [] → t.notice.full = true

theorem full_iff (s : State) :
    s.notice.full = true ↔ 64 ≤ s.notice.queue.length + (if s.notice.reserved then 1 else 0) := by
  unfold NoticeUnit.full NoticeUnit.occupied
  exact decide_eq_true_iff

section
variable {s t u : State}

/-- A state with the notices of `s`, and with nothing else owed. -/
theorem told_of_same (notice : t.notice = s.notice) (owed : ∀ j, (t.ctx j).owed = (s.ctx j).owed) : Told s t where
  queue := ⟨[], by simp [notice], by simp⟩
  reserved := by rw [notice]
  still j h := by rw [owed]; exact h
  folded j h g := absurd h (by rw [← owed]; exact g)

theorem Told.full (h : Told s t) (full : s.notice.full = true) : t.notice.full = true := by
  obtain ⟨more, queue, _⟩ := h.queue
  rw [full_iff] at full ⊢
  rw [queue, h.reserved, List.length_append]
  omega

theorem Told.mem (h : Told s t) {n : Notice} (inside : n ∈ s.notice.queue) : n ∈ t.notice.queue := by
  obtain ⟨more, queue, _⟩ := h.queue
  rw [queue]
  exact List.mem_append_left _ inside

theorem Told.trans (h : Told s t) (k : Told t u) : Told s u where
  queue := by
    obtain ⟨more, queue, results⟩ := h.queue
    obtain ⟨more', queue', results'⟩ := k.queue
    refine ⟨more ++ more', by rw [queue', queue, List.append_assoc], fun n hn => ?_⟩
    exact (List.mem_append.1 hn).elim (results n) (results' n)
  reserved := k.reserved.trans h.reserved
  still j hj := k.still j (h.still j hj)
  folded j hs hu := by
    by_cases ht : (t.ctx j).owed = []
    · exact k.folded j ht hu
    · exact k.full (h.folded j hs ht)

end

theorem told_push (s : State) (i p w : Nat) (o : VerifyOutcome) : Told s (s.push (.verifyResult i p w o)) where
  queue := ⟨[_], rfl, fun _ hn => ⟨i, p, w, o, List.mem_singleton.1 hn⟩⟩
  reserved := rfl
  still _ h := h
  folded _ h g := absurd h g

theorem told_fold (s : State) (i : Nat) (k : OwedKind) (h : s.notice.full = true ∨ (s.ctx i).owed ≠ []) :
    Told s (s.fold i k) where
  queue := ⟨[], by simp, by simp⟩
  reserved := rfl
  still j hj := by
    rw [ctx_fold]
    split
    · exact owe_ne_nil k _
    · exact hj
  folded j hs ht := by
    rw [ctx_fold] at ht
    split at ht
    · next same => exact h.resolve_right fun owed => owed (same ▸ hs)
    · exact absurd hs ht

theorem told_verifyNotice (s : State) (r : VerifyRequest) (o : VerifyOutcome) : Told s (s.verifyNotice r o) := by
  unfold State.verifyNotice
  dsimp only
  split
  · rcases pushOrDrop_cases s (.verifyResult r.context r.area r.window o) with ⟨eq, _⟩ | ⟨eq, _⟩ <;> rw [eq]
    · exact told_of_same rfl fun _ => rfl
    · exact told_push ..
  · rcases notify_cases s r.context .verifyResult (.verifyResult r.context r.area r.window o) with ⟨eq, h⟩ | ⟨eq, _⟩ <;>
      rw [eq]
    · exact told_fold _ _ _ h
    · exact told_push ..

theorem told_setVerify (s : State) (i p : Nat) (v : VerifyStatus) : Told s (s.setVerify i p v) :=
  told_of_same rfl (setVerify_owed s i p v)

theorem told_verifyOutcome (s : State) (r : VerifyRequest) (o : VerifyOutcome) : Told s (s.verifyOutcome r o) := by
  unfold State.verifyOutcome
  split
  · exact told_verifyNotice ..
  · exact (told_setVerify ..).trans (told_verifyNotice ..)

theorem told_startVerify (l : List VerifyRequest) (s : State) : Told s (startVerify l s) := by
  induction l generalizing s with
  | nil => exact told_of_same rfl fun _ => rfl
  | cons r l ih =>
    have active := told_setVerify s r.context r.area .active
    unfold startVerify
    dsimp only
    split
    · exact active.trans (told_of_same rfl fun _ => rfl)
    · exact (active.trans (told_verifyOutcome ..)).trans (ih _)

theorem told_nextVerify (s : State) (l : List VerifyRequest) : Told s (s.nextVerify l) := by
  unfold State.nextVerify
  split
  · exact told_of_same rfl fun _ => rfl
  · exact told_startVerify l s

theorem told_foldAbort (b : Bool) (l : List VerifyRequest) (s : State) : Told s (l.foldl (State.abortQueued b) s) := by
  induction l generalizing s with
  | nil => exact told_of_same rfl fun _ => rfl
  | cons r l ih => rw [List.foldl_cons]; exact (told_verifyOutcome ..).trans (ih _)

/-- Each queued request that a CLOSE aborts has its VERIFY_RESULT in the queue, or the queue is full (R167). -/
theorem foldAbort_told (l : List VerifyRequest) (s : State) : ∀ q ∈ l,
    (l.foldl (State.abortQueued true) s).notice.full = true ∨
      Notice.verifyResult q.context q.area q.window .aborted ∈ (l.foldl (State.abortQueued true) s).notice.queue := by
  induction l generalizing s with
  | nil => intro q hq; cases hq
  | cons r l ih =>
    intro q hq
    rw [List.foldl_cons]
    rcases List.mem_cons.1 hq with rfl | hq
    · have later := told_foldAbort true l (State.abortQueued true s q)
      have now : (State.abortQueued true s q).notice.full = true ∨
          Notice.verifyResult q.context q.area q.window .aborted ∈ (State.abortQueued true s q).notice.queue := by
        unfold State.abortQueued State.verifyOutcome State.verifyNotice
        dsimp only
        rw [if_pos rfl]
        generalize (if q.aborted then s else _ : State) = v
        rcases pushOrDrop_cases v (.verifyResult q.context q.area q.window .aborted) with ⟨eq, full⟩ | ⟨eq, _⟩ <;> rw [eq]
        · exact .inl full
        · exact .inr (by simp)
      exact now.imp later.full later.mem
    · exact ih _ q hq

/-! ## The verify queue -/

theorem startVerify_contexts (l : List VerifyRequest) (s : State) :
    ∀ q ∈ (startVerify l s).verify, ∃ r ∈ l, q.context = r.context := by
  induction l generalizing s with
  | nil => intro q hq; cases hq
  | cons r l ih =>
    intro q hq
    unfold startVerify at hq
    dsimp only at hq
    split at hq
    · rcases List.mem_cons.1 hq with rfl | hq
      · exact ⟨r, List.mem_cons_self, rfl⟩
      · exact ⟨q, List.mem_cons_of_mem _ hq, rfl⟩
    · obtain ⟨p, hp, same⟩ := ih _ q hq
      exact ⟨p, List.mem_cons_of_mem _ hp, same⟩

theorem nextVerify_contexts (s : State) (l : List VerifyRequest) :
    ∀ q ∈ (s.nextVerify l).verify, ∃ r ∈ l, q.context = r.context := by
  unfold State.nextVerify
  split
  · exact fun q hq => ⟨q, hq, rfl⟩
  · exact startVerify_contexts l s

/-- Everything the abort of a closed context's requests can do (R167): its queued requests leave, each told of as R174 lets
it; of the active request it marks the context's own, or ends it and goes on with the rest. -/
structure AbortedByClose (s t : State) (i : Nat) : Prop where
  told : Told s t
  owed : (t.ctx i).owed = (s.ctx i).owed
  marked : ∀ q ∈ t.verify, q.context = i → q.aborted = true ∧ q.byClose = true
  queued : ∀ q ∈ s.verify.tail, q.context = i →
    t.notice.full = true ∨ Notice.verifyResult i q.area q.window .aborted ∈ t.notice.queue
  reading : ∀ a rest, s.verify = a :: rest → a.context = i → a.readOutstanding = true →
    t.verify = { a with aborted := true, byClose := true } :: rest.filter fun q => q.context != i
  other : ∀ a rest, s.verify = a :: rest → a.context ≠ i → t.verify = a :: rest.filter fun q => q.context != i

/-- The queue without the requests of context `i`. -/
def othersOf (i : Nat) (queue : List VerifyRequest) : List VerifyRequest := queue.filter fun q => q.context != i

theorem othersOf_context {i : Nat} {queue : List VerifyRequest} {q : VerifyRequest} (h : q ∈ othersOf i queue) :
    q.context ≠ i := by simpa using (List.mem_filter.1 h).2

/-- The queued requests of context `i`, behind the active one, aborted by its CLOSE (R167). -/
def queuedAborted (s : State) (i : Nat) (act : VerifyRequest) (rest : List VerifyRequest) : State :=
  (rest.filter fun q => q.context == i).foldl (State.abortQueued true) { s with verify := act :: othersOf i rest }

section
variable {s v : State} {i : Nat} {act : VerifyRequest} {rest : List VerifyRequest}

theorem told_queuedAborted (s : State) (i : Nat) (act : VerifyRequest) (rest : List VerifyRequest) :
    Told s (queuedAborted s i act rest) :=
  Told.trans (t := { s with verify := act :: othersOf i rest }) (told_of_same rfl fun _ => rfl)
    (told_foldAbort true (rest.filter fun q => q.context == i) _)

theorem queuedAborted_owed (s : State) (i : Nat) (act : VerifyRequest) (rest : List VerifyRequest) (j : Nat) :
    ((queuedAborted s i act rest).ctx j).owed = (s.ctx j).owed := foldAbort_owed _ _ j

theorem queuedAborted_verify (s : State) (i : Nat) (act : VerifyRequest) (rest : List VerifyRequest) :
    (queuedAborted s i act rest).verify = act :: othersOf i rest := by
  unfold queuedAborted
  simp only [foldAbort_frame]

/-- What goes on from there with VERIFY_RESULTs only keeps each abort told of. -/
theorem queued_told (h : s.verify = act :: rest) (told : Told (queuedAborted s i act rest) v) :
    ∀ q ∈ s.verify.tail, q.context = i →
      v.notice.full = true ∨ Notice.verifyResult i q.area q.window .aborted ∈ v.notice.queue := by
  intro q hq own
  rw [h] at hq
  have aborted := foldAbort_told (rest.filter fun q => q.context == i) { s with verify := act :: othersOf i rest } q
    (List.mem_filter.2 ⟨hq, by simpa using own⟩)
  rw [own] at aborted
  exact aborted.imp told.full told.mem

/-- The active request is another context's: it stays as it is. -/
theorem abortedByClose_other (h : s.verify = act :: rest) (ne : act.context ≠ i) :
    AbortedByClose s (queuedAborted s i act rest) i where
  told := told_queuedAborted s i act rest
  owed := queuedAborted_owed s i act rest i
  marked q hq own := by
    rw [queuedAborted_verify] at hq
    rcases List.mem_cons.1 hq with rfl | hq
    · exact absurd own ne
    · exact absurd own (othersOf_context hq)
  queued := queued_told h (told_of_same rfl fun _ => rfl)
  reading a rest' h' own := by
    rw [h] at h'
    injection h' with h1 _
    exact absurd (h1 ▸ own) ne
  other a rest' h' _ := by
    rw [h] at h'
    injection h' with h1 h2
    rw [queuedAborted_verify, h1, h2]
    rfl

/-- The active request is the closed context's own: what then becomes of it. -/
theorem abortedByClose_own (h : s.verify = act :: rest) (own : act.context = i)
    (told : Told (queuedAborted s i act rest) v) (owed : (v.ctx i).owed = ((queuedAborted s i act rest).ctx i).owed)
    (marked : ∀ q ∈ v.verify, q.context = i → q.aborted = true ∧ q.byClose = true)
    (reading : act.readOutstanding = true →
      v.verify = { act with aborted := true, byClose := true } :: othersOf i rest) : AbortedByClose s v i where
  told := (told_queuedAborted s i act rest).trans told
  owed := owed.trans (queuedAborted_owed s i act rest i)
  marked := marked
  queued := queued_told h told
  reading a rest' h' _ reads := by
    rw [h] at h'
    injection h' with h1 h2
    rw [← h1] at reads ⊢
    rw [reading reads, h2]
    rfl
  other a rest' h' ne := by
    rw [h] at h'
    injection h' with h1 _
    exact absurd (h1 ▸ own) ne

theorem marked_cons (q : VerifyRequest)
    (hq : q ∈ ({ act with aborted := true, byClose := true } : VerifyRequest) :: othersOf i rest) (own : q.context = i) :
    q.aborted = true ∧ q.byClose = true := by
  rcases List.mem_cons.1 hq with rfl | hq
  · exact ⟨rfl, rfl⟩
  · exact absurd own (othersOf_context hq)

end

theorem abortVerify_byClose (s : State) (i : Nat) : AbortedByClose s (s.abortVerify i true) i := by
  unfold State.abortVerify
  split
  · next empty =>
    exact
      { told := told_of_same rfl fun _ => rfl, owed := rfl
        marked := fun q hq => by rw [empty] at hq; cases hq
        queued := fun q hq => by rw [empty] at hq; cases hq
        reading := fun a rest h => by rw [empty] at h; cases h
        other := fun a rest h => by rw [empty] at h; cases h }
  · next act rest queue =>
    dsimp only
    change AbortedByClose s (if act.context != i then queuedAborted s i act rest else _) i
    split
    · next ne => exact abortedByClose_other queue (by simpa using ne)
    · next eq =>
      have own : act.context = i := by simpa using eq
      split
      · next aborted =>
        have marked : ({ act with byClose := act.byClose || true } : VerifyRequest) =
            { act with aborted := true, byClose := true } := by
          rw [Bool.or_true]
          exact congrArg (fun b => ({ act with aborted := b, byClose := true } : VerifyRequest)) aborted
        rw [marked]
        exact abortedByClose_own queue own (told_of_same rfl fun _ => rfl) rfl marked_cons fun _ => rfl
      · have shown := told_setVerify (queuedAborted s i act rest) i act.area .aborted
        split
        · exact abortedByClose_own queue own (shown.trans (told_of_same rfl fun _ => rfl)) (setVerify_owed ..)
            marked_cons fun _ => rfl
        · next idle =>
          refine abortedByClose_own queue own
            ((shown.trans (told_verifyOutcome _ { act with aborted := true, byClose := true } .aborted)).trans
              (told_nextVerify _ (othersOf i rest))) ?_ (fun q hq e => ?_) fun reads => absurd reads idle
          · exact (nextVerify_owed _ _ fun r hr e => othersOf_context hr e.symm).trans
              ((verifyOutcome_owed _ _ (.inl rfl)).trans (setVerify_owed ..))
          · obtain ⟨r, hr, same⟩ := nextVerify_contexts _ (othersOf i rest) q hq
            exact absurd (same.symm.trans e) (othersOf_context hr)

end Sys2Proof.Contexts
end

section
/-! What a re-evaluation, a release and the leaving of a group do (R84, R92, R153). -/

namespace Sys2Proof.Contexts

open Sys2Proof Sys2Proof.Machine Sys2Proof.Laws

/-! ## Records judged again -/

/-- A record that is not WRITING is judged as R83 says. -/
theorem judged_eq_fitState (t : State) (rec : StagedRecord) (h : rec.state ≠ .writing) :
    t.judged rec = t.fitState rec := by
  have whole : t.eligible rec.owner rec.pieces = true ↔
      (∀ p ∈ rec.pieces, ((t.ctx rec.owner).area p.window).state = .ready ∧
        ((t.ctx rec.owner).area p.window).window = some p.window) ∧
      t.effHold rec.owner = false ∧ (t.ctx rec.owner).fence = false := by
    simp [State.eligible, and_assoc]
  unfold State.judged State.fitState
  simp only [whole]
  cases hs : rec.state with
  | writing => exact absurd hs h
  | parked => rfl
  | eligible => rfl

theorem judged_of_writing (t : State) (rec : StagedRecord) (h : rec.state = .writing) : t.judged rec = .writing := by
  unfold State.judged
  rw [h]

/-- A re-evaluation leaves a WRITING record as it is. -/
theorem judgedAgain_of_writing {t : State} {pick : Nat → Bool} {rec : StagedRecord} (h : rec.state = .writing) :
    t.judgedAgain pick rec = rec := by
  unfold State.judgedAgain
  rw [if_neg fun g => g.1 h]

/-- What a re-evaluation makes of a record is what the statements say of it (R84). -/
theorem judgedAgain_eq (t : State) (pick : Nat → Bool) (rec : StagedRecord) :
    (if pick rec.owner then { rec with state := t.judged rec } else rec) = t.judgedAgain pick rec := by
  by_cases writing : rec.state = .writing
  · rw [judgedAgain_of_writing writing, judged_of_writing t rec writing, ← writing, ite_self]
  · unfold State.judgedAgain
    rw [judged_eq_fitState t rec writing]
    simp only [writing, ne_eq, not_false_iff, true_and]

/-- The judgement of a record hangs on its owner's record and effective hold. -/
theorem judgedAgain_congr {t u : State} {pick pick' : Nat → Bool} {rec : StagedRecord}
    (ctx : t.ctx rec.owner = u.ctx rec.owner) (hold : t.effHold rec.owner = u.effHold rec.owner)
    (picked : pick rec.owner = pick' rec.owner) : t.judgedAgain pick rec = u.judgedAgain pick' rec := by
  unfold State.judgedAgain State.fitState
  rw [ctx, hold, picked]

/-! ## Effective holds -/

/-- What the effective holds read of a record (R133). -/
def holdFields (c : Ctx) : Option Nat × Bool × Bool × Bool := (c.group, c.exclusive, c.signal, c.hostHold)

theorem holdFields_of_core {c d : Ctx} (h : core c = core d) : holdFields c = holdFields d :=
  show holdFields (core c) = holdFields (core d) from congrArg holdFields h

/-- The effective holds read the groups, the action set and four fields of the records (R133). -/
theorem effHold_congr {s t : State} (groups : t.groups = s.groups) (actions : t.actions = s.actions)
    (same : ∀ j, holdFields (t.ctx j) = holdFields (s.ctx j)) (k : Nat) : t.effHold k = s.effHold k := by
  have groupsSame : ∀ g, t.group g = s.group g := fun g => by unfold State.group; rw [groups]
  simp only [holdFields, Prod.mk.injEq, forall_and] at same
  obtain ⟨group, exclusive, signal, hostHold⟩ := same
  unfold State.effHold State.groupHold State.governor
  simp only [group, exclusive, signal, hostHold, groupsSame, actions]

/-- A context's effective hold does not read the record of another that does not lead its group. -/
theorem effHold_of_others {s t : State} {i k : Nat} (groups : t.groups = s.groups) (actions : t.actions = s.actions)
    (same : ∀ j, j ≠ i → t.ctx j = s.ctx j) (other : k ≠ i) (leads : s.governor k ≠ i) : t.effHold k = s.effHold k := by
  have groupsSame : ∀ g, t.group g = s.group g := fun g => by unfold State.group; rw [groups]
  have governs : t.governor k = s.governor k := by unfold State.governor; simp only [same k other, groupsSame]
  unfold State.effHold State.groupHold
  simp only [governs, same k other, same _ leads, groupsSame, actions]

/-! ## Releases -/

theorem lookup_filter {α : Type} {t : Table α} (sorted : Table.sorted t) (p : Nat × α → Bool) (r : Nat) :
    Table.lookup (t.filter p) r = (Table.lookup t r).filter fun v => p (r, v) := by
  ext v
  simp [lookup_eq_some (sorted_filter p sorted), lookup_eq_some sorted, Option.filter_eq_some_iff]

/-- What is left of a context's records by the release of its unwritten ones (R92). -/
theorem releaseUnwritten_staged {s : State} (sorted : Table.sorted s.staging.pool) (i r : Nat) :
    (s.releaseUnwritten i).staged r =
      (s.staged r).filter fun rec => !(rec.owner == i && rec.state != .writing) :=
  lookup_filter sorted _ r

/-- A release changes of its context the staged list and the blocks held, and no other context (R91, R92). -/
theorem releaseUnwritten_ctx (s : State) (i : Nat) : ∃ staged blocks, ∀ j, (s.releaseUnwritten i).ctx j =
    if j = i then { s.ctx i with staged := staged, blocksHeld := blocks } else s.ctx j :=
  ⟨_, _, ctx_of_set rfl⟩

/-- A release sets constrained mode from the blocks it leaves free (R89). -/
theorem releaseUnwritten_mode (s : State) (i : Nat) : ModeSet s (s.releaseUnwritten i) := by
  unfold ModeSet State.releaseUnwritten State.release constrainedAfter
  dsimp only
  cases s.staging.constrained <;> rfl

/-! ## Leaving a group (R153) -/

theorem leaveGroup_of_none {s : State} {i : Nat} (h : (s.ctx i).group = none) : s.leaveGroup i = s := by
  unfold State.leaveGroup
  rw [h]

/-- The group and the context's field as the leaving writes them, before the GROUP_DONE test (R153). -/
def left (s : State) (i g : Nat) : State :=
  (s.setGroup g ((s.group g).without i (s.ctx i).state)).modCtx i fun c => { c with group := none }

theorem leaveGroup_of_some {s : State} {i g : Nat} (h : (s.ctx i).group = some g) :
    s.leaveGroup i = ((left s i g).groupDoneTest g (s.group g)).rejudgeHolds s := by
  unfold State.leaveGroup left
  rw [h]

theorem left_ctx (s : State) (i g j : Nat) : (left s i g).ctx j =
    if j = i then { s.ctx i with group := none } else s.ctx j := ctx_modCtx ..

theorem left_owed (s : State) (i g j : Nat) : ((left s i g).ctx j).owed = (s.ctx j).owed := by
  rw [left_ctx]
  split
  · next h => rw [h]
  · rfl

theorem left_group (s : State) (i g h : Nat) : (left s i g).group h =
    if h = g then (s.group g).without i (s.ctx i).state else s.group h := group_setGroup ..

theorem group_of_groups {s t : State} (h : t.groups = s.groups) (g : Nat) : t.group g = s.group g := by
  unfold State.group; rw [h]

/-- The groups after a context has left its own. -/
theorem leaveGroup_group (s : State) (i h : Nat) : (s.leaveGroup i).group h =
    if (s.ctx i).group = some h then (s.group h).without i (s.ctx i).state else s.group h := by
  cases hg : (s.ctx i).group with
  | none => rw [leaveGroup_of_none hg, if_neg (by simp)]
  | some g =>
    rw [leaveGroup_of_some hg, group_of_groups (s := left s i g) (by simp) h, left_group]
    by_cases e : h = g
    · rw [if_pos e, if_pos (by rw [e]), e]
    · rw [if_neg e, if_neg fun g' => e (Option.some.inj g').symm]

/-- The leaving of a group changes nothing of a record but its group, its areas and what it is owed. -/
theorem core_leaveGroup (s : State) (i j : Nat) : core ((s.leaveGroup i).ctx j) =
    if j = i then { core (s.ctx i) with group := none } else core (s.ctx j) := by
  cases hg : (s.ctx i).group with
  | none =>
    rw [leaveGroup_of_none hg]
    split
    · next e => rw [e]; unfold core; rw [hg]
    · rfl
  | some g =>
    rw [leaveGroup_of_some hg, rejudgeHolds_ctx, core_groupDoneTest, left_ctx]
    split <;> rfl

theorem without_members (g : Group) (i : Nat) (st : CtxState) :
    (g.without i st).members = g.members.filter fun j => j != i := by
  unfold Group.without
  dsimp only
  split
  · next h => exact (List.isEmpty_iff.1 h).symm
  · rfl

/-- What a leaving makes of a group, as the statements write it (R153, steps 1, 2 and 4). -/
theorem without_eq (g : Group) (i : Nat) (st : CtxState) : g.without i st =
    if (g.members.filter fun j => j != i) = [] then { members := [], holdOnFailure := false, done := 0, failed := 0 }
    else
      { members := g.members.filter fun j => j != i, holdOnFailure := g.holdOnFailure
        done := if st = .done then g.done - 1 else g.done
        failed := if st = .failed then g.failed - 1 else g.failed } := by
  unfold Group.without
  simp only [List.isEmpty_iff]
  rfl

/-- The GROUP_DONE test at a leaving: it leaves every remaining member DONE, which was not so before (R153, R157). -/
theorem without_completes (g : Group) (i : Nat) (st : CtxState) :
    (g.done != g.members.length && (g.without i st).complete) = true ↔
      (g.members.filter fun j => j != i) ≠ [] ∧ g.done ≠ g.members.length ∧
        (if st = .done then g.done - 1 else g.done) = (g.members.filter fun j => j != i).length := by
  unfold Group.complete
  rw [without_eq]
  by_cases empty : (g.members.filter fun j => j != i) = []
  · simp [empty]
  · rw [if_neg empty]
    simp [empty]

/-- No notice of a group goes out when a leaving does not leave every member DONE. -/
theorem leaveGroup_quiet {s : State} {i g : Nat} (hg : (s.ctx i).group = some g)
    (h : ¬((s.group g).done != (s.group g).members.length && ((s.group g).without i (s.ctx i).state).complete) = true) :
    (s.leaveGroup i).notice = s.notice := by
  rw [leaveGroup_of_some hg]
  unfold State.groupDoneTest
  dsimp only
  rw [left_group, if_pos rfl, if_neg h]
  rfl

/-- A leaving takes nothing off the notice queue. -/
theorem leaveGroup_queue (s : State) (i : Nat) :
    (∃ more, (s.leaveGroup i).notice.queue = s.notice.queue ++ more) ∧
      (s.leaveGroup i).notice.reserved = s.notice.reserved := by
  cases hg : (s.ctx i).group with
  | none => rw [leaveGroup_of_none hg]; exact ⟨⟨[], (List.append_nil _).symm⟩, rfl⟩
  | some g =>
    rw [leaveGroup_of_some hg]
    unfold State.groupDoneTest
    dsimp only
    split
    · rcases notify_cases (left s i g) (((left s i g).group g).members.headD 0) .groupDone
        (.groupDone (((left s i g).group g).members.headD 0) g ((left s i g).group g).members.length) with
        ⟨eq, _⟩ | ⟨eq, _⟩ <;> rw [eq]
      · exact ⟨⟨[], (List.append_nil _).symm⟩, rfl⟩
      · exact ⟨⟨[_], rfl⟩, rfl⟩
    · exact ⟨⟨[], (List.append_nil _).symm⟩, rfl⟩

/-- GROUP_DONE at a leaving: queued, or owed to the leader as it then stands (R153, R159, R174, R175). -/
theorem leaveGroup_done {s : State} {i g : Nat} (hg : (s.ctx i).group = some g)
    (h : ((s.group g).done != (s.group g).members.length && ((s.group g).without i (s.ctx i).state).complete) = true) :
    let members := (s.group g).members.filter fun j => j != i
    ((s.leaveGroup i).notice = { s.notice with queue := s.notice.queue ++
          [Notice.groupDone (members.headD 0) g members.length] } ∧
        (s.ctx (members.headD 0)).owed = []) ∨
      ((s.leaveGroup i).notice = { s.notice with overflow := true } ∧
        OwedKind.groupDone ∈ ((s.leaveGroup i).ctx (members.headD 0)).owed ∧
        (s.notice.full = true ∨ (s.ctx (members.headD 0)).owed ≠ [])) := by
  intro members
  have tested : (left s i g).groupDoneTest g (s.group g) =
      (left s i g).notify (members.headD 0) .groupDone (.groupDone (members.headD 0) g members.length) := by
    unfold State.groupDoneTest
    dsimp only
    rw [left_group, if_pos rfl, if_pos h, without_members]
  rw [leaveGroup_of_some hg, tested]
  rcases notify_cases (left s i g) (members.headD 0) .groupDone (.groupDone (members.headD 0) g members.length) with
    ⟨eq, why⟩ | ⟨eq, _, owed⟩ <;> rw [eq]
  · rw [left_owed] at why
    refine .inr ⟨rfl, ?_, why⟩
    rw [rejudgeHolds_ctx, ctx_fold, if_pos rfl]
    exact mem_owe.2 (.inl rfl)
  · rw [left_owed] at owed
    exact .inl ⟨rfl, owed⟩

/-- A leaving adds GROUP_DONE, and nothing else, to what contexts are owed. -/
theorem leaveGroup_owed {s : State} {i j : Nat} {x : OwedKind} (h : x ∈ ((s.leaveGroup i).ctx j).owed) :
    x = .groupDone ∨ x ∈ (s.ctx j).owed := by
  cases hg : (s.ctx i).group with
  | none => rw [leaveGroup_of_none hg] at h; exact .inr h
  | some g =>
    rw [leaveGroup_of_some hg, rejudgeHolds_ctx] at h
    unfold State.groupDoneTest at h
    dsimp only at h
    split at h
    · rcases notify_cases (left s i g) (((left s i g).group g).members.headD 0) .groupDone
        (.groupDone (((left s i g).group g).members.headD 0) g ((left s i g).group g).members.length) with
        ⟨eq, _⟩ | ⟨eq, _⟩ <;> rw [eq] at h
      · rw [ctx_fold] at h
        split at h
        · next e => rw [← left_owed s i g j, e]; exact mem_owe.1 h
        · rw [left_owed] at h; exact .inr h
      · rw [push_ctx, left_owed] at h; exact .inr h
    · rw [left_owed] at h; exact .inr h

/-- A leaving has the records judged again of the contexts whose effective hold it changed (R134, R153). -/
theorem leaveGroup_staged (s : State) (i r : Nat) : (s.leaveGroup i).staged r =
    (s.staged r).map ((s.leaveGroup i).judgedAgain (s.holdChanged (s.leaveGroup i))) := by
  cases hg : (s.ctx i).group with
  | none =>
    rw [leaveGroup_of_none hg]
    have unchanged : (s.judgedAgain (s.holdChanged s) : StagedRecord → StagedRecord) = id := by
      funext rec
      simp [State.judgedAgain, State.holdChanged]
    rw [unchanged, Option.map_id_apply]
  | some g =>
    rw [leaveGroup_of_some hg]
    have pool : ((left s i g).groupDoneTest g (s.group g)).staging = s.staging :=
      (groupDoneTest_frame _ g (s.group g)).2.2.1
    generalize (left s i g).groupDoneTest g (s.group g) = t at pool ⊢
    have before : t.staged r = s.staged r := by unfold State.staged; rw [pool]
    unfold State.rejudgeHolds
    rw [staged_rejudge, before]
    refine congrArg (fun f => Option.map f (s.staged r)) (funext fun rec => ?_)
    rw [judgedAgain_eq t (fun k => s.effHold k != t.effHold k) rec]
    exact judgedAgain_congr rfl rfl (bne_comm (a := s.effHold rec.owner))

/-- A leaving frees no block and sets no mode. -/
theorem leaveGroup_counts (s : State) (i : Nat) :
    (s.leaveGroup i).staging.freeBlocks = s.staging.freeBlocks ∧
      (s.leaveGroup i).staging.constrained = s.staging.constrained := by
  cases hg : (s.ctx i).group with
  | none => rw [leaveGroup_of_none hg]; exact ⟨rfl, rfl⟩
  | some g =>
    rw [leaveGroup_of_some hg]
    have pool : ((left s i g).groupDoneTest g (s.group g)).staging = s.staging :=
      (groupDoneTest_frame _ g (s.group g)).2.2.1
    generalize (left s i g).groupDoneTest g (s.group g) = t at pool ⊢
    exact ⟨(congrArg Staging.freeBlocks pool :), (congrArg Staging.constrained pool :)⟩

/-- After a leaving the context leads no other one (R150, R153). -/
theorem leaveGroup_governor {s : State} {i k : Nat}
    (listed : ∀ g, i ∈ (s.group g).members → (s.ctx i).group = some g) (other : k ≠ i) : (s.leaveGroup i).governor k ≠ i := by
  have group : ((s.leaveGroup i).ctx k).group = (s.ctx k).group := by
    have kept := core_leaveGroup s i k
    rw [if_neg other] at kept
    exact (congrArg Ctx.group kept :)
  unfold State.governor
  rw [group]
  cases hk : (s.ctx k).group with
  | none => exact other
  | some g =>
    have absent : i ∉ ((s.leaveGroup i).group g).members := by
      rw [leaveGroup_group]
      split
      · rw [without_members]; simp
      · next notOwn => exact fun inside => notOwn (listed g inside)
    dsimp only
    generalize ((s.leaveGroup i).group g).members = members at absent ⊢
    cases members with
    | nil => exact other
    | cons lead more => exact fun same => absent (List.mem_cons.2 (.inl same.symm))

end Sys2Proof.Contexts
end

section
/-! CLOSE (R19 to R21): the statement O48. -/

namespace Sys2Proof.Contexts

open Sys2Proof Sys2Proof.Machine Sys2Proof.Laws

/-! ## The lookup map -/

/-- After a CLOSE its key finds nothing, and every other key what it found before (R11, R19). -/
theorem closeCtx_lookup {s : State} {i : Nat} {k : Key} (h : (s.ctx i).key = some k) :
    (s.closeCtx i).lookup k = none ∧ ∀ k', k' ≠ k → (s.closeCtx i).lookup k' = s.lookup k' := by
  refine ⟨lookup_eq_none.2 fun e inside => ?_, fun k' other => ?_⟩
  · rw [closeCtx_bucket h, if_pos rfl] at inside
    simpa using (List.mem_filter.1 inside).2
  · unfold State.lookup
    rw [closeCtx_bucket h]
    split
    · next same =>
      rw [List.find?_filter, same]
      congr 2
      funext e
      by_cases own : e.key = k'
      · simp [own, other]
      · simp [own]
    · rfl

/-! ## Up to the group -/

theorem unverified_frame (s : State) (i : Nat) :
    (unverified s i).intake = s.intake ∧ (unverified s i).staging = (s.releaseUnwritten i).staging ∧
      (unverified s i).delivery = s.delivery ∧ (unverified s i).actions = s.actions ∧
      (unverified s i).groups = s.groups ∧ (unverified s i).resets = s.resets := by
  have kept := keyless_frame s i
  have staging : ((keyless s i).releaseUnwritten i).staging = (s.releaseUnwritten i).staging := by
    unfold State.releaseUnwritten State.release
    simp only [kept]
  unfold unverified
  simp only [abortVerify_frame, releaseUnwritten_frame, kept, staging, and_self]

theorem unverified_groups (s : State) (i : Nat) : (unverified s i).groups = s.groups :=
  let ⟨_, _, _, _, groups, _⟩ := unverified_frame s i
  groups

theorem unverified_actions (s : State) (i : Nat) : (unverified s i).actions = s.actions :=
  let ⟨_, _, _, actions, _⟩ := unverified_frame s i
  actions

/-- Up to the group, CLOSE changes of a record its areas, what it is owed, and, of its own context, what is staged. -/
theorem core_unverified (s : State) (i : Nat) : ∃ staged blocks, ∀ j, core ((unverified s i).ctx j) =
    if j = i then { core (s.ctx i) with staged := staged, blocksHeld := blocks } else core (s.ctx j) := by
  obtain ⟨staged, blocks, released⟩ := releaseUnwritten_ctx (keyless s i) i
  refine ⟨staged, blocks, fun j => ?_⟩
  unfold unverified
  rw [core_abortVerify, released, keyless_ctx, keyless_ctx]
  split <;> rfl

theorem unverified_holdFields (s : State) (i j : Nat) : holdFields ((unverified s i).ctx j) = holdFields (s.ctx j) := by
  obtain ⟨staged, blocks, kept⟩ := core_unverified s i
  have same := kept j
  split at same
  · next e => rw [e] at same ⊢; exact (congrArg holdFields same :)
  · exact holdFields_of_core same

theorem unverified_state (s : State) (i : Nat) :
    ((unverified s i).ctx i).state = (s.ctx i).state ∧ ((unverified s i).ctx i).group = (s.ctx i).group := by
  obtain ⟨staged, blocks, kept⟩ := core_unverified s i
  have same := kept i
  rw [if_pos rfl] at same
  exact ⟨(congrArg Ctx.state same :), (congrArg Ctx.group same :)⟩

theorem unverified_effHold (s : State) (i k : Nat) : (unverified s i).effHold k = s.effHold k :=
  effHold_congr (unverified_groups s i) (unverified_actions s i) (unverified_holdFields s i) k

theorem unverified_group (s : State) (i g : Nat) : (unverified s i).group g = s.group g :=
  group_of_groups (unverified_groups s i) g

/-- The verify requests of a closed context end as R167 says. -/
theorem unverified_aborted (s : State) (i : Nat) : AbortedByClose s (unverified s i) i := by
  have kept := keyless_frame s i
  have notice : ((keyless s i).releaseUnwritten i).notice = s.notice := by simp only [releaseUnwritten_frame, kept]
  have verify : ((keyless s i).releaseUnwritten i).verify = s.verify := by simp only [releaseUnwritten_frame, kept]
  have owed : ∀ j, (((keyless s i).releaseUnwritten i).ctx j).owed = (s.ctx j).owed := fun j => by
    obtain ⟨staged, blocks, released⟩ := releaseUnwritten_ctx (keyless s i) i
    rw [released, keyless_ctx, keyless_ctx]
    split
    · next e => rw [e]
    · rfl
  have aborted := abortVerify_byClose ((keyless s i).releaseUnwritten i) i
  unfold unverified
  generalize (keyless s i).releaseUnwritten i = v at notice verify owed aborted
  exact
    { told := (told_of_same notice owed).trans aborted.told
      owed := aborted.owed.trans (owed i)
      marked := aborted.marked
      queued := verify ▸ aborted.queued
      reading := verify ▸ aborted.reading
      other := verify ▸ aborted.other }

/-! ## The group, and the record itself -/

theorem closeCtx_frame (s : State) (i : Nat) :
    (s.closeCtx i).intake = s.intake ∧ (s.closeCtx i).staging = (unlinked s i).staging ∧
      (s.closeCtx i).delivery = s.delivery ∧ (s.closeCtx i).actions = s.actions ∧
      (s.closeCtx i).groups = (unlinked s i).groups ∧ (s.closeCtx i).resets = s.resets ∧
      (s.closeCtx i).verify = (unverified s i).verify ∧ (s.closeCtx i).notice = (unlinked s i).notice := by
  have kept := unverified_frame s i
  rw [closeCtx_eq]
  unfold closing unlinked
  simp only [freeIfIdle_frame, modCtx_intake, modCtx_staging, modCtx_delivery, modCtx_actions, modCtx_groups,
    modCtx_resets, modCtx_verify, modCtx_notice, leaveGroup_frame, kept, and_self]

theorem closeCtx_groups (s : State) (i : Nat) : (s.closeCtx i).groups = (unlinked s i).groups :=
  let ⟨_, _, _, _, groups, _⟩ := closeCtx_frame s i
  groups

theorem closeCtx_actions (s : State) (i : Nat) : (s.closeCtx i).actions = s.actions :=
  let ⟨_, _, _, actions, _⟩ := closeCtx_frame s i
  actions

theorem closeCtx_notice (s : State) (i : Nat) : (s.closeCtx i).notice = (unlinked s i).notice :=
  let ⟨_, _, _, _, _, _, _, notice⟩ := closeCtx_frame s i
  notice

/-- CLOSE leaves every other record as the leaving of the group did. -/
theorem closeCtx_ctx_other (s : State) {i j : Nat} (other : j ≠ i) : (s.closeCtx i).ctx j = (unlinked s i).ctx j := by
  have closed : (closing s i).ctx j = (unlinked s i).ctx j := ctx_modCtx_other _ _ other
  rw [closeCtx_eq]
  rcases freeIfIdle_cases (closing s i) i with ⟨eq, _⟩ | ⟨eq, _⟩ <;> rw [eq]
  · rw [← closed]
    exact ctx_setCtx_other _ _ other
  · exact closed

/-- CLOSE of context `i` changes of every other record only its areas and what it is owed. -/
theorem core_closeCtx_other (s : State) {i j : Nat} (other : j ≠ i) :
    core ((s.closeCtx i).ctx j) = core (s.ctx j) := by
  obtain ⟨staged, blocks, kept⟩ := core_unverified s i
  rw [closeCtx_ctx_other s other]
  unfold unlinked
  rw [core_leaveGroup, if_neg other, kept, if_neg other]

theorem closing_ctx_self (s : State) (i : Nat) :
    (closing s i).ctx i = { (unlinked s i).ctx i with state := .closing, timer := .stopped } :=
  ctx_modCtx_same _ _ _

/-- The record of a context that a job keeps CLOSING (R19). -/
theorem core_closing (s : State) (i : Nat) : ∃ staged blocks, core ((closing s i).ctx i) =
    { core (s.ctx i) with
      staged := staged, blocksHeld := blocks, group := none, state := .closing, timer := .stopped } := by
  obtain ⟨staged, blocks, kept⟩ := core_unverified s i
  have own := core_leaveGroup (unverified s i) i i
  rw [if_pos rfl, kept i, if_pos rfl] at own
  refine ⟨staged, blocks, ?_⟩
  rw [closing_ctx_self]
  exact (congrArg (fun c : Ctx => { c with state := .closing, timer := .stopped }) own :)

/-- CLOSE frees the record when no job of it is in flight, and otherwise leaves it CLOSING (R19, R21). -/
theorem closeCtx_ctx_self (s : State) (i : Nat) : (s.closeCtx i).ctx i =
    if (s.ctx i).current + (s.ctx i).older = 0 then Ctx.free else (closing s i).ctx i := by
  obtain ⟨staged, blocks, kept⟩ := core_closing s i
  have current : ((closing s i).ctx i).current = (s.ctx i).current := (congrArg Ctx.current kept :)
  have older : ((closing s i).ctx i).older = (s.ctx i).older := (congrArg Ctx.older kept :)
  rw [closeCtx_eq, ← current, ← older]
  rcases freeIfIdle_cases (closing s i) i with ⟨eq, idle⟩ | ⟨eq, busy⟩ <;> rw [eq]
  · rw [if_pos idle]
    exact ctx_setCtx_same _ _ _
  · rw [if_neg busy]

theorem closeCtx_record (s : State) (i : Nat) :
    if (s.ctx i).current + (s.ctx i).older = 0 then (s.closeCtx i).ctx i = Ctx.free
    else
      ((s.closeCtx i).ctx i).state = .closing ∧ ((s.closeCtx i).ctx i).timer = .stopped ∧
        ((s.closeCtx i).ctx i).group = none ∧ ((s.closeCtx i).ctx i).key = (s.ctx i).key ∧
        ((s.closeCtx i).ctx i).current = (s.ctx i).current ∧ ((s.closeCtx i).ctx i).older = (s.ctx i).older ∧
        ((s.closeCtx i).ctx i).digest = (s.ctx i).digest ∧ ((s.closeCtx i).ctx i).total = (s.ctx i).total ∧
        ((s.closeCtx i).ctx i).retired = (s.ctx i).retired ∧ ((s.closeCtx i).ctx i).extents = (s.ctx i).extents := by
  rw [closeCtx_ctx_self]
  split
  · rfl
  · obtain ⟨staged, blocks, kept⟩ := core_closing s i
    generalize (closing s i).ctx i = c at kept ⊢
    exact ⟨(congrArg Ctx.state kept :), (congrArg Ctx.timer kept :), (congrArg Ctx.group kept :),
      (congrArg Ctx.key kept :), (congrArg Ctx.current kept :), (congrArg Ctx.older kept :),
      (congrArg Ctx.digest kept :), (congrArg Ctx.total kept :), (congrArg Ctx.retired kept :),
      (congrArg Ctx.extents kept :)⟩

theorem closeCtx_record_other (s : State) {i j : Nat} (other : j ≠ i) :
    ((s.closeCtx i).ctx j).state = (s.ctx j).state ∧ ((s.closeCtx i).ctx j).key = (s.ctx j).key ∧
      ((s.closeCtx i).ctx j).digest = (s.ctx j).digest ∧ ((s.closeCtx i).ctx j).total = (s.ctx j).total ∧
      ((s.closeCtx i).ctx j).retired = (s.ctx j).retired ∧ ((s.closeCtx i).ctx j).extents = (s.ctx j).extents ∧
      ((s.closeCtx i).ctx j).staged = (s.ctx j).staged ∧ ((s.closeCtx i).ctx j).group = (s.ctx j).group := by
  have kept := core_closeCtx_other s other
  generalize (s.closeCtx i).ctx j = c at kept ⊢
  exact ⟨(congrArg Ctx.state kept :), (congrArg Ctx.key kept :), (congrArg Ctx.digest kept :),
    (congrArg Ctx.total kept :), (congrArg Ctx.retired kept :), (congrArg Ctx.extents kept :),
    (congrArg Ctx.staged kept :), (congrArg Ctx.group kept :)⟩

theorem closeCtx_group (s : State) (i h : Nat) : (s.closeCtx i).group h =
    if (s.ctx i).group = some h then (s.group h).without i (s.ctx i).state else s.group h := by
  obtain ⟨state, group⟩ := unverified_state s i
  rw [group_of_groups (closeCtx_groups s i)]
  unfold unlinked
  rw [leaveGroup_group, state, group, unverified_group]

theorem closeCtx_groups_of_none {s : State} {i : Nat} (h : (s.ctx i).group = none) : (s.closeCtx i).groups = s.groups := by
  rw [(closeCtx_groups s i)]
  unfold unlinked
  rw [leaveGroup_of_none ((unverified_state s i).2.trans h), (unverified_groups s i)]

/-! ## Staged records -/

/-- The records after a CLOSE: its own unwritten ones are gone, and where the leaving of the group changed an effective
hold the context's are judged again (R92, R134, R153). -/
theorem closeCtx_staged {s : State} (sorted : Table.sorted s.staging.pool) (i r : Nat) : (s.closeCtx i).staged r =
    ((s.staged r).filter fun rec => !(rec.owner == i && rec.state != .writing)).map
      ((unlinked s i).judgedAgain ((unverified s i).holdChanged (unlinked s i))) := by
  have pool : (s.closeCtx i).staged r = (unlinked s i).staged r := by
    unfold State.staged; rw [(closeCtx_frame s i).2.1]
  have released : (unverified s i).staged r = (s.releaseUnwritten i).staged r := by
    unfold State.staged; rw [(unverified_frame s i).2.1]
  rw [pool, ← releaseUnwritten_staged sorted, ← released]
  exact leaveGroup_staged (unverified s i) i r

theorem closeCtx_staged_own {s : State} (sorted : Table.sorted s.staging.pool) {i r : Nat} {rec : StagedRecord}
    (found : s.staged r = some rec) (own : rec.owner = i) :
    (s.closeCtx i).staged r = if rec.state = .writing then some rec else none := by
  rw [closeCtx_staged sorted, found]
  by_cases writing : rec.state = .writing
  · simp [own, writing, judgedAgain_of_writing writing]
  · simp [own, writing]

/-- The other contexts' effective holds are read as the leaving of the group left them. -/
theorem closeCtx_effHold {s : State} (safe : GroupSafe s) {i k : Nat} (other : k ≠ i) :
    (s.closeCtx i).effHold k = (unlinked s i).effHold k := by
  have listed : ∀ g, i ∈ ((unverified s i).group g).members → ((unverified s i).ctx i).group = some g := fun g inside => by
    rw [unverified_group] at inside
    rw [(unverified_state s i).2]
    exact (safe.field i g).2 inside
  refine effHold_of_others (closeCtx_groups s i) ?_ (fun j ne => closeCtx_ctx_other s ne) other
    (leaveGroup_governor listed other)
  rw [closeCtx_actions, unlinked]
  simp only [leaveGroup_frame, unverified_actions]

theorem closeCtx_others {s : State} (sorted : Table.sorted s.staging.pool) (safe : GroupSafe s) (i : Nat) :
    OthersRejudged s (s.closeCtx i) i := by
  intro r rec found other
  have hold := closeCtx_effHold safe other
  rw [closeCtx_staged sorted, found]
  have kept : (some rec).filter (fun rec : StagedRecord => !(rec.owner == i && rec.state != .writing)) = some rec := by
    simp [other]
  rw [kept, Option.map_some]
  refine congrArg some (judgedAgain_congr (closeCtx_ctx_other s other).symm hold.symm ?_)
  unfold State.holdChanged
  rw [hold, unverified_effHold]

theorem closeCtx_mode (s : State) (i : Nat) : ModeSet s (s.closeCtx i) := by
  have counts := leaveGroup_counts (unverified s i) i
  have released := releaseUnwritten_mode s i
  unfold ModeSet at released ⊢
  rw [(closeCtx_frame s i).2.1, unlinked, counts.1, counts.2, (unverified_frame s i).2.1]
  exact released

/-! ## Notices -/

/-- Ended requests put no GROUP_DONE into the queue. -/
theorem Told.groupDone {s t : State} (h : Told s t) {j g n : Nat} (inside : Notice.groupDone j g n ∈ t.notice.queue) :
    Notice.groupDone j g n ∈ s.notice.queue := by
  obtain ⟨more, queue, results⟩ := h.queue
  rw [queue] at inside
  refine (List.mem_append.1 inside).elim id fun new => ?_
  obtain ⟨_, _, _, _, e⟩ := results _ new
  cases e

theorem finish_overflow (s : State) (tag : BitVec 16) (code : BitVec 8) (status : CmdStatus) (i : Nat) :
    (s.finish tag code status i).notice.overflow = s.notice.overflow := rfl

theorem finish_full {s : State} (h : s.notice.full = true) (tag : BitVec 16) (code : BitVec 8) (status : CmdStatus)
    (i : Nat) : (s.finish tag code status i).notice.full = true := by
  rw [full_iff] at h ⊢
  rw [finish_queue, finish_reserved, List.length_append, List.length_singleton]
  split at h <;> simp <;> omega

/-- A queued request of the closed context is told of, or the queue is full (R167). -/
theorem closeCtx_queued (s : State) (i : Nat) (tag : BitVec 16) (q : VerifyRequest) (hq : q ∈ s.verify.tail)
    (own : q.context = i) :
    ((s.closeCtx i).finish tag 7 .ok i).notice.full = true ∨
      Notice.verifyResult i q.area q.window .aborted ∈ ((s.closeCtx i).finish tag 7 .ok i).notice.queue := by
  obtain ⟨⟨more, queue⟩, reserved⟩ := leaveGroup_queue (unverified s i) i
  have notice := (closeCtx_notice s i)
  refine ((unverified_aborted s i).queued q hq own).imp (fun full => finish_full ?_ _ _ _ _) fun inside => ?_
  · rw [full_iff] at full ⊢
    rw [notice, unlinked, queue, reserved, List.length_append]
    omega
  · rw [finish_queue, notice, unlinked, queue]
    exact List.mem_append_left _ (List.mem_append_left _ inside)

/-- A CLOSE owes the closed context no VERIFY_RESULT (R167). -/
theorem closeCtx_owed (s : State) (i : Nat) (h : OwedKind.verifyResult ∈ ((s.closeCtx i).ctx i).owed) :
    OwedKind.verifyResult ∈ (s.ctx i).owed := by
  rw [closeCtx_ctx_self] at h
  split at h
  · cases h
  · rw [closing_ctx_self] at h
    rw [← (unverified_aborted s i).owed]
    exact (leaveGroup_owed h).resolve_left (by decide)

/-- The members a group keeps when `i` leaves are led by another context. -/
theorem leader_ne {members : List Nat} {i : Nat} (h : (members.filter fun j => j != i) ≠ []) :
    (members.filter fun j => j != i).headD 0 ≠ i := by
  cases hm : members.filter fun j => j != i with
  | nil => exact absurd hm h
  | cons lead more =>
    have inside : lead ∈ members.filter fun j => j != i := hm ▸ List.mem_cons_self
    simpa using (List.mem_filter.1 inside).2

/-- GROUP_DONE at a CLOSE that leaves every remaining member DONE: before the CMD_RESULT, or owed to the new leader (R153,
R157, R159, R175). -/
theorem closeCtx_groupDone {s : State} {i g : Nat} (tag : BitVec 16) (hg : (s.ctx i).group = some g)
    (some_ : ((s.group g).members.filter fun j => j != i) ≠ []) (before : (s.group g).done ≠ (s.group g).members.length)
    (all : (if (s.ctx i).state = .done then (s.group g).done - 1 else (s.group g).done) =
      ((s.group g).members.filter fun j => j != i).length) :
    let members := (s.group g).members.filter fun j => j != i
    ((s.ctx (members.headD 0)).owed = [] ∧ ∃ earlier, ((s.closeCtx i).finish tag 7 .ok i).notice.queue = earlier ++
        [Notice.groupDone (members.headD 0) g members.length, Notice.cmdResult i tag 7 .ok]) ∨
      (((s.ctx (members.headD 0)).owed ≠ [] ∨ 64 ≤ ((s.closeCtx i).finish tag 7 .ok i).notice.queue.length) ∧
        ((s.closeCtx i).finish tag 7 .ok i).notice.overflow = true ∧
        OwedKind.groupDone ∈ (((s.closeCtx i).finish tag 7 .ok i).ctx (members.headD 0)).owed) := by
  dsimp only
  obtain ⟨state, group⟩ := unverified_state s i
  have told := (unverified_aborted s i).told
  have done := leaveGroup_done (s := unverified s i) (i := i) (group.trans hg) (by
    rw [unverified_group, state]; exact (without_completes _ i _).2 ⟨some_, before, all⟩)
  have notice : (s.closeCtx i).notice = ((unverified s i).leaveGroup i).notice := (closeCtx_notice s i)
  have record := closeCtx_ctx_other s (leader_ne some_)
  rw [unlinked] at record
  rw [unverified_group] at done
  dsimp only at done
  generalize (s.group g).members.filter (fun j => j != i) = members at record done ⊢
  rw [← notice, ← record] at done
  generalize s.closeCtx i = closed at done ⊢
  rw [finish_queue, finish_ctx, finish_overflow]
  rcases done with ⟨queued, owed⟩ | ⟨folded, owed, why⟩
  · refine .inl ⟨not_not.1 fun was => told.still _ was owed, (unverified s i).notice.queue, ?_⟩
    simp [queued]
  · refine .inr ⟨?_, by rw [folded], owed⟩
    by_cases was : (s.ctx (members.headD 0)).owed = []
    · have full := why.elim id (told.folded _ was)
      rw [full_iff] at full
      rw [folded, List.length_append, List.length_singleton]
      split at full <;> exact .inr (by dsimp only; omega)
    · exact .inl was

/-- Otherwise a CLOSE queues no GROUP_DONE. -/
theorem closeCtx_noGroupDone {s : State} {i : Nat} (tag : BitVec 16)
    (h : ∀ g, (s.ctx i).group = some g → ¬(((s.group g).members.filter fun j => j != i) ≠ [] ∧
      (s.group g).done ≠ (s.group g).members.length ∧
      (if (s.ctx i).state = .done then (s.group g).done - 1 else (s.group g).done) =
        ((s.group g).members.filter fun j => j != i).length))
    {j g n : Nat} (inside : Notice.groupDone j g n ∈ ((s.closeCtx i).finish tag 7 .ok i).notice.queue) :
    Notice.groupDone j g n ∈ s.notice.queue := by
  obtain ⟨state, group⟩ := unverified_state s i
  have quiet : (unlinked s i).notice = (unverified s i).notice := by
    cases hg : (s.ctx i).group with
    | none => rw [unlinked, leaveGroup_of_none (group.trans hg)]
    | some own =>
      refine leaveGroup_quiet (group.trans hg) ?_
      rw [unverified_group, state, without_completes]
      exact h own hg
  rw [finish_queue, (closeCtx_notice s i), quiet] at inside
  refine (unverified_aborted s i).told.groupDone ((List.mem_append.1 inside).resolve_right fun last => ?_)
  cases List.mem_singleton.1 last

/-! ## The command -/

theorem conclude_none (s : State) (tag : BitVec 16) (code : BitVec 8) (i : Nat) (effect : State → State) :
    s.conclude tag code i none effect = (effect s).finish tag code .ok i := rfl

/-- A CLOSE of an open context is taken and runs (R7, R19). -/
theorem exec_close {s : State} (fetched : Fetched s) (m : IndexCommand) (low : m.index.toNat < 4096)
    (isOpen : (s.ctx m.index.toNat).isOpen = true) : exec (.close (s.reply m)) s =
      .next ((s.takeFetched.closeCtx m.index.toNat).finish m.hostTag 7 .ok m.index.toNat) := by
  refine congrArg Host.Outcome.next ((runCommand_fetched fetched rfl _).trans ?_)
  have resolved := resolve_open s.takeFetched m.index low isOpen
  show s.takeFetched.onContext m.hostTag codeClose m.index _ = _
  unfold State.onContext
  rw [resolved]
  exact conclude_none ..

theorem othersRejudged_finish {s v : State} {i : Nat} (h : OthersRejudged s.takeFetched v i) (tag : BitVec 16)
    (code : BitVec 8) (status : CmdStatus) (j : Nat) : OthersRejudged s (v.finish tag code status j) i := h

theorem groupSafe_takeFetched {s : State} (h : GroupSafe s) : GroupSafe s.takeFetched :=
  ⟨h.done, h.failed, h.once, h.limit, h.field, h.open_⟩

/-- Settles O48. -/
theorem closeRemovesTheContext : Obligations.CloseRemovesTheContext := by
  intro m s fetched conserved low isOpen i c
  have command := exec_close fetched m low isOpen
  have ⟨_, _, marked, _, reading, other⟩ := unverified_aborted s.takeFetched i
  obtain ⟨intake, -, delivery, actions, -, resets, verify, -⟩ := closeCtx_frame s.takeFetched i
  rw [← verify] at marked reading other
  have lookup := fun k key => closeCtx_lookup (s := s.takeFetched) (i := i) (k := k) key
  have record := closeCtx_record s.takeFetched i
  have own := fun r rec found own =>
    closeCtx_staged_own (s := s.takeFetched) conserved.sorted (i := i) (r := r) (rec := rec) found own
  have others := fun safe => closeCtx_others (s := s.takeFetched) conserved.sorted (groupSafe_takeFetched safe) i
  have queued := closeCtx_queued s.takeFetched i m.hostTag
  have owed := closeCtx_owed s.takeFetched i
  have mode := closeCtx_mode s.takeFetched i
  have group := closeCtx_group s.takeFetched i
  have groups := closeCtx_groups_of_none (s := s.takeFetched) (i := i)
  have done := fun g => closeCtx_groupDone (s := s.takeFetched) (i := i) (g := g) m.hostTag
  have noDone := fun h j g n => closeCtx_noGroupDone (s := s.takeFetched) (i := i) m.hostTag h (j := j) (g := g) (n := n)
  have beside := fun j (ne : j ≠ i) => closeCtx_record_other s.takeFetched ne
  change exec _ s = .next ((s.takeFetched.closeCtx i).finish m.hostTag 7 .ok i) at command
  generalize s.takeFetched.closeCtx i = v at *
  refine ⟨_, command, ⟨by simp, rfl⟩, lookup, record, own, fun safe => othersRejudged_finish (others safe) _ _ _ _, marked,
    queued, owed, reading, other, mode, fun g hg => ⟨?_, fun h ne => ?_, ?_⟩, fun none => ⟨groups none, ?_⟩,
    beside, delivery, intake, actions, resets⟩
  · exact ((group g).trans (if_pos hg)).trans (without_eq ..)
  · exact (group h).trans (if_neg fun hh => ne (Option.some.inj (hh.symm.trans hg)))
  · refine ite_prop_iff_and.2 ⟨fun ⟨remain, before, all⟩ => done g hg remain before all, fun notAll =>
      noDone fun g' hg' => ?_⟩
    obtain rfl : g' = g := Option.some.inj (hg'.symm.trans hg)
    exact notAll
  · exact noDone fun g hg => absurd (none.symm.trans hg) (by simp)

end Sys2Proof.Contexts
end

section
/-! What intake makes of a presented segment up to the lookup (R25, R29 to R31): the statements O25 to O27. -/

namespace Sys2Proof.SegmentIntake

open Sys2Proof Sys2Proof.Machine Sys2Proof.Laws Sys2Proof.Contexts

/-! ## Segments taken whole (R25) -/

theorem exec_presented (s : State) (seg : Segment) (arrival : Arrival) :
    exec (seg.presented arrival) s = .next (s.arrive seg arrival) := by cases seg <;> rfl

/-- With no segment at any channel, every channel is ready outside a full reset. -/
theorem channelReady_of_empty {s : State} (held : s.resets.held = false) (empty : s.intake.channels = [])
    (link : BitVec 2) : s.channelReady link = true := by
  simp [State.channelReady, State.live, State.channel, held, empty, Table.get]

/-- A free intake, with no segment waiting, takes a segment whole. -/
theorem exec_idle {s : State} (held : s.resets.held = false) (empty : s.intake.channels = []) (seg : Segment) :
    exec (seg.presented .idle) s = .next (s.takeSegment seg) := by
  rw [exec_presented]
  unfold State.arrive
  rw [if_pos (channelReady_of_empty held empty seg.link), if_pos ⟨rfl, empty⟩]

theorem exec_data_idle {s : State} (h : Taking s) (g : DataSegment) :
    exec (.data ⟨g, .idle⟩) s = .next ((s.takeData g).returned g.link g.handle 1) := exec_idle h.1.1 h.2 (.data g)

theorem exec_manifest_idle {s : State} (h : Taking s) (g : ManifestSegment) :
    exec (.manifest ⟨g, .idle⟩) s = .next ((s.takeManifest g).returned g.link g.handle 2) :=
  exec_idle h.1.1 h.2 (.manifest g)

theorem exec_abandon_idle {s : State} (h : Taking s) (g : AbandonSegment) :
    exec (.abandon ⟨g, .idle⟩) s = .next ((s.takeAbandon g).returned g.link g.handle 3) :=
  exec_idle h.1.1 h.2 (.abandon g)

/-! ## Admission, shape and lookup -/

section
variable {s : State}

theorem admitting_of_taking (h : Taking s) : s.admitting = true := by
  simp [State.admitting, h.1.2.1, h.1.2.2]

theorem takeData_of_closed (h : s.admitting = false) (g : DataSegment) : s.takeData g = s.answer0 .notReady := by
  simp [State.takeData, h]

theorem takeManifest_of_closed (h : s.admitting = false) (g : ManifestSegment) :
    s.takeManifest g = s.answer0 .notReady := by simp [State.takeManifest, h]

theorem takeAbandon_of_closed (h : s.admitting = false) (g : AbandonSegment) :
    s.takeAbandon g = s.answer0 .notReady := by simp [State.takeAbandon, h]

theorem takeData_of_illShaped (h : Taking s) {g : DataSegment} (shape : DataSegment.wellShaped g = false) :
    s.takeData g = s.answer0 .malformed := by simp [State.takeData, admitting_of_taking h, shape]

theorem takeManifest_of_illShaped (h : Taking s) {g : ManifestSegment} (shape : ManifestSegment.wellShaped g = false) :
    s.takeManifest g = s.answer0 .malformed := by simp [State.takeManifest, admitting_of_taking h, shape]

theorem takeData_of_unknown (h : Taking s) {g : DataSegment} (shape : DataSegment.wellShaped g = true)
    (unknown : s.lookup ⟨g.peer, g.tag⟩ = none) :
    s.takeData g = (s.countUnmatched g.link ⟨g.peer, g.tag⟩).answer0 .unknown := by
  simp [State.takeData, admitting_of_taking h, shape, DataSegment.key, unknown]

theorem takeManifest_of_unknown (h : Taking s) {g : ManifestSegment} (shape : ManifestSegment.wellShaped g = true)
    (unknown : s.lookup ⟨g.peer, g.tag⟩ = none) :
    s.takeManifest g = (s.countUnmatched g.link ⟨g.peer, g.tag⟩).answer0 .unknown := by
  simp [State.takeManifest, admitting_of_taking h, shape, ManifestSegment.key, unknown]

theorem takeAbandon_of_unknown (h : Taking s) {g : AbandonSegment} (shape : g.payload = [])
    (unknown : s.lookup ⟨g.peer, g.tag⟩ = none) :
    s.takeAbandon g = (s.countUnmatched g.link ⟨g.peer, g.tag⟩).answer0 .unknown := by
  simp [State.takeAbandon, admitting_of_taking h, shape, AbandonSegment.key, unknown]

theorem takeData_of_found (h : Taking s) {g : DataSegment} {i : Nat} (shape : DataSegment.wellShaped g = true)
    (found : s.lookup ⟨g.peer, g.tag⟩ = some i) : s.takeData g = s.dataStages i g := by
  simp [State.takeData, admitting_of_taking h, shape, DataSegment.key, found]

theorem takeManifest_of_found (h : Taking s) {g : ManifestSegment} {i : Nat} (shape : ManifestSegment.wellShaped g = true)
    (found : s.lookup ⟨g.peer, g.tag⟩ = some i) : s.takeManifest g = s.manifestStages i g := by
  simp [State.takeManifest, admitting_of_taking h, shape, ManifestSegment.key, found]

theorem takeAbandon_of_found (h : Taking s) {g : AbandonSegment} {i : Nat} (shape : g.payload = [])
    (found : s.lookup ⟨g.peer, g.tag⟩ = some i) : s.takeAbandon g = s.abandonStages i g := by
  simp [State.takeAbandon, admitting_of_taking h, shape, AbandonSegment.key, found]

end

/-- An answer given before the lookup changes the lane and the last link served only. -/
theorem answer0_returned (s : State) (code : DispositionCode) (link : BitVec 2) (handle : BitVec 16) (kind : BitVec 8) :
    (s.answer0 code).returned link handle kind = s.answered link handle kind code 0 := rfl

/-- Settles O25: with admission closed no stage behind it is reached. -/
theorem segmentsNotReadyInReset : Obligations.SegmentsNotReadyInReset := by
  intro s held empty shown
  have closed : s.admitting = false := by rcases shown with h | h <;> simp [State.admitting, h]
  refine ⟨fun g => ?_, fun g => ?_, fun g => ?_, fun g => ?_⟩
  · exact (exec_idle held empty (.data g)).trans (by rw [State.takeSegment, takeData_of_closed closed, answer0_returned])
  · exact (exec_idle held empty (.manifest g)).trans
      (by rw [State.takeSegment, takeManifest_of_closed closed, answer0_returned])
  · exact (exec_idle held empty (.abandon g)).trans
      (by rw [State.takeSegment, takeAbandon_of_closed closed, answer0_returned])
  · exact (exec_idle held empty (.unknownKind g)).trans
      (by rw [State.takeSegment, State.takeUnknownKind, closed, answer0_returned]; rfl)

/-! ## Shape (R30, R41, R44) -/

/-- The shape checks of a DATA segment, as the statements write their failure. -/
theorem data_illShaped {g : DataSegment}
    (h : g.offset.toNat % 4 ≠ 0 ∨ g.length.toNat < 4 ∨ 16384 < g.length.toNat ∨
      2 ^ 40 < g.offset.toNat + g.length.toNat ∨ g.tallyA.toNat = M ∨ g.tallyB.toNat = M ∨
      g.payload.length ≠ g.length.toNat) : DataSegment.wellShaped g = false := by
  rw [← Bool.not_eq_true]
  intro shaped
  simp only [DataSegment.wellShaped, Config.maxSegment, Config.maxOffset, M, Bool.and_eq_true,
    decide_eq_true_eq, beq_iff_eq] at shaped h
  obtain ⟨⟨⟨⟨⟨⟨aligned, least⟩, most⟩, stop⟩, tallyA⟩, tallyB⟩, length⟩ := shaped
  unfold DataSegment.stop at stop
  omega

theorem manifest_illShaped {g : ManifestSegment}
    (h : g.total.toNat = 0 ∨ 2 ^ 40 < g.total.toNat ∨ g.expectedA.toNat = M ∨ g.expectedB.toNat = M ∨ g.payload ≠ []) :
    ManifestSegment.wellShaped g = false := by
  rw [← Bool.not_eq_true]
  intro shaped
  simp only [ManifestSegment.wellShaped, Config.maxOffset, M, Bool.and_eq_true, decide_eq_true_eq, List.isEmpty_iff]
    at shaped h
  obtain ⟨⟨⟨⟨least, most⟩, expectedA⟩, expectedB⟩, payload⟩ := shaped
  simp only [payload, ne_eq, not_true_eq_false, or_false] at h
  omega

/-- Settles O26: an ill-shaped segment is answered before the lookup. -/
theorem illFormedSegmentsAnsweredMalformed : Obligations.IllFormedSegmentsAnsweredMalformed := by
  intro s taking
  refine ⟨fun g h => ?_, fun g h => ?_, fun g h => ?_, fun g => ?_⟩
  · rw [exec_data_idle taking, takeData_of_illShaped taking (data_illShaped h), answer0_returned]
  · rw [exec_manifest_idle taking, takeManifest_of_illShaped taking (manifest_illShaped h), answer0_returned]
  · have malformed : s.takeAbandon g = s.answer0 .malformed := by
      simp [State.takeAbandon, admitting_of_taking taking, h]
    rw [exec_abandon_idle taking, malformed, answer0_returned]
  · refine (exec_idle taking.1.1 taking.2 (.unknownKind g)).trans ?_
    rw [State.takeSegment, State.takeUnknownKind, admitting_of_taking taking, answer0_returned]
    rfl

/-! ## Unknown keys (R31, R45, R46) -/

/-- A refusal UNKNOWN counts, and where the count leaves 0 with the enable on, it queues UNMATCHED if there is room. -/
theorem countUnmatched_eq (s : State) (link : BitVec 2) (key : Key) :
    s.countUnmatched link key =
      { s with
        intake := { s.intake with unmatched := min (2 ^ 32 - 1) (s.intake.unmatched + 1) }
        notice := { s.notice with
          queue :=
            if s.intake.unmatched = 0 ∧ s.intake.unmatchedEnable = true ∧ s.notice.full = false then
              s.notice.queue ++ [Notice.unmatched link key.peer key.tag]
            else s.notice.queue } } := by
  unfold State.countUnmatched State.pushOrDrop
  by_cases asks : s.intake.unmatched = 0 ∧ s.intake.unmatchedEnable = true
  · cases full : s.notice.full
    · simp only [full, Bool.false_eq_true, if_false, asks, and_self, if_true]
      rfl
    · simp only [if_pos asks, full, if_true, Bool.true_eq_false, and_false, if_false]
  · rw [if_neg asks, if_neg fun h => asks ⟨h.1, h.2.1⟩]

/-- Settles O27. -/
theorem unknownSegmentsCounted : Obligations.UnknownSegmentsCounted := by
  intro s taking
  refine ⟨fun g shape unknown => ⟨_, exec_data_idle taking g, ?_⟩,
    fun g shape unknown => ⟨_, exec_manifest_idle taking g, ?_⟩,
    fun g shape unknown => ⟨_, exec_abandon_idle taking g, ?_⟩⟩
  · rw [takeData_of_unknown taking shape unknown, answer0_returned, countUnmatched_eq]
    rfl
  · rw [takeManifest_of_unknown taking shape unknown, answer0_returned, countUnmatched_eq]
    rfl
  · rw [takeAbandon_of_unknown taking shape unknown, answer0_returned, countUnmatched_eq]
    rfl

end Sys2Proof.SegmentIntake
end

section
/-! The register window (R45, R129, R130, R170, R177, R179): the statement O58. -/

namespace Sys2Proof.SegmentIntake

open Sys2Proof Sys2Proof.Machine Sys2Proof.Laws Sys2Proof.Contexts

/-- Bit `k` of indications read as a number is the `k`-th of them. -/
theorem testBit_bitsNat (l : List Bool) (k : Nat) : (bitsNat l).testBit k = l.getD k false := by
  induction l generalizing k with
  | nil => simp [bitsNat]
  | cons b l ih =>
    unfold bitsNat
    cases k with
    | zero => cases b <;> simp [Nat.testBit_zero, Nat.add_mod]
    | succ k =>
      have half : (b.toNat + 2 * bitsNat l) / 2 = bitsNat l := by cases b <;> simp; omega
      rw [Nat.testBit_succ, half, ih, List.getD_cons_succ]

/-- A ring size between two powers of two is the greatest power of two not above the value clamped (R170, R177). -/
theorem ringSize_eq {a b : Nat} (le : a ≤ b) (v : BitVec 32) :
    ∃ k, k ≤ b ∧ a ≤ k ∧ 2 ^ k ≤ max (2 ^ a) v.toNat ∧ min v.toNat (2 ^ b) < 2 ^ (k + 1) ∧
      ringSize (2 ^ a) (2 ^ b) v = 2 ^ k := by
  have bounds : 2 ^ a ≤ 2 ^ b := Nat.pow_le_pow_right (by omega) le
  have positive : 0 < 2 ^ a := Nat.two_pow_pos a
  have nonzero : max (2 ^ a) (min v.toNat (2 ^ b)) ≠ 0 := by omega
  have below : 2 ^ Nat.log2 (max (2 ^ a) (min v.toNat (2 ^ b))) ≤ max (2 ^ a) (min v.toNat (2 ^ b)) :=
    Nat.log2_self_le nonzero
  have above : max (2 ^ a) (min v.toNat (2 ^ b)) < 2 ^ (Nat.log2 (max (2 ^ a) (min v.toNat (2 ^ b))) + 1) :=
    Nat.lt_log2_self
  refine ⟨_, ?_, ?_, by omega, by omega, rfl⟩
  · exact (Nat.pow_le_pow_iff_right (by omega : 1 < 2)).1 (below.trans (by omega))
  · exact (Nat.le_log2 nonzero).2 (by omega)

/-- Outside a full reset a command does what its meaning says. -/
theorem whenLive_of_live {s : State} (held : s.resets.held = false) (f : State → State) : s.whenLive f = f s := by
  simp [State.whenLive, State.live, held]

/-- The reads of the register window (section 11.5). -/
theorem readRegister_fields (s : State) :
    (∀ k, (s.readRegister .status).testBit k = s.indications.getD k false) ∧
      (s.staging.freeBlocks ≤ 4096 → s.staging.freeRecords ≤ 4096 →
        s.readRegister .freeCounts % 2 ^ 13 = s.staging.freeBlocks ∧
          s.readRegister .freeCounts / 2 ^ 16 % 2 ^ 13 = s.staging.freeRecords) ∧
      (s.readRegister .controls).testBit 2 = s.delivery.quiesceRequest := by
  refine ⟨testBit_bitsNat _, fun blocks records => ?_, ?_⟩
  · simp only [State.readRegister]
    omega
  · simp only [State.readRegister]
    cases s.delivery.quiesceRequest <;> decide

theorem clearStatus_eq (s : State) (value : BitVec 32) : s.clearStatus value = { s with
    notice := { s.notice with
      overflow := if value.getLsbD 3 then false else s.notice.overflow
      writeFault := if value.getLsbD 5 then false else s.notice.writeFault }
    command := { s.command with fetchFault := if value.getLsbD 4 then false else s.command.fetchFault } } := by
  unfold State.clearStatus
  cases value.getLsbD 3 <;> cases value.getLsbD 4 <;> cases value.getLsbD 5 <;> simp

theorem writeTail_eq (s : State) (value : BitVec 32) : s.writeTail value =
    if s.resets.pending = true ∨ s.resets.draining = true then s
    else { s with command := { s.command with tail := value.toNat % s.command.size } } := by
  unfold State.writeTail State.admitting
  cases s.resets.pending <;> cases s.resets.draining <;> rfl

/-- Base and size writes while RESET_PENDING is shown (R170, R177). -/
theorem writeRing_of_pending {s : State} (h : s.resets.pending = true) :
    (∀ v, s.writeRing (.commandBase v) = { s with command := { s.command with base := v.toNat } }) ∧
      (∀ v, s.writeRing (.noticeBase v) = { s with notice := { s.notice with base := v.toNat } }) ∧
      (∀ v, s.writeRing (.commandSize v) = { s with command := { s.command with size := ringSize 16 4096 v } }) ∧
      ∀ v, s.writeRing (.noticeSize v) = { s with notice := { s.notice with size := ringSize 64 65536 v } } :=
  ⟨fun _ => if_pos h, fun _ => if_pos h, fun _ => if_pos h, fun _ => if_pos h⟩

theorem writeRing_of_acknowledged {s : State} (h : s.resets.pending = false) (reg : RingRegisterWrite) :
    s.writeRing reg = s := by
  unfold State.writeRing
  rw [h]
  rfl

/-- Settles O58: the reads, then each control by the equation of its meaning. -/
theorem controlsActOnTheirRegisters : Obligations.ControlsActOnTheirRegisters := by
  refine ⟨rfl, fun s => ?_, fun s held => ?_⟩
  · obtain ⟨status, counts, controls⟩ := readRegister_fields s
    refine ⟨fun k => ?_, counts, rfl, controls, rfl, rfl, rfl, rfl, rfl, rfl, rfl, rfl⟩
    rw [status]
    match k with
    | 0 | 1 | 2 | 3 | 4 | 5 | 6 | 7 | 8 => rfl
    | n + 9 => rfl
  · have live := fun f => congrArg (Host.Outcome.next (φ := Fault) (ρ := Refusal)) (whenLive_of_live held f)
    have ring : ∀ reg, exec (.registerWrite reg) s = .next (s.writeRing reg) := fun reg => live fun s => s.writeRing reg
    refine ⟨rfl, rfl, fun value => live _, fun value => ?_, live _, fun value => ?_, fun reg acknowledged => ?_,
      fun pending => ?_⟩
    · exact (live fun s => s.clearStatus value).trans (by rw [clearStatus_eq])
    · exact (live fun s => s.writeTail value).trans (by rw [writeTail_eq])
    · rw [ring, writeRing_of_acknowledged acknowledged]
    · obtain ⟨commandBase, noticeBase, commandSize, noticeSize⟩ := writeRing_of_pending pending
      refine ⟨fun v => by rw [ring, commandBase], fun v => by rw [ring, noticeBase], fun v => ?_, fun v => ?_⟩
      · obtain ⟨k, most, least, above, below, size⟩ := ringSize_eq (a := 4) (b := 12) (by omega) v
        exact ⟨k, most, least, above, below, by rw [ring, commandSize, show ringSize 16 4096 v = 2 ^ k from size]⟩
      · obtain ⟨k, most, least, above, below, size⟩ := ringSize_eq (a := 6) (b := 16) (by omega) v
        exact ⟨k, most, least, above, below, by rw [ring, noticeSize, show ringSize 64 65536 v = 2 ^ k from size]⟩

end Sys2Proof.SegmentIntake
end

section
/-! What taking a segment does, does not depend on what stands at the channels (R25). -/

namespace Sys2Proof.SegmentIntake

open Sys2Proof Sys2Proof.Machine Sys2Proof.Laws Sys2Proof.Contexts

/-- The state with other segments at its channels. -/
def onChannels (s : State) (x : Table (Option Segment)) : State := { s with intake := { s.intake with channels := x } }

section
variable (s : State) (x : Table (Option Segment))

/-! ## What does not read the channels -/

@[simp] theorem onChannels_ctx (i : Nat) : (onChannels s x).ctx i = s.ctx i := rfl
@[simp] theorem onChannels_group (g : Nat) : (onChannels s x).group g = s.group g := rfl
@[simp] theorem onChannels_staging : (onChannels s x).staging = s.staging := rfl
@[simp] theorem onChannels_notice : (onChannels s x).notice = s.notice := rfl
@[simp] theorem onChannels_verify : (onChannels s x).verify = s.verify := rfl
@[simp] theorem onChannels_actions : (onChannels s x).actions = s.actions := rfl
@[simp] theorem onChannels_resets : (onChannels s x).resets = s.resets := rfl
@[simp] theorem onChannels_unmatched : (onChannels s x).intake.unmatched = s.intake.unmatched := rfl
@[simp] theorem onChannels_unmatchedEnable : (onChannels s x).intake.unmatchedEnable = s.intake.unmatchedEnable := rfl
@[simp] theorem onChannels_admitting : (onChannels s x).admitting = s.admitting := rfl
@[simp] theorem onChannels_lookup (k : Key) : (onChannels s x).lookup k = s.lookup k := rfl
@[simp] theorem onChannels_effMask (i : Nat) : (onChannels s x).effMask i = s.effMask i := rfl
@[simp] theorem onChannels_eligible (i : Nat) (pieces : List Piece) :
    (onChannels s x).eligible i pieces = s.eligible i pieces := rfl
@[simp] theorem onChannels_mayRead (a n : Nat) : (onChannels s x).mayRead a n = s.mayRead a n := rfl
@[simp] theorem onChannels_retirable (i n : Nat) : (onChannels s x).retirable i n = s.retirable i n := rfl
@[simp] theorem onChannels_stagingRefusal (i : Nat) (g : DataSegment) (pieces : List Piece) :
    (onChannels s x).stagingRefusal i g pieces = s.stagingRefusal i g pieces := rfl

/-! ## The operations of intake, on other channels -/

@[simp] theorem modCtx_onChannels (i : Nat) (f : Ctx → Ctx) :
    (onChannels s x).modCtx i f = onChannels (s.modCtx i f) x := rfl
@[simp] theorem setGroup_onChannels (g : Nat) (r : Group) :
    (onChannels s x).setGroup g r = onChannels (s.setGroup g r) x := rfl
@[simp] theorem push_onChannels (n : Notice) : (onChannels s x).push n = onChannels (s.push n) x := rfl
@[simp] theorem fold_onChannels (i : Nat) (k : OwedKind) : (onChannels s x).fold i k = onChannels (s.fold i k) x := rfl
@[simp] theorem rejudgeCtx_onChannels (i : Nat) : (onChannels s x).rejudgeCtx i = onChannels (s.rejudgeCtx i) x := rfl
@[simp] theorem rejudgeHolds_onChannels (b : State) :
    (onChannels s x).rejudgeHolds (onChannels b x) = onChannels (s.rejudgeHolds b) x := rfl
@[simp] theorem releaseUnwritten_onChannels (i : Nat) :
    (onChannels s x).releaseUnwritten i = onChannels (s.releaseUnwritten i) x := rfl
@[simp] theorem stage_onChannels (i o : Nat) (payload : List Byte) (pieces : List Piece) :
    (onChannels s x).stage i o payload pieces = onChannels (s.stage i o payload pieces) x := rfl
@[simp] theorem setVerify_onChannels (i p : Nat) (v : VerifyStatus) :
    (onChannels s x).setVerify i p v = onChannels (s.setVerify i p v) x := rfl
@[simp] theorem markOlder_onChannels (i : Nat) : (onChannels s x).markOlder i = onChannels (s.markOlder i) x := rfl
@[simp] theorem verifyQueue_onChannels (l : List VerifyRequest) :
    ({ onChannels s x with verify := l } : State) = onChannels { s with verify := l } x := rfl

@[simp] theorem notify_onChannels (i : Nat) (k : OwedKind) (n : Notice) :
    (onChannels s x).notify i k n = onChannels (s.notify i k n) x := by
  unfold State.notify
  rw [apply_ite (onChannels · x)]
  rfl
@[simp] theorem notifyMasked_onChannels (i : Nat) (h : NoticeMask → Bool) (k : OwedKind) (n : Notice) :
    (onChannels s x).notifyMasked i h k n = onChannels (s.notifyMasked i h k n) x := by
  unfold State.notifyMasked
  rw [onChannels_effMask, notify_onChannels, apply_ite (onChannels · x)]
@[simp] theorem pushOrDrop_onChannels (n : Notice) :
    (onChannels s x).pushOrDrop n = onChannels (s.pushOrDrop n) x := by
  unfold State.pushOrDrop
  rw [onChannels_notice, push_onChannels]
  split <;> rfl

@[simp] theorem groupDoneTest_onChannels (g : Nat) (b : Group) :
    (onChannels s x).groupDoneTest g b = onChannels (s.groupDoneTest g b) x := by
  unfold State.groupDoneTest
  dsimp only
  rw [onChannels_group, notify_onChannels, apply_ite (onChannels · x)]

@[simp] theorem memberDone_onChannels (i : Nat) : (onChannels s x).memberDone i = onChannels (s.memberDone i) x := by
  unfold State.memberDone
  rw [onChannels_ctx]
  split <;> simp

@[simp] theorem memberFailed_onChannels (i : Nat) (c : FailCause) :
    (onChannels s x).memberFailed i c = onChannels (s.memberFailed i c) x := by
  unfold State.memberFailed
  rw [onChannels_ctx]
  split
  · rfl
  · simp only [onChannels_group, setGroup_onChannels, notify_onChannels]
    split <;> simp

@[simp] theorem memberRecovered_onChannels (i : Nat) :
    (onChannels s x).memberRecovered i = onChannels (s.memberRecovered i) x := by
  unfold State.memberRecovered
  rw [onChannels_ctx]
  split <;> simp

@[simp] theorem fail_onChannels (i : Nat) (c : FailCause) : (onChannels s x).fail i c = onChannels (s.fail i c) x := by
  unfold State.fail
  simp only [onChannels_ctx, modCtx_onChannels, releaseUnwritten_onChannels, notify_onChannels, memberFailed_onChannels]
  rw [apply_ite (onChannels · x)]

@[simp] theorem revive_onChannels (i : Nat) : (onChannels s x).revive i = onChannels (s.revive i) x := by
  unfold State.revive
  simp only [onChannels_ctx, modCtx_onChannels, notifyMasked_onChannels]
  rw [apply_ite (onChannels · x)]

@[simp] theorem countDamaged_onChannels (i : Nat) : (onChannels s x).countDamaged i = onChannels (s.countDamaged i) x := by
  unfold State.countDamaged
  simp only [onChannels_ctx, modCtx_onChannels, fail_onChannels]
  rw [apply_ite (onChannels · x)]

@[simp] theorem countUnmatched_onChannels (link : BitVec 2) (key : Key) :
    (onChannels s x).countUnmatched link key = onChannels (s.countUnmatched link key) x := by
  rw [countUnmatched_eq, countUnmatched_eq]
  rfl

/-! ### Verify requests -/

@[simp] theorem verifyOutcome_onChannels (r : VerifyRequest) (o : VerifyOutcome) :
    (onChannels s x).verifyOutcome r o = onChannels (s.verifyOutcome r o) x := by
  unfold State.verifyOutcome State.verifyNotice
  dsimp only
  split <;> split <;> simp

@[simp] theorem startVerify_onChannels (l : List VerifyRequest) :
    startVerify l (onChannels s x) = onChannels (startVerify l s) x := by
  induction l generalizing s with
  | nil => rfl
  | cons r l ih =>
    unfold startVerify
    simp only [setVerify_onChannels, onChannels_mayRead, verifyOutcome_onChannels, ih]
    rw [apply_ite (onChannels · x)]
    rfl

@[simp] theorem nextVerify_onChannels (l : List VerifyRequest) :
    (onChannels s x).nextVerify l = onChannels (s.nextVerify l) x := by
  unfold State.nextVerify
  rw [onChannels_resets, startVerify_onChannels, apply_ite (onChannels · x)]
  rfl

@[simp] theorem foldAbort_onChannels (b : Bool) (l : List VerifyRequest) :
    l.foldl (State.abortQueued b) (onChannels s x) = onChannels (l.foldl (State.abortQueued b) s) x := by
  induction l generalizing s with
  | nil => rfl
  | cons r l ih =>
    rw [List.foldl_cons, List.foldl_cons, ← ih]
    unfold State.abortQueued
    rw [verifyOutcome_onChannels]

@[simp] theorem abortVerify_onChannels (i : Nat) (b : Bool) :
    (onChannels s x).abortVerify i b = onChannels (s.abortVerify i b) x := by
  unfold State.abortVerify
  rw [onChannels_verify]
  split
  · rfl
  · simp only [verifyQueue_onChannels, foldAbort_onChannels, setVerify_onChannels, verifyOutcome_onChannels,
      nextVerify_onChannels]
    split
    · rfl
    · split
      · rfl
      · split <;> rfl

/-! ### Restart and signal -/

@[simp] theorem restart_onChannels (i : Nat) : (onChannels s x).restart i = onChannels (s.restart i) x := by
  unfold State.restart
  simp only [onChannels_ctx, releaseUnwritten_onChannels, markOlder_onChannels, modCtx_onChannels,
    abortVerify_onChannels, rejudgeCtx_onChannels, notifyMasked_onChannels, memberRecovered_onChannels]
  rw [apply_ite (onChannels · x)]

@[simp] theorem signalStage_onChannels (i : Nat) (level : Bool) :
    (onChannels s x).signalStage i level =
      (onChannels (s.signalStage i level).1 x, (s.signalStage i level).2) := by
  unfold State.signalStage
  simp only [onChannels_ctx, onChannels_actions, modCtx_onChannels, notifyMasked_onChannels]
  split
  · rfl
  · split
    · split <;> split <;> simp
    · simp

/-! ### Areas and retirement -/

@[simp] theorem halfTest_onChannels (i n : Nat) : (onChannels s x).halfTest i n = onChannels (s.halfTest i n) x := by
  unfold State.halfTest
  simp only [onChannels_ctx, modCtx_onChannels, notifyMasked_onChannels]
  exact (apply_ite (onChannels · x) ..).symm

@[simp] theorem cutHalfTest_onChannels (i p : Nat) :
    (onChannels s x).cutHalfTest i p = onChannels (s.cutHalfTest i p) x := by
  unfold State.cutHalfTest
  simp only [onChannels_ctx, halfTest_onChannels]
  split
  · split <;> rfl
  · rfl

@[simp] theorem trimAreas_onChannels (i : Nat) : (onChannels s x).trimAreas i = onChannels (s.trimAreas i) x := by
  unfold State.trimAreas
  simp only [modCtx_onChannels, rejudgeCtx_onChannels, cutHalfTest_onChannels]

@[simp] theorem completionCheck_onChannels (i : Nat) :
    (onChannels s x).completionCheck i = onChannels (s.completionCheck i) x := by
  unfold State.completionCheck
  simp only [onChannels_ctx, modCtx_onChannels, notify_onChannels, memberDone_onChannels, fail_onChannels]
  split
  · split
    · split <;> rfl
    · rfl
  · rfl
  · rfl

@[simp] theorem retireWindow_onChannels (i n : Nat) :
    (onChannels s x).retireWindow i n = onChannels (s.retireWindow i n) x := by
  unfold State.retireWindow
  simp only [onChannels_ctx, modCtx_onChannels, notify_onChannels]

@[simp] theorem evaluateOnce_onChannels (i : Nat) : (onChannels s x).evaluateOnce i = onChannels (s.evaluateOnce i) x := by
  unfold State.evaluateOnce
  simp only [onChannels_ctx, onChannels_retirable, retireWindow_onChannels, completionCheck_onChannels]
  split
  · split <;> rfl
  · rfl

@[simp] theorem evaluateRetirement_onChannels (i : Nat) :
    (onChannels s x).evaluateRetirement i = onChannels (s.evaluateRetirement i) x := by
  unfold State.evaluateRetirement
  rw [evaluateOnce_onChannels, evaluateOnce_onChannels]

/-! ### The stages of a segment -/

/-- An answer whose state has other segments at its channels. -/
def Answer.onChannels (a : Answer) (x : Table (Option Segment)) : Answer :=
  ⟨a.code, a.edge, SegmentIntake.onChannels a.state x⟩

@[simp] theorem answer_onChannels (i : Nat) (code : DispositionCode) :
    (onChannels s x).answer i code = Answer.onChannels (s.answer i code) x := rfl
@[simp] theorem answer0_onChannels (code : DispositionCode) :
    (onChannels s x).answer0 code = Answer.onChannels (s.answer0 code) x := rfl

@[simp] theorem commit_onChannels (i : Nat) (g : DataSegment) :
    (onChannels s x).commit i g = onChannels (s.commit i g) x := by
  unfold State.commit State.implyTotal
  simp only [onChannels_ctx, modCtx_onChannels, trimAreas_onChannels]
  split <;> simp

@[simp] theorem rangeStage_onChannels (i : Nat) (g : DataSegment) :
    (onChannels s x).rangeStage i g = Answer.onChannels (s.rangeStage i g) x := by
  unfold State.rangeStage State.trimStage
  simp only [onChannels_ctx, onChannels_stagingRefusal, fail_onChannels, revive_onChannels, commit_onChannels,
    answer_onChannels]
  split
  · rfl
  · rfl
  · split
    · rfl
    · split
      · rfl
      · split <;> rfl

@[simp] theorem manifestStage_onChannels (i : Nat) (g : ManifestSegment) :
    (onChannels s x).manifestStage i g = Answer.onChannels (s.manifestStage i g) x := by
  unfold State.manifestStage State.recordManifest
  simp only [onChannels_ctx, modCtx_onChannels, revive_onChannels, trimAreas_onChannels, fail_onChannels]
  split
  · rfl
  · split <;> simp
  · rfl

@[simp] theorem dataStages_onChannels (i : Nat) (g : DataSegment) :
    (onChannels s x).dataStages i g = Answer.onChannels (s.dataStages i g) x := by
  unfold State.dataStages
  simp only [onChannels_ctx, signalStage_onChannels, rangeStage_onChannels, countDamaged_onChannels,
    answer_onChannels, modCtx_onChannels, countUnmatched_onChannels, answer0_onChannels]
  cases (s.ctx i).state with
  | active | stalled => dsimp only; split <;> rfl
  | done => exact (apply_ite (Answer.onChannels · x) ..).symm
  | failed =>
    dsimp only
    split
    · split <;> rfl
    · rfl
  | free | closing => rfl

@[simp] theorem manifestStages_onChannels (i : Nat) (g : ManifestSegment) :
    (onChannels s x).manifestStages i g = Answer.onChannels (s.manifestStages i g) x := by
  unfold State.manifestStages
  simp only [onChannels_ctx, signalStage_onChannels, manifestStage_onChannels, answer_onChannels,
    countUnmatched_onChannels, answer0_onChannels]
  cases (s.ctx i).state with
  | failed => dsimp only; split <;> rfl
  | active | stalled | done | free | closing => rfl

@[simp] theorem abandonStages_onChannels (i : Nat) (g : AbandonSegment) :
    (onChannels s x).abandonStages i g = Answer.onChannels (s.abandonStages i g) x := by
  unfold State.abandonStages
  simp only [onChannels_ctx, fail_onChannels, answer_onChannels, countUnmatched_onChannels, answer0_onChannels]
  cases (s.ctx i).state <;> rfl

theorem takeData_onChannels (g : DataSegment) :
    (onChannels s x).takeData g = Answer.onChannels (s.takeData g) x := by
  unfold State.takeData
  simp only [onChannels_admitting, onChannels_lookup, answer0_onChannels, countUnmatched_onChannels,
    dataStages_onChannels]
  split
  · rfl
  · split
    · rfl
    · split <;> rfl

theorem takeManifest_onChannels (g : ManifestSegment) :
    (onChannels s x).takeManifest g = Answer.onChannels (s.takeManifest g) x := by
  unfold State.takeManifest
  simp only [onChannels_admitting, onChannels_lookup, answer0_onChannels, countUnmatched_onChannels,
    manifestStages_onChannels]
  split
  · rfl
  · split
    · rfl
    · split <;> rfl

theorem takeAbandon_onChannels (g : AbandonSegment) :
    (onChannels s x).takeAbandon g = Answer.onChannels (s.takeAbandon g) x := by
  unfold State.takeAbandon
  simp only [onChannels_admitting, onChannels_lookup, answer0_onChannels, countUnmatched_onChannels,
    abandonStages_onChannels]
  split
  · rfl
  · split
    · rfl
    · split <;> rfl

/-- Taking a segment does the same whatever stands at the channels. -/
theorem takeSegment_onChannels (seg : Segment) :
    (onChannels s x).takeSegment seg = onChannels (s.takeSegment seg) x := by
  cases seg with
  | data g => unfold State.takeSegment; dsimp only; rw [takeData_onChannels]; rfl
  | manifest g => unfold State.takeSegment; dsimp only; rw [takeManifest_onChannels]; rfl
  | abandon g => unfold State.takeSegment; dsimp only; rw [takeAbandon_onChannels]; rfl
  | unknownKind g => rfl

end

end Sys2Proof.SegmentIntake
end

section
/-! Segments at the channels and the step on an empty queue (R25, R138, R140, R141): the statement O3. -/

namespace Sys2Proof.SegmentIntake

open Sys2Proof Sys2Proof.Machine Sys2Proof.Laws Sys2Proof.Contexts

/-! ## Presentation (R25) -/

theorem arrive_of_occupied {s : State} {seg : Segment} (h : s.channel seg.link.toNat ≠ none) (arrival : Arrival) :
    s.arrive seg arrival = s := by
  have occupied : (s.channel seg.link.toNat).isNone = false := by simpa [Option.isSome_iff_ne_none] using h
  unfold State.arrive State.channelReady
  rw [occupied, Bool.and_false]
  rfl

theorem arrive_of_waiting {s : State} {seg : Segment} {arrival : Arrival} (held : s.resets.held = false)
    (free : s.channel seg.link.toNat = none) (waits : arrival = .busy ∨ s.intake.channels ≠ []) :
    s.arrive seg arrival = s.setChannel seg.link.toNat (some seg) := by
  have notTaken : ¬(arrival = .idle ∧ s.intake.channels = []) := by
    rintro ⟨rfl, empty⟩
    exact waits.elim (fun h => Arrival.noConfusion h) (fun h => h empty)
  unfold State.arrive State.channelReady State.live
  rw [held, free, if_neg notTaken]
  rfl

/-- A segment taken whole leaves each channel as it stood. -/
theorem takeSegment_channel (s : State) (seg : Segment) (k : Nat) : (s.takeSegment seg).channel k = s.channel k := by
  unfold State.channel
  rw [takeSegment_channels]

/-- What taking a segment does to a part with no segment waiting is all that it does to one with some. -/
theorem takeSegment_beside_channels (s : State) (seg : Segment) :
    s.takeSegment seg = onChannels ((onChannels s []).takeSegment seg) s.intake.channels := by
  rw [takeSegment_onChannels, ← takeSegment_channels s seg]
  rfl

/-! ## The turn of a channel (R25) -/

/-- The first index after the pointer that passes a test, or, with none there, the first of all. -/
theorem firstAfter_range {n pointer k : Nat} {p : Nat → Bool} (inside : k < n) (passes : p k = true)
    (turn : (pointer < k ∧ ∀ l, pointer < l → l < k → p l = false) ∨
      (k ≤ pointer ∧ (∀ l, pointer < l → l < n → p l = false) ∧ ∀ l, l < k → p l = false)) :
    firstAfter pointer ((List.range n).filter p) = some k := by
  unfold firstAfter
  rw [List.find?_filter, List.head?_filter]
  rcases turn with ⟨after, first⟩ | ⟨before, beyond, first⟩
  · have found : (List.range n).find? (fun a => p a ∧ decide (pointer < a)) = some k := by
      simp only [List.find?_range_eq_some, List.mem_range]
      refine ⟨by simp [passes, after], inside, fun j hj => ?_⟩
      by_cases ahead : pointer < j <;> simp [ahead, first, hj]
    rw [found]
    rfl
  · have absent : (List.range n).find? (fun a => p a ∧ decide (pointer < a)) = none := by
      rw [List.find?_range_eq_none]
      intro j hj
      by_cases ahead : pointer < j <;> simp [ahead, beyond, hj]
    have found : (List.range n).find? p = some k := by
      simp only [List.find?_range_eq_some, List.mem_range]
      exact ⟨passes, inside, fun j hj => by simp [first j hj]⟩
    rw [absent, found]
    rfl

/-- The channel whose turn it is, as the statements write it: the first after the link last served, wrapping. -/
theorem nextChannel_eq {s : State} {k : Nat} {seg : Segment} (inside : k < 4) (waits : s.channel k = some seg)
    (turn : (s.intake.lastLink.toNat < k ∧ ∀ l, s.intake.lastLink.toNat < l → l < k → s.channel l = none) ∨
      (k ≤ s.intake.lastLink.toNat ∧ (∀ l, s.intake.lastLink.toNat < l → l < 4 → s.channel l = none) ∧
        ∀ l, l < k → s.channel l = none)) : s.nextChannel = some k := by
  refine firstAfter_range inside (by rw [waits]; rfl) (turn.imp (fun h => ⟨h.1, fun l a b => ?_⟩)
    fun h => ⟨h.1, fun l a b => ?_, fun l a => ?_⟩)
  · rw [h.2 l a b]; rfl
  · rw [h.2.1 l a b]; rfl
  · rw [h.2.2 l a]; rfl

theorem nextChannel_of_empty {s : State} (empty : ∀ k, k < 4 → s.channel k = none) : s.nextChannel = none := by
  have vacant : (List.range 4).filter (fun k => (s.channel k).isSome) = [] := by
    rw [List.filter_eq_nil_iff]
    intro k hk
    rw [empty k (List.mem_range.1 hk)]
    exact Bool.false_ne_true
  unfold State.nextChannel
  rw [vacant]
  rfl

/-! ## The step on an empty queue (log 2) -/

theorem step_of_empty {s : State} (h : s.pending = []) : step s = .next s.idle := by
  unfold step
  rw [h]

theorem idle_of_held {s : State} (h : s.resets.held = true) : s.idle = s := by
  unfold State.idle State.whenLive State.live
  rw [h]
  rfl

theorem idle_of_turn {s : State} {k : Nat} {seg : Segment} (held : s.resets.held = false)
    (turn : s.nextChannel = some k) (waits : s.channel k = some seg) :
    s.idle = (s.setChannel k none).takeSegment seg := by
  unfold State.idle
  rw [whenLive_of_live held, turn]
  unfold State.serveNext
  rw [turn]
  dsimp only [Option.isSome_some, if_true]
  rw [waits]
  rfl

theorem idle_of_due {s : State} {i : Nat} (held : s.resets.held = false) (noTurn : s.nextChannel = none)
    (due : s.dueContext = some i) : s.idle = s.expire i := by
  unfold State.idle
  rw [whenLive_of_live held, noTurn, due]
  rfl

theorem idle_of_quiet {s : State} (held : s.resets.held = false) (noTurn : s.nextChannel = none)
    (due : s.dueContext = none) : s.idle = s.tick := by
  unfold State.idle
  rw [whenLive_of_live held, noTurn, due]
  rfl

theorem expiryDue_iff (c : Ctx) :
    c.expiryDue = true ↔ (c.state = .active ∧ c.timer = .stall 0) ∨ (c.state = .stalled ∧ c.timer = .abandon (some 0)) := by
  simp [Ctx.expiryDue]

/-- In a rising list the least element that passes a test is the first found. -/
theorem find?_of_rising {l : List Nat} {p : Nat → Bool} {i : Nat} (rising : l.Pairwise (· < ·)) (mem : i ∈ l)
    (passes : p i = true) (least : ∀ j, j < i → p j = false) : l.find? p = some i := by
  induction l with
  | nil => cases mem
  | cons a l ih =>
    obtain ⟨below, rising⟩ := List.pairwise_cons.1 rising
    rcases List.mem_cons.1 mem with rfl | mem
    · rw [List.find?_cons, passes]
    · rw [List.find?_cons, least a (below i mem)]
      exact ih rising mem

/-- A record that is not FREE is listed. -/
theorem mem_keys_of_ctx {s : State} {i : Nat} (h : s.ctx i ≠ Ctx.free) : i ∈ Table.keys s.contexts := by
  unfold State.ctx Table.get Table.lookup at h
  cases found : s.contexts.find? fun e => e.1 == i with
  | none => rw [found] at h; exact absurd rfl h
  | some e =>
    have own : e.1 = i := by simpa using List.find?_some found
    exact List.mem_map.2 ⟨e, List.mem_of_find?_eq_some found, own⟩

/-- The lowest context with an expiry due is the one whose expiry is taken. -/
theorem dueContext_eq {s : State} {i : Nat} (canonical : CanonicalForm s) (due : (s.ctx i).expiryDue = true)
    (least : ∀ j, j < i → (s.ctx j).expiryDue = false) : s.dueContext = some i := by
  refine find?_of_rising (List.pairwise_map.2 canonical.contexts.1) (mem_keys_of_ctx fun free => ?_) due least
  rw [free] at due
  exact absurd due (by decide)

theorem dueContext_of_none {s : State} (h : ∀ i, (s.ctx i).expiryDue = false) : s.dueContext = none :=
  List.find?_eq_none.2 fun i _ => by rw [h i]; exact Bool.false_ne_true

/-- Settles O3: presentation, the independence of what waits, and the empty queue's step by its three cases. -/
theorem emptyQueueCountsTimersDown : Obligations.EmptyQueueCountsTimersDown := by
  intro s
  refine ⟨fun seg arrival held => ⟨fun occupied => ?_, fun empty => exec_idle held empty seg, fun free waits => ?_⟩,
    fun seg held => ?_, fun empty => ⟨fun held => ?_, fun held k seg inside waits turn => ?_, fun held vacant => ?_⟩⟩
  · rw [exec_presented, arrive_of_occupied occupied]
  · rw [exec_presented, arrive_of_waiting held free waits]
    exact ⟨_, rfl, rfl, channel_setChannel_same .., fun k other => by rw [channel_setChannel, if_neg other]⟩
  · exact ⟨_, exec_idle (s := onChannels s []) held rfl seg, takeSegment_beside_channels s seg⟩
  · rw [step_of_empty empty, idle_of_held held]
  · rw [step_of_empty empty, idle_of_turn held (nextChannel_eq inside waits turn) waits]
    refine ⟨_, rfl, rfl, takeSegment_lastLink .., ?_, fun l other => ?_⟩
    · rw [takeSegment_channel, channel_setChannel_same]
    · rw [takeSegment_channel, channel_setChannel, if_neg other]
  · have noTurn := nextChannel_of_empty vacant
    rw [step_of_empty empty]
    refine ⟨fun index canonical least => ?_, fun quiet => ?_⟩
    · have earlier : ∀ j, j < index.toNat → (s.ctx j).expiryDue = false := fun j hj => by
        rw [← Bool.not_eq_true, expiryDue_iff, not_or]
        exact least j hj
      have expires : (s.ctx index.toNat).expiryDue = true → s.idle = s.expire index.toNat := fun due =>
        idle_of_due held noTurn (dueContext_eq canonical due earlier)
      refine ⟨fun due => ?_, fun due => ?_⟩
      · rw [expires ((expiryDue_iff _).2 (.inl due)), State.expire, if_pos due.1]
        exact congrArg Host.Outcome.next (whenLive_of_live held fun s => s.stallExpire index.toNat).symm
      · rw [expires ((expiryDue_iff _).2 (.inr due)), State.expire, if_neg (by rw [due.1]; decide)]
        exact congrArg Host.Outcome.next (whenLive_of_live held fun s => s.abandonExpire index.toNat).symm
    · have noDue : ∀ i, (s.ctx i).expiryDue = false := fun i => by
        rw [← Bool.not_eq_true, expiryDue_iff, not_or]
        exact quiet i
      rw [idle_of_quiet held noTurn (dueContext_of_none noDue)]
      refine ⟨_, rfl, rfl, fun i => (ctx_tick s i).trans (congrArg (fun timer => ({ s.ctx i with timer } : Ctx)) ?_)⟩
      match (s.ctx i).timer with
      | .stopped | .stall _ | .abandon none | .abandon (some _) => rfl

end Sys2Proof.SegmentIntake
end

section
/-! Entries as fields at byte offsets, read back (section 11.5): the statement O18. -/

namespace Sys2Proof.SegmentIntake

open Sys2Proof Sys2Proof.Machine Sys2Proof.Laws Sys2Proof.Contexts

/-! ## Reading fields back -/

/-- A run of bytes of an entry, byte by byte. -/
theorem field_map_range (f : Nat → Byte) {n start size : Nat} (inside : start + size ≤ n) :
    field ((List.range n).map f) start size = leNat ((List.range size).map fun k => f (start + k)) := by
  unfold field
  congr 1
  apply List.ext_getElem
  · simp only [List.length_take, List.length_drop, List.length_map, List.length_range]
    omega
  · intro k h1 h2
    simp

/-- The bytes of a number, least significant first, spell it modulo their width. -/
theorem leNat_bytes (v size : Nat) :
    leNat ((List.range size).map fun k => BitVec.ofNat 8 (v / 256 ^ k)) = v % 256 ^ size := by
  induction size generalizing v with
  | zero => simp [leNat, Nat.mod_one]
  | succ size ih =>
    have rest : (fun k => BitVec.ofNat 8 (v / 256 ^ (k + 1))) = fun k => BitVec.ofNat 8 (v / 256 / 256 ^ k) := by
      funext k
      rw [Nat.pow_succ', Nat.div_div_eq_div_mul]
    rw [List.range_succ_eq_map, List.map_cons, List.map_map]
    simp only [leNat, Function.comp_def]
    rw [rest, ih, Nat.pow_succ', Nat.mod_mul]
    simp

theorem leNat_zeros (size : Nat) : leNat ((List.range size).map fun _ => (0 : Byte)) = 0 := by
  have zeros : (fun _ : Nat => (0 : Byte)) = fun k => BitVec.ofNat 8 (0 / 256 ^ k) := by
    funext k
    simp
  rw [zeros, leNat_bytes, Nat.zero_mod]

/-- Two fields share no byte. -/
abbrev Apart (f g : EntryField) : Prop := f.at_ + f.size ≤ g.at_ ∨ g.at_ + g.size ≤ f.at_

/-- A position of a field, in fields that share no byte, is that field's. -/
theorem find?_of_apart {fields : List EntryField} (apart : fields.Pairwise Apart) {f : EntryField} (mem : f ∈ fields)
    {k : Nat} (low : f.at_ ≤ k) (high : k < f.at_ + f.size) :
    (fields.find? fun f => decide (f.at_ ≤ k) && decide (k < f.at_ + f.size)) = some f := by
  induction fields with
  | nil => cases mem
  | cons g fields ih =>
    obtain ⟨others, apart⟩ := List.pairwise_cons.1 apart
    rcases List.mem_cons.1 mem with rfl | mem
    · rw [List.find?_cons, decide_eq_true low, decide_eq_true high]
      rfl
    · have miss : (decide (g.at_ ≤ k) && decide (k < g.at_ + g.size)) = false := by
        have := others f mem
        simp only [Bool.and_eq_false_iff, decide_eq_false_iff_not]
        omega
      rw [List.find?_cons, miss]
      exact ih apart mem

/-- A field of an entry reads back, cut to its width. -/
theorem field_of_mem {n : Nat} {fill : Nat → Byte} {fields : List EntryField} (apart : fields.Pairwise Apart)
    {start size value : Nat} (mem : ⟨start, size, value⟩ ∈ fields) (inside : start + size ≤ n) :
    field (entryBytes n fill fields) start size = value % 256 ^ size := by
  unfold entryBytes
  rw [field_map_range _ inside, ← leNat_bytes]
  congr 1
  refine List.map_congr_left fun k hk => ?_
  have below := List.mem_range.1 hk
  unfold entryByte
  rw [find?_of_apart apart mem (k := start + k) (Nat.le_add_right ..) (Nat.add_lt_add_left below start)]
  dsimp only
  rw [Nat.add_sub_cancel_left]

/-- Bytes that no field names read 0 where the fill is 0. -/
theorem field_of_unnamed {n : Nat} {fields : List EntryField} {start size : Nat}
    (unnamed : ∀ f ∈ fields, f.at_ + f.size ≤ start ∨ start + size ≤ f.at_) (inside : start + size ≤ n) :
    field (entryBytes n (fun _ => 0) fields) start size = 0 := by
  unfold entryBytes
  rw [field_map_range _ inside, ← leNat_zeros size]
  congr 1
  refine List.map_congr_left fun k hk => ?_
  have below := List.mem_range.1 hk
  have none : (fields.find? fun f => decide (f.at_ ≤ start + k) && decide (start + k < f.at_ + f.size)) = none := by
    rw [List.find?_eq_none]
    intro f mem
    have := unnamed f mem
    simp only [Bool.and_eq_true, decide_eq_true_eq]
    omega
  unfold entryByte
  rw [none]

@[simp] theorem entryBytes_length (n : Nat) (fill : Nat → Byte) (fields : List EntryField) :
    (entryBytes n fill fields).length = n := by simp [entryBytes]

/-! ## Owed sets and flags -/

theorem sum_filter_eq_foldl {α : Type} (p : α → Bool) (f : α → Nat) (l : List α) (n : Nat) :
    n + ((l.filter p).map f).sum = l.foldl (fun n k => if p k then n + f k else n) n := by
  induction l generalizing n with
  | nil => rfl
  | cons a l ih =>
    rw [List.foldl_cons, ← ih]
    cases h : p a <;> simp [h, Nat.add_assoc]

/-- An owed set as coded: bit n for kind code n. -/
theorem owedBits_eq (owed : List OwedKind) : owedBits owed =
    [OwedKind.windowFilled, .halfFilled, .transferDone, .transferFailed, .stalled, .resumed, .senderSignal, .restarted,
      .groupDone, .groupFailed, .verifyResult].zipIdx.foldl (fun n k => if k.1 ∈ owed then n + 2 ^ (k.2 + 2) else n) 0 := by
  unfold owedBits
  rw [← Nat.zero_add (List.sum _), sum_filter_eq_foldl]
  simp only [owedKinds, List.foldl_cons, List.foldl_nil, List.zipIdx_cons, List.zipIdx_nil, List.contains_iff_mem,
    OwedKind.number, Nat.reduceAdd]

/-- Flags as a byte: each with its bit's weight. -/
theorem flagBits_two (a b : Bool) : flagBits [a, b] = (if a then 2 ^ 0 else 0) + (if b then 2 ^ 1 else 0) := by
  cases a <;> cases b <;> rfl

theorem flagBits_five (a b c d e : Bool) : flagBits [a, b, c, d, e] =
    (if a then 2 ^ 0 else 0) + (if b then 2 ^ 1 else 0) + (if c then 2 ^ 2 else 0) + (if d then 2 ^ 3 else 0) +
      (if e then 2 ^ 4 else 0) := by
  cases a <;> cases b <;> cases c <;> cases d <;> cases e <;> rfl

end Sys2Proof.SegmentIntake
end

section
/-! The 12 bytes of a disposition, the 32 of a notice and the 512 of a snapshot (section 11.5): the statement O18. -/

namespace Sys2Proof.SegmentIntake

open Sys2Proof Sys2Proof.Machine Sys2Proof.Laws Sys2Proof.Contexts

theorem code_number_lt (c : DispositionCode) : c.number < 256 := by cases c <;> decide

/-- The fields of a disposition at their offsets. -/
theorem disposition_reads (d : Disposition) (edge : d.edge ≤ 2 ^ 40) :
    d.bytes.length = 12 ∧ field d.bytes 0 2 = d.handle.toNat ∧ field d.bytes 2 1 = d.kind.toNat ∧
      field d.bytes 3 1 = d.code.number ∧ field d.bytes 4 8 = d.edge := by
  have read : ∀ (m start size value : Nat),
      [EntryField.mk 0 2 d.handle.toNat, ⟨2, 1, d.kind.toNat⟩, ⟨3, 1, d.code.number⟩, ⟨4, 8, d.edge⟩][m]? =
        some ⟨start, size, value⟩ → start + size ≤ 12 → field d.bytes start size = value % 256 ^ size :=
    fun m start size value at_ inside =>
      field_of_mem (of_decide_eq_true rfl) (List.mem_of_getElem? at_) inside
  refine ⟨entryBytes_length .., ?_, ?_, ?_, ?_⟩
  · exact (read 0 0 2 _ rfl (by decide)).trans (Nat.mod_eq_of_lt d.handle.isLt)
  · exact (read 1 2 1 _ rfl (by decide)).trans (Nat.mod_eq_of_lt d.kind.isLt)
  · exact (read 2 3 1 _ rfl (by decide)).trans (Nat.mod_eq_of_lt (code_number_lt d.code))
  · exact (read 3 4 8 _ rfl (by decide)).trans (Nat.mod_eq_of_lt (by omega))

/-! ## Notices -/

/-- The fields of a notice, kind code and index among them. -/
def noticeFields (n : Notice) : List EntryField := [⟨0, 1, n.number⟩, ⟨2, 2, n.charged⟩] ++ n.further

theorem noticeFields_apart (n : Notice) : (noticeFields n).Pairwise Apart := by
  cases n with
  | verifyResult i area window o => cases o <;> exact of_decide_eq_true rfl
  | _ => exact of_decide_eq_true rfl

/-- The `m`-th field of a notice reads back, cut to its width. -/
theorem notice_read {n : Notice} (m : Nat) {start size value : Nat} (at_ : (noticeFields n)[m]? = some ⟨start, size, value⟩)
    (inside : start + size ≤ 32) : field n.bytes start size = value % 256 ^ size :=
  field_of_mem (noticeFields_apart n) (List.mem_of_getElem? at_) inside

/-! ## Snapshots -/

/-- The fields of the extent slots from slot `j`. -/
theorem mem_extentFields {j : Nat} {l : List Extent} {f : EntryField} : f ∈ extentFields j l ↔
    ∃ k e, l[k]? = some e ∧ (f = ⟨160 + 12 * (j + k), 5, e.start / 4⟩ ∨ f = ⟨160 + 12 * (j + k) + 5, 6, e.stop⟩) := by
  induction l generalizing j with
  | nil => simp [extentFields]
  | cons e l ih =>
    simp only [extentFields, List.mem_cons, ih]
    constructor
    · rintro (rfl | rfl | ⟨k, e', at_, h⟩)
      · exact ⟨0, e, rfl, .inl rfl⟩
      · exact ⟨0, e, rfl, .inr rfl⟩
      · exact ⟨k + 1, e', at_, by rwa [Nat.add_right_comm, Nat.add_assoc] at h⟩
    · rintro ⟨k, e', at_, h⟩
      cases k with
      | zero =>
        obtain rfl : e = e' := by simpa using at_
        exact h.imp_right .inl
      | succ k => exact .inr (.inr ⟨k, e', at_, by rwa [Nat.add_right_comm j 1 k, Nat.add_assoc]⟩)

/-- Where a field of the extent slots lies: in a slot of the list, before the slot's last byte. -/
theorem extentFields_place {j : Nat} {l : List Extent} {f : EntryField} (h : f ∈ extentFields j l) :
    ∃ k, k < l.length ∧ 160 + 12 * (j + k) ≤ f.at_ ∧ f.at_ + f.size ≤ 160 + 12 * (j + k) + 11 := by
  obtain ⟨k, e, at_, rfl | rfl⟩ := mem_extentFields.1 h
  · exact ⟨k, (List.getElem?_eq_some_iff.1 at_).1, Nat.le_refl _, Nat.add_le_add_left (show 5 ≤ 11 by decide) _⟩
  · exact ⟨k, (List.getElem?_eq_some_iff.1 at_).1, Nat.le_add_right _ _, Nat.le_refl _⟩

theorem extentFields_apart (j : Nat) (l : List Extent) : (extentFields j l).Pairwise Apart := by
  induction l generalizing j with
  | nil => exact List.Pairwise.nil
  | cons e l ih =>
    have later : ∀ f ∈ extentFields (j + 1) l, 160 + 12 * j + 11 < f.at_ := fun f mem => by
      obtain ⟨k, _, low, _⟩ := extentFields_place mem
      omega
    refine List.pairwise_cons.2 ⟨fun f mem => .inl ?_, List.pairwise_cons.2 ⟨fun f mem => .inl ?_, ih (j + 1)⟩⟩
    · rcases List.mem_cons.1 mem with rfl | mem
      · exact Nat.le_refl _
      · have := later f mem
        show 160 + 12 * j + 5 ≤ f.at_
        omega
    · have := later f mem
      show 160 + 12 * j + 5 + 6 ≤ f.at_
      omega

/-- A field lies outside a run of bytes. -/
abbrev Outside (start size : Nat) (f : EntryField) : Prop := f.at_ + f.size ≤ start ∨ start + size ≤ f.at_

/-- The fields of a snapshot before its extent slots share no byte, and leave out the bytes that the section does not
name. -/
theorem snapshot_head (n : Snapshot) : ∃ head, n.fields = head ++ extentFields 0 n.record.extents ∧ head.Pairwise Apart ∧
    (∀ f ∈ head, f.at_ + f.size ≤ 160 ∧ Outside 59 1 f ∧ Outside 81 15 f ∧ Outside 107 1 f ∧ Outside 139 1 f) ∧
    (n.group = none → ∀ f ∈ head, Outside 74 7 f) := by
  obtain ⟨index, record, stagedCount, bucket, position, effPriority, effHold, group⟩ := n
  cases group with
  | none => exact ⟨_, rfl, of_decide_eq_true rfl, of_decide_eq_true rfl, fun _ => of_decide_eq_true rfl⟩
  | some g => exact ⟨_, rfl, of_decide_eq_true rfl, of_decide_eq_true rfl, nofun⟩

theorem snapshot_apart (n : Snapshot) : n.fields.Pairwise Apart := by
  obtain ⟨head, fields, apart, below, _⟩ := snapshot_head n
  rw [fields]
  refine List.pairwise_append.2 ⟨apart, extentFields_apart .., fun f hf g hg => .inl ?_⟩
  obtain ⟨k, _, low, _⟩ := extentFields_place hg
  have := (below f hf).1
  omega

/-- A field of a snapshot reads back, cut to its width. -/
theorem snapshot_read_mem {n : Snapshot} {start size value : Nat} (mem : ⟨start, size, value⟩ ∈ n.fields)
    (inside : start + size ≤ 512) : field n.bytes start size = value % 256 ^ size :=
  field_of_mem (snapshot_apart n) mem inside

/-- The `m`-th field of a snapshot reads back, cut to its width. -/
theorem snapshot_read {n : Snapshot} (m : Nat) {start size value : Nat} (at_ : n.fields[m]? = some ⟨start, size, value⟩)
    (inside : start + size ≤ 512) : field n.bytes start size = value % 256 ^ size :=
  snapshot_read_mem (List.mem_of_getElem? at_) inside

/-- Bytes of a snapshot that the fields before the extent slots leave out, and no slot of the list holds, read 0. -/
theorem snapshot_unnamed {n : Snapshot} {start size : Nat} (head : ∀ f ∈ n.fields, f ∉ extentFields 0 n.record.extents →
      Outside start size f)
    (slots : ∀ k, k < n.record.extents.length → start + size ≤ 160 + 12 * k ∨ 160 + 12 * k + 11 ≤ start)
    (inside : start + size ≤ 512) : field n.bytes start size = 0 % 256 ^ size := by
  rw [Nat.zero_mod]
  refine field_of_unnamed (fun f mem => ?_) inside
  by_cases slot : f ∈ extentFields 0 n.record.extents
  · obtain ⟨k, inList, low, high⟩ := extentFields_place slot
    have := slots k inList
    omega
  · exact head f mem slot

end Sys2Proof.SegmentIntake
end

section
/-! The formats the part writes, read back (section 11.5): the statement O18. -/

namespace Sys2Proof.SegmentIntake

open Sys2Proof Sys2Proof.Machine Sys2Proof.Laws Sys2Proof.Contexts

section
variable (n : Snapshot)

/-- Bytes below the extent slots that no field names. -/
theorem snapshot_gaps :
    field n.bytes 59 1 = 0 % 256 ^ 1 ∧ field n.bytes 81 15 = 0 % 256 ^ 15 ∧ field n.bytes 107 1 = 0 % 256 ^ 1 ∧
      field n.bytes 139 1 = 0 % 256 ^ 1 ∧ (n.group = none → field n.bytes 74 7 = 0 % 256 ^ 7) := by
  obtain ⟨head, fields, _, clear, noGroup⟩ := snapshot_head n
  have inHead : ∀ f ∈ n.fields, f ∉ extentFields 0 n.record.extents → f ∈ head := fun f mem slot =>
    (List.mem_append.1 (fields ▸ mem)).resolve_right slot
  refine ⟨?_, ?_, ?_, ?_, fun none => ?_⟩ <;>
    refine snapshot_unnamed (fun f mem slot => ?_) (fun k _ => .inl (by omega)) (by decide) <;>
    have place := clear f (inHead f mem slot)
  · exact place.2.1
  · exact place.2.2.1
  · exact place.2.2.2.1
  · exact place.2.2.2.2
  · exact noGroup none f (inHead f mem slot)

/-- The extent slots: start word index, end offset, and zeros in a slot's last byte and in the slots not used. -/
theorem snapshot_slots (limit : n.record.extents.length ≤ 24) :
    (∀ k e, n.record.extents[k]? = some e →
      field n.bytes (160 + 12 * k) 5 = e.start / 4 % 256 ^ 5 ∧ field n.bytes (160 + 12 * k + 5) 6 = e.stop % 256 ^ 6 ∧
        field n.bytes (160 + 12 * k + 11) 1 = 0 % 256 ^ 1) ∧
      (∀ k, n.record.extents.length ≤ k → k < 24 → field n.bytes (160 + 12 * k) 12 = 0 % 256 ^ 12) ∧
      field n.bytes 448 64 = 0 % 256 ^ 64 := by
  obtain ⟨head, fields, _, clear, _⟩ := snapshot_head n
  have above : ∀ start size, 160 ≤ start → ∀ f ∈ n.fields, f ∉ extentFields 0 n.record.extents → Outside start size f :=
    fun start size high f mem slot =>
      .inl ((clear f ((List.mem_append.1 (fields ▸ mem)).resolve_right slot)).1.trans high)
  have slot : ∀ f ∈ extentFields 0 n.record.extents, f ∈ n.fields := fun f mem => by
    rw [fields]; exact List.mem_append_right _ mem
  refine ⟨fun k e at_ => ?_, fun k beyond below => ?_, ?_⟩
  · have inList : k < n.record.extents.length := (List.getElem?_eq_some_iff.1 at_).1
    refine ⟨snapshot_read_mem (slot _ ?_) (by omega), snapshot_read_mem (slot _ ?_) (by omega), ?_⟩
    · exact mem_extentFields.2 ⟨k, e, at_, .inl (by rw [Nat.zero_add])⟩
    · exact mem_extentFields.2 ⟨k, e, at_, .inr (by rw [Nat.zero_add])⟩
    · exact snapshot_unnamed (above _ _ (by omega)) (fun l _ => by omega) (by omega)
  · exact snapshot_unnamed (above _ _ (by omega)) (fun l _ => by omega) (by omega)
  · exact snapshot_unnamed (above _ _ (by omega)) (fun l _ => by omega) (by omega)

end

theorem mem_area0 (n : Snapshot) {f : EntryField} (h : f ∈ n.record.area0.fields 96) : f ∈ n.fields := by
  unfold Snapshot.fields
  simp only [List.mem_append]
  exact .inl (.inl (.inr h))

theorem mem_area1 (n : Snapshot) {f : EntryField} (h : f ∈ n.record.area1.fields 128) : f ∈ n.fields := by
  unfold Snapshot.fields
  simp only [List.mem_append]
  exact .inl (.inr h)

theorem mem_group {n : Snapshot} {g : GroupView} (group : n.group = some g) {f : EntryField}
    (h : f ∈ groupFields (some g)) : f ∈ n.fields := by
  unfold Snapshot.fields
  rw [group]
  simp only [List.mem_append]
  exact .inl (.inl (.inl (.inr h)))

theorem mem_noGroup {n : Snapshot} (group : n.group = none) : EntryField.mk 60 2 0xFFFF ∈ n.fields := by
  unfold Snapshot.fields
  rw [group]
  simp only [List.mem_append]
  exact .inl (.inl (.inl (.inr (List.mem_singleton.2 rfl))))

/-- The fields of an area at their offsets from its start. -/
theorem area_reads {n : Snapshot} {start : Nat} {a : Area} (inside : start + 32 ≤ 512)
    (mem : ∀ f ∈ a.fields start, f ∈ n.fields) (gap : field n.bytes (start + 11) 1 = 0 % 256 ^ 1) :
    field n.bytes start 8 = a.base % 256 ^ 8 ∧ field n.bytes (start + 8) 1 = a.state.number % 256 ^ 1 ∧
      field n.bytes (start + 9) 1 =
        ((if a.halfSent then 2 ^ 0 else 0) + (if a.faulted then 2 ^ 1 else 0)) % 256 ^ 1 ∧
      field n.bytes (start + 10) 1 = a.verify.number % 256 ^ 1 ∧ field n.bytes (start + 11) 1 = 0 % 256 ^ 1 ∧
      field n.bytes (start + 12) 4 = a.delivered % 256 ^ 4 ∧ field n.bytes (start + 16) 8 = a.window.getD 0 % 256 ^ 8 ∧
      field n.bytes (start + 24) 4 = a.digest.a % 256 ^ 4 ∧ field n.bytes (start + 28) 4 = a.digest.b % 256 ^ 4 := by
  have read : ∀ (m : Nat) {at_ size value : Nat}, (a.fields start)[m]? = some (EntryField.mk at_ size value) →
      at_ + size ≤ 512 → field n.bytes at_ size = value % 256 ^ size := fun m _ _ _ h inside =>
    snapshot_read_mem (mem _ (List.mem_of_getElem? h)) inside
  rw [← flagBits_two]
  exact ⟨read 0 rfl (by omega), read 1 rfl (by omega), read 2 rfl (by omega), read 3 rfl (by omega), gap,
    read 4 rfl (by omega), read 5 rfl (by omega), read 6 rfl (by omega), read 7 rfl (by omega)⟩

/-- Settles O18: each format is a list of fields that share no byte, and each field reads back. -/
theorem writtenFormatsReadBack : Obligations.WrittenFormatsReadBack := by
  refine ⟨rfl, rfl, rfl, rfl, rfl, rfl, disposition_reads, fun n => ⟨entryBytes_length .., ?_⟩, fun n limit => ?_⟩
  · have kind := notice_read (n := n) 0 rfl (by decide)
    have index := notice_read (n := n) 1 rfl (by decide)
    have read := fun m {start size value} => notice_read (n := n) m (start := start) (size := size) (value := value)
    cases n with
    | cmdResult i tag code status =>
      exact ⟨kind, index, read 2 rfl (by decide), read 3 rfl (by decide), read 4 rfl (by decide)⟩
    | windowFilled i area window count d =>
      exact ⟨kind, index, read 2 rfl (by decide), read 3 rfl (by decide), read 4 rfl (by decide), read 5 rfl (by decide),
        read 6 rfl (by decide)⟩
    | halfFilled i area window delivered =>
      exact ⟨kind, index, read 2 rfl (by decide), read 3 rfl (by decide), read 4 rfl (by decide)⟩
    | transferDone i total d =>
      exact ⟨kind, index, read 2 rfl (by decide), read 3 rfl (by decide), read 4 rfl (by decide)⟩
    | transferFailed i cause => exact ⟨kind, index, read 2 rfl (by decide)⟩
    | stalled i => exact ⟨kind, index⟩
    | resumed i => exact ⟨kind, index⟩
    | senderSignal i => exact ⟨kind, index⟩
    | restarted i generation => exact ⟨kind, index, read 2 rfl (by decide)⟩
    | groupDone leader group members => exact ⟨kind, index, read 2 rfl (by decide), read 3 rfl (by decide)⟩
    | groupFailed leader group cause member =>
      exact ⟨kind, index, read 2 rfl (by decide), read 3 rfl (by decide), read 4 rfl (by decide)⟩
    | verifyResult i area window outcome =>
      refine ⟨kind, index, read 2 rfl (by decide), read 4 rfl (by decide), ?_⟩
      cases outcome with
      | matched d => exact ⟨read 3 rfl (by decide), read 5 rfl (by decide), read 6 rfl (by decide)⟩
      | mismatch d => exact ⟨read 3 rfl (by decide), read 5 rfl (by decide), read 6 rfl (by decide)⟩
      | readFault offset => exact ⟨read 3 rfl (by decide), read 5 rfl (by decide)⟩
      | aborted => exact read 3 rfl (by decide)
    | unmatched link peer tag =>
      exact ⟨kind, index, read 2 rfl (by decide), read 3 rfl (by decide), read 4 rfl (by decide)⟩
    | rollup i owed => exact ⟨kind, index, (read 2 rfl (by decide)).trans (by rw [owedBits_eq])⟩
  · obtain ⟨gap59, gap81, gap107, gap139, gapGroup⟩ := snapshot_gaps n
    obtain ⟨slots, unused, rest⟩ := snapshot_slots n limit
    have read := fun m {start size value} => snapshot_read (n := n) m (start := start) (size := size) (value := value)
    refine ⟨entryBytes_length .., read 0 rfl (by decide), read 1 rfl (by decide), ?_, read 4 rfl (by decide),
      read 5 rfl (by decide), read 6 rfl (by decide), (read 7 rfl (by decide)).trans (by rw [maskByte, flagBits_five]),
      (read 8 rfl (by decide)).trans (by rw [flagBits_five]), read 9 rfl (by decide), read 10 rfl (by decide),
      read 11 rfl (by decide), read 12 rfl (by decide), read 13 rfl (by decide), read 14 rfl (by decide), ?_,
      read 16 rfl (by decide), read 17 rfl (by decide), read 21 rfl (by decide), read 22 rfl (by decide),
      read 23 rfl (by decide), read 24 rfl (by decide), ?_, ?_, ?_, (read 27 rfl (by decide)).trans (by rw [owedBits_eq]),
      read 29 rfl (by decide), read 30 rfl (by decide), read 31 rfl (by decide), read 32 rfl (by decide), gap59, gap81,
      area_reads (by decide) (fun _ => mem_area0 n) gap107, area_reads (by decide) (fun _ => mem_area1 n) gap139, slots,
      unused, rest⟩
    · have peer := read 2 rfl (by decide)
      have tag := read 3 rfl (by decide)
      cases key : n.record.key <;> rw [key] at peer tag <;> exact ⟨peer, tag⟩
    · have source := read 15 rfl (by decide)
      have bytes := read 18 rfl (by decide)
      have expectedA := read 19 rfl (by decide)
      have expectedB := read 20 rfl (by decide)
      unfold Ctx.totalBytes at bytes
      unfold Ctx.expected at expectedA expectedB
      cases total : n.record.total <;> rw [total] at source bytes expectedA expectedB <;>
        exact ⟨source, bytes, expectedA, expectedB⟩
    · have phase := read 25 rfl (by decide)
      have shown := read 28 rfl (by decide)
      match timer : n.record.timer with
      | .stopped | .stall r | .abandon (some r) | .abandon none =>
        rw [timer] at phase shown
        exact ⟨phase, shown⟩
    · have cause := read 26 rfl (by decide)
      cases recorded : n.record.cause <;> rw [recorded] at cause <;> exact cause
    · cases group : n.group with
      | none => exact ⟨snapshot_read_mem (mem_noGroup group) (by decide), gapGroup group⟩
      | some g =>
        have field := fun m {start size value} (at_ : (groupFields (some g))[m]? = some (EntryField.mk start size value)) =>
          snapshot_read_mem (mem_group group (List.mem_of_getElem? at_))
        refine ⟨field 0 rfl (by decide), field 1 rfl (by decide), field 2 rfl (by decide), field 3 rfl (by decide),
          field 4 rfl (by decide), field 5 rfl (by decide), (field 6 rfl (by decide)).trans ?_⟩
        cases g.holdOnFailure <;> rfl

end Sys2Proof.SegmentIntake
end

section
/-! The signal stage at an unchanged level, and what a revival and a single notice change: the ground of O28 to O35. -/

namespace Sys2Proof.SegmentIntake

open Sys2Proof Sys2Proof.Machine Sys2Proof.Laws Sys2Proof.Contexts

/-! ## States that read alike -/

/-- Two states with the same records and the same of everything else but the queue of commands. -/
structure Alike (s u : State) : Prop where
  ctx : ∀ j, u.ctx j = s.ctx j
  intake : u.intake = s.intake
  map : u.map = s.map
  staging : u.staging = s.staging
  delivery : u.delivery = s.delivery
  actions : u.actions = s.actions
  groups : u.groups = s.groups
  verify : u.verify = s.verify
  command : u.command = s.command
  notice : u.notice = s.notice
  resets : u.resets = s.resets

theorem alike_refl (s : State) : Alike s s := by constructor <;> intros <;> rfl

section
variable {s u : State}

theorem Alike.group (h : Alike s u) (g : Nat) : u.group g = s.group g := group_of_groups h.groups g

theorem Alike.staged (h : Alike s u) (r : Nat) : u.staged r = s.staged r := by unfold State.staged; rw [h.staging]

theorem Alike.effHold (h : Alike s u) (j : Nat) : u.effHold j = s.effHold j :=
  effHold_congr h.groups h.actions (fun k => by rw [h.ctx]) j

theorem Alike.effMask (h : Alike s u) (j : Nat) : u.effMask j = s.effMask j := by
  unfold State.effMask State.governor
  simp only [h.ctx, h.group]

theorem Alike.eligible (h : Alike s u) (i : Nat) (pieces : List Piece) : u.eligible i pieces = s.eligible i pieces := by
  unfold State.eligible
  simp only [h.ctx, h.effHold]

theorem Alike.stagingRefusal (h : Alike s u) (i : Nat) (g : DataSegment) (pieces : List Piece) :
    u.stagingRefusal i g pieces = s.stagingRefusal i g pieces := by
  unfold State.stagingRefusal
  simp only [h.ctx, h.staging, h.eligible]

end

/-! ## The signal stage (R34, R135) -/

/-- A re-evaluation where no effective hold changed judges nothing again (R134). -/
theorem rejudgeHolds_staging {s t : State} (same : ∀ j, t.effHold j = s.effHold j) :
    (t.rejudgeHolds s).staging = t.staging := by
  unfold State.rejudgeHolds State.rejudge
  simp [same]

/-- With its level unchanged, or for an exclusive context, the signal stage changes nothing that is read. -/
theorem signalStage_alike {s : State} {i : Nat} {level : Bool}
    (unchanged : (s.ctx i).exclusive = true ∨ level = (s.ctx i).signal) :
    Alike s (s.signalStage i level).1 ∧ (s.signalStage i level).2 = false := by
  cases exclusive : (s.ctx i).exclusive with
  | true =>
    have stage : s.signalStage i level = (s, false) := by unfold State.signalStage; simp [exclusive]
    rw [stage]
    exact ⟨alike_refl s, rfl⟩
  | false =>
    obtain rfl : level = (s.ctx i).signal := unchanged.resolve_left (by simp [exclusive])
    let t := s.modCtx i fun c => { c with signal := (s.ctx i).signal }
    have stage : s.signalStage i (s.ctx i).signal = (t.rejudgeHolds s, false) := by
      unfold State.signalStage
      cases signal : (s.ctx i).signal <;> simp [exclusive, signal, t]
    have records : ∀ j, t.ctx j = s.ctx j := fun j => by
      rw [ctx_modCtx]
      split
      · next e => rw [e]
      · rfl
    have holds : ∀ j, t.effHold j = s.effHold j := effHold_congr rfl rfl fun j => by rw [records]
    rw [stage]
    exact
      ⟨{ ctx := records, intake := rfl, map := rfl, staging := rejudgeHolds_staging holds, delivery := rfl,
         actions := rfl, groups := rfl, verify := rfl, command := rfl, notice := rfl, resets := rfl }, rfl⟩

/-! ## The stages by the context's state (R32 to R34, R41, R44) -/

section
variable {s : State} {i : Nat}

theorem receiving_iff (c : Ctx) : c.receiving = true ↔ c.state = .active ∨ c.state = .stalled := by
  simp [Ctx.receiving]

theorem dataStages_of_matching (running : (s.ctx i).receiving = true) {g : DataSegment}
    (tally : DataSegment.tallyMatches g = true) :
    s.dataStages i g = (s.signalStage i g.signal).1.rangeStage i g := by
  unfold State.dataStages
  rcases (receiving_iff _).1 running with h | h <;> simp [h, tally]

theorem dataStages_of_damaged (running : (s.ctx i).receiving = true) {g : DataSegment}
    (tally : DataSegment.tallyMatches g = false) : s.dataStages i g = (s.countDamaged i).answer i .damaged := by
  unfold State.dataStages
  rcases (receiving_iff _).1 running with h | h <;> simp [h, tally]

theorem manifestStages_of_receiving (running : (s.ctx i).receiving = true) (g : ManifestSegment) :
    s.manifestStages i g = (s.signalStage i g.signal).1.manifestStage i g := by
  unfold State.manifestStages
  rcases (receiving_iff _).1 running with h | h <;> simp [h]

theorem abandonStages_of_receiving (running : (s.ctx i).receiving = true) (g : AbandonSegment) :
    s.abandonStages i g = (s.fail i .abandoned).answer i .accepted := by
  unfold State.abandonStages
  rcases (receiving_iff _).1 running with h | h <;> simp [h]

end

/-! ## Dispositions (R25, R28) -/

section
variable (a : Answer) (link : BitVec 2) (handle : BitVec 16) (kind : BitVec 8)

@[simp] theorem returned_ctx (j : Nat) : (a.returned link handle kind).ctx j = a.state.ctx j := rfl

theorem returned_lane : (a.returned link handle kind).lane link = some ⟨handle, kind, a.code, a.edge⟩ := by
  simp only [State.lane, Answer.returned, get_set_same]

/-- Of intake an answer changes the lane and the last link served. -/
theorem returned_intake {s : State} (kept : a.state.intake = s.intake) :
    (a.returned link handle kind).intake = (s.answered link handle kind a.code a.edge).intake := by
  unfold Answer.returned State.answered
  dsimp only
  rw [kept]

end

/-! ## One notice (R174, R175) -/

section
variable (s : State) (i : Nat) (k : OwedKind) (n : Notice)

/-- A notice charged to a context changes of its record what it is owed, and no other record. -/
theorem notify_ctx_self : (s.notify i k n).ctx i = { s.ctx i with owed := ((s.notify i k n).ctx i).owed } := by
  rcases notify_cases s i k n with ⟨eq, _⟩ | ⟨eq, _⟩ <;> rw [eq]
  · rw [ctx_fold, if_pos rfl]
  · rfl

theorem notify_ctx_other {j : Nat} (other : j ≠ i) : (s.notify i k n).ctx j = s.ctx j := by
  rcases notify_cases s i k n with ⟨eq, _⟩ | ⟨eq, _⟩ <;> rw [eq]
  · rw [ctx_fold, if_neg other]
  · rfl

theorem notify_given : NoticeGiven s (s.notify i k n) i k n := by
  unfold NoticeGiven
  rcases notify_cases s i k n with ⟨eq, why⟩ | ⟨eq, room, owed⟩ <;> rw [eq]
  · have folded : ¬(s.notice.full = false ∧ (s.ctx i).owed = []) := by
      rintro ⟨room, owed⟩
      rcases why with full | owing
      · rw [room] at full; exact Bool.noConfusion full
      · exact owing owed
    rw [if_neg folded]
    refine ⟨rfl, fun x => ?_⟩
    rw [ctx_fold, if_pos rfl]
    exact mem_owe
  · rw [if_pos ⟨room, owed⟩]
    exact ⟨rfl, owed⟩

/-- A notice given is charged. -/
theorem charged_of_given {s t : State} {i : Nat} {k : OwedKind} {n : Notice} (h : NoticeGiven s t i k n) :
    Charged t i k n := by
  unfold NoticeGiven at h
  split at h
  · exact .inl (by rw [h.1]; simp)
  · exact .inr ((h.2 k).2 (.inl rfl))

end

/-! ## Revival (R139, R142) -/

/-- A record as a revival writes it, but for what it is owed. -/
def revived (c : Ctx) : Ctx := { c with state := .active, timer := fullStall c.stallSelect, damaged := 0 }

theorem revive_eq (s : State) (i : Nat) : s.revive i =
    if (s.ctx i).state = .stalled then
      (s.modCtx i revived).notifyMasked i NoticeMask.resumed .resumed (.resumed i)
    else s.modCtx i revived := rfl

/-- The effective mask reads of a record its group and its mask (R2, R155). -/
theorem effMask_congr {s t : State} (groups : t.groups = s.groups)
    (same : ∀ j, (t.ctx j).group = (s.ctx j).group ∧ (t.ctx j).mask = (s.ctx j).mask) (k : Nat) :
    t.effMask k = s.effMask k := by
  unfold State.effMask State.governor
  simp only [fun j => (same j).1, fun j => (same j).2, group_of_groups groups]

theorem effMask_of_core {s t : State} (groups : t.groups = s.groups) (same : ∀ j, Contexts.core (t.ctx j) = Contexts.core (s.ctx j))
    (k : Nat) : t.effMask k = s.effMask k :=
  effMask_congr groups (fun j => ⟨(congrArg Ctx.group (same j) :), (congrArg Ctx.mask (same j) :)⟩) k

theorem modCtx_effMask (s : State) (i : Nat) {f : Ctx → Ctx} (same : ∀ c, (f c).group = c.group ∧ (f c).mask = c.mask)
    (k : Nat) : (s.modCtx i f).effMask k = s.effMask k := by
  refine effMask_congr (s := s) (t := s.modCtx i f) rfl (fun j => ?_) k
  rw [ctx_modCtx]
  split
  · next e => rw [e]; exact same _
  · exact ⟨rfl, rfl⟩

/-- What a revival changes: the record's state, timer and damaged count, and, of a context that was STALLED, RESUMED where
its mask holds it (R139, R142). -/
theorem revive_kept (s : State) (i : Nat) :
    (s.revive i).ctx i = { revived (s.ctx i) with owed := ((s.revive i).ctx i).owed } ∧
      (if (s.ctx i).state = .stalled ∧ (s.effMask i).resumed = true then
        NoticeGiven s (s.revive i) i .resumed (.resumed i)
      else NoNotice s (s.revive i) i) ∧
      ∀ j, j ≠ i → (s.revive i).ctx j = s.ctx j := by
  have mask : (s.modCtx i revived).effMask i = s.effMask i :=
    modCtx_effMask s i (f := revived) (fun _ => ⟨rfl, rfl⟩) i
  have self : (s.modCtx i revived).ctx i = revived (s.ctx i) := ctx_modCtx_same ..
  have others : ∀ j, j ≠ i → (s.modCtx i revived).ctx j = s.ctx j := fun j other => ctx_modCtx_other _ _ other
  have owed : ((s.modCtx i revived).ctx i).owed = (s.ctx i).owed := by rw [self]; rfl
  have quiet : ∀ u : State, u = s.modCtx i revived →
      u.ctx i = { revived (s.ctx i) with owed := (u.ctx i).owed } ∧ NoNotice s u i ∧ ∀ j, j ≠ i → u.ctx j = s.ctx j := by
    rintro u rfl
    exact ⟨by rw [self], ⟨rfl, owed⟩, others⟩
  rw [revive_eq]
  by_cases stalled : (s.ctx i).state = .stalled
  · rw [if_pos stalled]
    rcases notifyMasked_cases (s.modCtx i revived) i NoticeMask.resumed .resumed (.resumed i) with
      ⟨eq, masked⟩ | ⟨eq, holds⟩ <;> rw [eq]
    · rw [mask] at masked
      rw [if_neg (by rw [masked]; simp)]
      exact quiet _ rfl
    · rw [mask] at holds
      rw [if_pos ⟨stalled, holds⟩]
      refine ⟨?_, ?_, fun j other => (notify_ctx_other _ _ _ _ other).trans (others j other)⟩
      · rw [notify_ctx_self, self]
      · have given := notify_given (s.modCtx i revived) i .resumed (.resumed i)
        unfold NoticeGiven at given ⊢
        rw [owed, modCtx_notice] at given
        exact given
  · rw [if_neg stalled, if_neg fun h => stalled h.1]
    exact quiet _ rfl

end Sys2Proof.SegmentIntake
end

section
/-! Duplicates, refusals and the answers in DONE and FAILED (R32 to R38, R42, R44): the statements O29, O30 and O32. -/

namespace Sys2Proof.SegmentIntake

open Sys2Proof Sys2Proof.Machine Sys2Proof.Laws Sys2Proof.Contexts

/-! ## Duplicates (R37, R42) -/

/-- Between two states a duplicate of context `i` was taken: its timer restarted, and nothing else of it changed but for
RESUMED (R139, R142). -/
def Refreshed (s t : State) (i : Nat) : Prop :=
  t.ctx i =
      { s.ctx i with
        state := .active, timer := fullStall (s.ctx i).stallSelect, damaged := 0, owed := (t.ctx i).owed } ∧
    (if (s.ctx i).state = .stalled ∧ (s.effMask i).resumed = true then NoticeGiven s t i .resumed (.resumed i)
    else NoNotice s t i) ∧
    (∀ j, j ≠ i → t.ctx j = s.ctx j) ∧ t.map = s.map ∧ t.staging = s.staging ∧ t.delivery = s.delivery ∧
    t.groups = s.groups ∧ t.verify = s.verify ∧ t.command = s.command ∧ t.resets = s.resets

theorem Alike.given {s u t : State} (h : Alike s u) {i : Nat} {k : OwedKind} {n : Notice}
    (given : NoticeGiven u t i k n) : NoticeGiven s t i k n := by
  unfold NoticeGiven at given ⊢
  rwa [h.notice, h.ctx] at given

theorem Alike.noNotice {s u t : State} (h : Alike s u) {i : Nat} (quiet : NoNotice u t i) : NoNotice s t i :=
  ⟨quiet.1.trans h.notice, quiet.2.trans (by rw [h.ctx])⟩

/-- A duplicate answered after a signal stage that changed nothing. -/
theorem refreshed_of_alike {s u : State} (alike : Alike s u) (i : Nat) (link : BitVec 2) (handle : BitVec 16)
    (kind : BitVec 8) : let t := ((u.revive i).answer i .duplicate).returned link handle kind
    t.lane link = some ⟨handle, kind, .duplicate, (s.ctx i).edge⟩ ∧
      t.intake = (s.answered link handle kind .duplicate (s.ctx i).edge).intake ∧ Refreshed s t i := by
  obtain ⟨self, told, others⟩ := revive_kept u i
  obtain ⟨intake, map, staging, delivery, _, groups, verify, command, resets, _⟩ := revive_frame u i
  have edge : ((u.revive i).ctx i).edge = (s.ctx i).edge := by rw [self, ← alike.ctx]; rfl
  rw [← edge]
  refine ⟨returned_lane .., returned_intake _ _ _ _ (intake.trans alike.intake), ?_, ?_,
    fun j other => (others j other).trans (alike.ctx j), map.trans alike.map, staging.trans alike.staging,
    delivery.trans alike.delivery, groups.trans alike.groups, verify.trans alike.verify, command.trans alike.command,
    resets.trans alike.resets⟩
  · rw [alike.ctx] at self
    exact self
  · rw [alike.ctx, alike.effMask] at told
    split at told
    · next asked => rw [if_pos asked]; exact alike.given told
    · next asked => rw [if_neg asked]; exact alike.noNotice told

theorem rangeStage_of_duplicate {u : State} {i : Nat} {g : DataSegment} (range : (u.ctx i).rangeRefusal g = none)
    (noNew : (u.ctx i).newRangesOf g = []) : u.rangeStage i g = (u.revive i).answer i .duplicate := by
  unfold State.rangeStage State.trimStage
  simp [range, noNew]

theorem manifestStage_of_duplicate {u : State} {i : Nat} {g : ManifestSegment}
    (recorded : (u.ctx i).total = .manifest g.total.toNat ⟨g.expectedA.toNat, g.expectedB.toNat⟩) :
    u.manifestStage i g = (u.revive i).answer i .duplicate := by
  unfold State.manifestStage Ctx.compareManifest ManifestSegment.expected
  simp [recorded]

/-- Settles O29: behind a signal stage that changes nothing, a duplicate is a revival. -/
theorem duplicatesOnlyRestartTheTimer : Obligations.DuplicatesOnlyRestartTheTimer := by
  intro s i taking running
  refine ⟨fun g shape found tally level range noNew => ?_, fun g shape found level recorded => ?_⟩
  · obtain ⟨alike, _⟩ := signalStage_alike level
    refine ⟨_, exec_data_idle taking g, ?_⟩
    rw [takeData_of_found taking shape found, dataStages_of_matching running tally,
      rangeStage_of_duplicate (by rw [alike.ctx]; exact range) (by rw [alike.ctx]; exact noNew)]
    exact refreshed_of_alike alike i g.link g.handle 1
  · obtain ⟨alike, _⟩ := signalStage_alike level
    refine ⟨_, exec_manifest_idle taking g, ?_⟩
    rw [takeManifest_of_found taking shape found, manifestStages_of_receiving running,
      manifestStage_of_duplicate (by rw [alike.ctx]; exact recorded)]
    exact refreshed_of_alike alike i g.link g.handle 2

/-! ## Answers that change no record -/

/-- What an answer in a state that reads as `s` leaves: the lane, the last link served, and everything else as it was. -/
theorem answered_of_alike {s u : State} (alike : Alike s u) (i : Nat) (code : DispositionCode) (link : BitVec 2)
    (handle : BitVec 16) (kind : BitVec 8) : let t := (u.answer i code).returned link handle kind
    t.lane link = some ⟨handle, kind, code, (s.ctx i).edge⟩ ∧
      t.intake = (s.answered link handle kind code (s.ctx i).edge).intake ∧ (∀ j, t.ctx j = s.ctx j) ∧ t.map = s.map ∧
      t.staging = s.staging ∧ t.delivery = s.delivery ∧ t.groups = s.groups ∧ t.verify = s.verify ∧
      t.command = s.command ∧ t.notice = s.notice ∧ t.actions = s.actions ∧ t.resets = s.resets := by
  rw [← alike.ctx]
  exact ⟨returned_lane .., returned_intake _ _ _ _ alike.intake, alike.ctx, alike.map, alike.staging, alike.delivery,
    alike.groups, alike.verify, alike.command, alike.notice, alike.actions, alike.resets⟩

/-! ## DONE and FAILED (R32, R33, R41, R44) -/

section
variable {s : State} {i : Nat}

theorem dataStages_of_done (done : (s.ctx i).state = .done) (g : DataSegment) : s.dataStages i g =
    if g.offset.toNat + g.length.toNat ≤ (s.ctx i).endBound then
      (s.modCtx i fun c => { c with damaged := 0 }).answer i .duplicate
    else s.answer i .beyondEnd := by
  unfold State.dataStages
  simp only [done]
  rfl

/-- A DATA in FAILED that the signal stage does not restart the context by is CLOSED. -/
theorem dataStages_of_failed (failed : (s.ctx i).state = .failed) {g : DataSegment}
    (level : DataSegment.tallyMatches g = false ∨ (s.ctx i).exclusive = true ∨ g.signal = (s.ctx i).signal) :
    ∃ u, Alike s u ∧ s.dataStages i g = u.answer i .closed := by
  cases tally : DataSegment.tallyMatches g with
  | false => exact ⟨s, alike_refl s, by unfold State.dataStages; simp [failed, tally]⟩
  | true =>
    obtain ⟨alike, stays⟩ := signalStage_alike (level.resolve_left (by simp [tally]))
    exact ⟨_, alike, by unfold State.dataStages; simp [failed, tally, stays]⟩

theorem manifestStages_of_ended {g : ManifestSegment}
    (ended : (s.ctx i).state = .done ∨
      ((s.ctx i).state = .failed ∧ ((s.ctx i).exclusive = true ∨ g.signal = (s.ctx i).signal))) :
    ∃ u, Alike s u ∧ s.manifestStages i g = u.answer i .closed := by
  rcases ended with done | ⟨failed, level⟩
  · exact ⟨s, alike_refl s, by unfold State.manifestStages; simp [done]⟩
  · obtain ⟨alike, stays⟩ := signalStage_alike level
    exact ⟨_, alike, by unfold State.manifestStages; simp [failed, stays]⟩

theorem abandonStages_of_ended {g : AbandonSegment} (ended : (s.ctx i).state = .done ∨ (s.ctx i).state = .failed) :
    s.abandonStages i g = s.answer i .closed := by
  unfold State.abandonStages
  rcases ended with h | h <;> simp [h]

end

/-- Settles O30: each answer is given in a state that reads as the one before, but for the damaged count of a DUPLICATE. -/
theorem dataInDoneAndFailed : Obligations.DataInDoneAndFailed := by
  intro s i taking
  refine ⟨fun g shape found => ⟨fun done => ⟨fun within => ?_, fun beyond => ?_⟩, fun failed level => ?_⟩,
    fun g shape found ended => ?_, fun g shape found ended => ?_⟩
  · refine ⟨_, exec_data_idle taking g, ?_⟩
    rw [takeData_of_found taking shape found, dataStages_of_done done, if_pos within]
    have self : (s.modCtx i fun c => { c with damaged := 0 }).ctx i = { s.ctx i with damaged := 0 } :=
      ctx_modCtx_same ..
    have others : ∀ j, j ≠ i → (s.modCtx i fun c => { c with damaged := 0 }).ctx j = s.ctx j := fun j other =>
      ctx_modCtx_other _ _ other
    have edge : (s.ctx i).edge = ((s.modCtx i fun c => { c with damaged := 0 }).ctx i).edge := by rw [self]; rfl
    rw [edge]
    exact ⟨returned_lane .., self, returned_intake _ _ _ _ rfl, others, rfl, rfl, rfl, rfl, rfl, rfl, rfl, rfl, rfl⟩
  · refine ⟨_, exec_data_idle taking g, ?_⟩
    rw [takeData_of_found taking shape found, dataStages_of_done done, if_neg (by omega)]
    obtain ⟨lane, intake, records, rest⟩ := answered_of_alike (alike_refl s) i .beyondEnd g.link g.handle 1
    exact ⟨lane, records i, intake, fun j _ => records j, rest⟩
  · obtain ⟨u, alike, closed⟩ := dataStages_of_failed failed level
    refine ⟨_, exec_data_idle taking g, ?_⟩
    rw [takeData_of_found taking shape found, closed]
    obtain ⟨lane, intake, records, rest⟩ := answered_of_alike alike i .closed g.link g.handle 1
    exact ⟨lane, records i, intake, fun j _ => records j, rest⟩
  · obtain ⟨u, alike, closed⟩ := manifestStages_of_ended ended
    refine ⟨_, exec_manifest_idle taking g, ?_⟩
    rw [takeManifest_of_found taking shape found, closed]
    obtain ⟨lane, intake, records, rest⟩ := answered_of_alike alike i .closed g.link g.handle 2
    exact ⟨lane, records i, intake, fun j _ => records j, rest⟩
  · refine ⟨_, exec_abandon_idle taking g, ?_⟩
    rw [takeAbandon_of_found taking shape found, abandonStages_of_ended ended]
    obtain ⟨lane, intake, records, rest⟩ := answered_of_alike (alike_refl s) i .closed g.link g.handle 3
    exact ⟨lane, records i, intake, fun j _ => records j, rest⟩

/-! ## Refusals (R35, R36, R38) -/

theorem isEnd_iff (g : DataSegment) : DataSegment.isEnd g = true ↔ g.length.toNat % 4 ≠ 0 := by
  simp [DataSegment.isEnd]

/-- What the extent-limit and staging stages refuse a segment with, where they do (R38, R55). -/
def trimRefusal (s : State) (i : Nat) (g : DataSegment) : Option DispositionCode :=
  if (s.ctx i).newRangesOf g = [] then none
  else if 24 < countAfter (s.ctx i).extents ((s.ctx i).newRangesOf g) then some .extentLimit
  else s.stagingRefusal i g ((s.ctx i).piecesFor g)

theorem trimStage_of_refusal {s : State} {i : Nat} {g : DataSegment} {code : DispositionCode}
    (h : trimRefusal s i g = some code) : s.trimStage i g = s.answer i code := by
  unfold trimRefusal at h
  unfold State.trimStage
  split_ifs at h with none limit
  · rw [if_neg (by simpa using none), if_pos limit]
    exact congrArg (s.answer i) (Option.some.inj h)
  · rw [if_neg (by simpa using none), if_neg limit, h]

/-- The staging stage's refusal, as the statements write it. -/
theorem stagingRefusal_eq (s : State) (i : Nat) (g : DataSegment) (pieces : List Piece) :
    s.stagingRefusal i g pieces =
      if (s.ctx i).quota < (s.ctx i).blocksHeld + (g.length.toNat + 2047) / 2048 then some .quota
      else if s.staging.freeBlocks < (g.length.toNat + 2047) / 2048 ∨ s.staging.freeRecords = 0 then some .stagingFull
      else if s.staging.constrained = true ∧ s.eligible i pieces = false then some .stagingFull
      else none := by
  unfold State.stagingRefusal
  simp only [Nat.lt_one_iff, Bool.and_eq_true, Bool.not_eq_true']
  rfl

/-- A refusal of the statements is one of the range stage that fails nothing, or one of the stages behind it. -/
theorem dataRefusal_cases {s : State} {i : Nat} {g : DataSegment} {code : DispositionCode}
    (h : s.dataRefusal i g = some code) :
    ((s.ctx i).rangeRefusal g = some code ∧ code ≠ .conflict) ∨
      ((s.ctx i).rangeRefusal g = none ∧ trimRefusal s i g = some code) := by
  have later : trimRefusal s i g =
      if (s.ctx i).newRangesOf g = [] then none
      else if 24 < countAfter (s.ctx i).extents ((s.ctx i).newRangesOf g) then some .extentLimit
      else if (s.ctx i).quota < (s.ctx i).blocksHeld + (g.length.toNat + 2047) / 2048 then some .quota
      else if s.staging.freeBlocks < (g.length.toNat + 2047) / 2048 ∨ s.staging.freeRecords = 0 then some .stagingFull
      else if s.staging.constrained = true ∧ s.eligible i ((s.ctx i).piecesFor g) = false then some .stagingFull
      else none := by
    unfold trimRefusal
    rw [stagingRefusal_eq]
  unfold State.dataRefusal at h
  dsimp only at h
  rw [← later] at h
  unfold Ctx.rangeRefusal
  by_cases ending : g.length.toNat % 4 ≠ 0
  · rw [if_pos ((isEnd_iff g).2 ending)]
    have ends : ∀ {p : Prop}, (g.length.toNat % 4 ≠ 0 ∧ p) ↔ p := ⟨And.right, And.intro ending⟩
    have goesOn : ∀ {p : Prop}, (¬g.length.toNat % 4 ≠ 0 ∧ p) ↔ False := ⟨fun h => h.1 ending, False.elim⟩
    cases total : (s.ctx i).total with
    | absent =>
      rw [total] at h
      simp only [ends, goesOn, if_false] at h ⊢
      split_ifs at h with below
      · exact .inl ⟨by rw [← h]; exact if_pos below, by rw [← Option.some.inj h]; decide⟩
      · exact .inr ⟨if_neg below, h⟩
    | implied n =>
      rw [total] at h
      simp only [ends, goesOn, if_false] at h ⊢
      split_ifs at h with differs
      · exact .inl ⟨by rw [← h]; exact if_neg differs, by rw [← Option.some.inj h]; decide⟩
      · exact .inr ⟨if_pos (not_not.1 differs), h⟩
    | manifest n d =>
      rw [total] at h
      simp only [ends, goesOn, if_false] at h ⊢
      split_ifs at h with differs
      exact .inr ⟨if_pos (not_not.1 differs), h⟩
  · rw [if_neg (mt (isEnd_iff g).1 ending)]
    have whole : g.length.toNat % 4 = 0 := not_not.1 ending
    have range : (if (s.ctx i).endBound < g.offset.toNat + g.length.toNat then some DispositionCode.beyondEnd
        else trimRefusal s i g) = some code := by
      cases total : (s.ctx i).total <;> rw [total] at h <;> simpa [whole] using h
    split_ifs at range with beyond
    · exact .inl ⟨by rw [← range]; exact if_pos beyond, by rw [← Option.some.inj range]; decide⟩
    · exact .inr ⟨if_neg beyond, range⟩

theorem rangeStage_of_refusal {s : State} {i : Nat} {g : DataSegment} {code : DispositionCode}
    (h : s.dataRefusal i g = some code) : s.rangeStage i g = s.answer i code := by
  unfold State.rangeStage
  rcases dataRefusal_cases h with ⟨refused, noConflict⟩ | ⟨passes, refused⟩
  · rw [refused]
    split
    · next e => exact absurd (Option.some.inj e) noConflict
    · next e => rw [Option.some.inj e]
    · next e => exact absurd e (by simp)
  · rw [passes]
    exact trimStage_of_refusal refused

theorem Alike.dataRefusal {s u : State} (h : Alike s u) (i : Nat) (g : DataSegment) :
    u.dataRefusal i g = s.dataRefusal i g := by
  unfold State.dataRefusal
  simp only [h.ctx, h.staging, h.eligible]

/-- Settles O32. -/
theorem refusedDataChangesNothing : Obligations.RefusedDataChangesNothing := by
  intro s g i taking shape found running tally level code refused
  obtain ⟨alike, _⟩ := signalStage_alike level
  refine ⟨_, exec_data_idle taking g, ?_⟩
  rw [takeData_of_found taking shape found, dataStages_of_matching running tally,
    rangeStage_of_refusal ((alike.dataRefusal i g).trans refused)]
  obtain ⟨lane, intake, records, map, staging, delivery, groups, verify, command, notice, _, resets⟩ :=
    answered_of_alike alike i code g.link g.handle 1
  exact ⟨lane, intake, records, map, staging, delivery, groups, verify, command, notice, resets⟩

end Sys2Proof.SegmentIntake
end

section
/-! What failing a context changes (R143, R156, R158), and what notices add to the queue and to what is owed. -/

namespace Sys2Proof.SegmentIntake

open Sys2Proof Sys2Proof.Machine Sys2Proof.Laws Sys2Proof.Contexts

/-! ## Notices that went out -/

/-- Between two states notices went out that `P` describes: they joined the queue's end or were owed, nothing left the
queue or what is owed, and the notice ring's registers stayed. -/
structure Tells (P : Notice → Prop) (s t : State) : Prop where
  queue : ∃ more, t.notice.queue = s.notice.queue ++ more ∧ ∀ n ∈ more, P n
  owed : ∀ j x, x ∈ (s.ctx j).owed → x ∈ (t.ctx j).owed
  ring : t.notice.base = s.notice.base ∧ t.notice.size = s.notice.size ∧ t.notice.consumer = s.notice.consumer

section
variable {P Q : Notice → Prop} {s t u : State} {i : Nat} {k : OwedKind} {n : Notice}

theorem tells_of_same (notice : t.notice = s.notice) (owed : ∀ j, (t.ctx j).owed = (s.ctx j).owed) : Tells P s t where
  queue := ⟨[], by rw [notice, List.append_nil], nofun⟩
  owed j x h := by rw [owed]; exact h
  ring := by rw [notice]; exact ⟨rfl, rfl, rfl⟩

theorem Tells.trans (h : Tells P s t) (g : Tells P t u) : Tells P s u where
  queue := by
    obtain ⟨more, queue, all⟩ := h.queue
    obtain ⟨more', queue', all'⟩ := g.queue
    exact ⟨more ++ more', by rw [queue', queue, List.append_assoc], fun n hn => (List.mem_append.1 hn).elim (all n) (all' n)⟩
  owed j x hx := g.owed j x (h.owed j x hx)
  ring := by
    obtain ⟨base, size, consumer⟩ := h.ring
    obtain ⟨base', size', consumer'⟩ := g.ring
    exact ⟨base'.trans base, size'.trans size, consumer'.trans consumer⟩

theorem Tells.mono (h : Tells P s t) (le : ∀ n, P n → Q n) : Tells Q s t where
  queue := by
    obtain ⟨more, queue, all⟩ := h.queue
    exact ⟨more, queue, fun n hn => le n (all n hn)⟩
  owed := h.owed
  ring := h.ring

/-- What is charged stays charged. -/
theorem Tells.charged (h : Tells P s t) (charged : Charged s i k n) : Charged t i k n := by
  obtain ⟨more, queue, _⟩ := h.queue
  exact charged.imp (fun mem => by rw [queue]; exact List.mem_append_left _ mem) (h.owed i k)

theorem Tells.mem (h : Tells P s t) (mem : n ∈ s.notice.queue) : n ∈ t.notice.queue := by
  obtain ⟨more, queue, _⟩ := h.queue
  rw [queue]
  exact List.mem_append_left _ mem

/-- A notice in the queue was there before, or is one of those that went out. -/
theorem Tells.new (h : Tells P s t) (mem : n ∈ t.notice.queue) : n ∈ s.notice.queue ∨ P n := by
  obtain ⟨more, queue, all⟩ := h.queue
  rw [queue] at mem
  exact (List.mem_append.1 mem).imp_right (all n)

end

theorem tells_notify (s : State) (i : Nat) (k : OwedKind) (n : Notice) : Tells (· = n) s (s.notify i k n) := by
  rcases notify_cases s i k n with ⟨eq, _⟩ | ⟨eq, _⟩ <;> rw [eq]
  · refine ⟨⟨[], by simp, nofun⟩, fun j x hx => ?_, rfl, rfl, rfl⟩
    rw [ctx_fold]
    split
    · next e => rw [e] at hx; exact mem_owe.2 (.inr hx)
    · exact hx
  · exact ⟨⟨[n], rfl, fun m hm => List.mem_singleton.1 hm⟩, fun j x hx => hx, rfl, rfl, rfl⟩

theorem tells_notifyMasked (s : State) (i : Nat) (h : NoticeMask → Bool) (k : OwedKind) (n : Notice) :
    Tells (· = n) s (s.notifyMasked i h k n) := by
  rcases notifyMasked_cases s i h k n with ⟨eq, _⟩ | ⟨eq, _⟩ <;> rw [eq]
  · exact tells_of_same rfl fun _ => rfl
  · exact tells_notify ..

theorem tells_modCtx {P : Notice → Prop} (s : State) (i : Nat) {f : Ctx → Ctx} (owed : ∀ c, (f c).owed = c.owed) :
    Tells P s (s.modCtx i f) :=
  tells_of_same rfl fun j => by
    rw [ctx_modCtx]
    split
    · next e => rw [e, owed]
    · rfl

/-! ## Records that changed in what they are owed only -/

/-- Between two states no record changed but in what it is owed. -/
structure OwedOnly (s t : State) : Prop where
  record : ∀ j, t.ctx j = { s.ctx j with owed := (t.ctx j).owed }

theorem owedOnly_of_same {s t : State} (h : ∀ j, t.ctx j = s.ctx j) : OwedOnly s t := ⟨fun j => by rw [h]⟩

theorem OwedOnly.trans {s t u : State} (h : OwedOnly s t) (g : OwedOnly t u) : OwedOnly s u := ⟨fun j => by
  have first := h.record j
  have second := g.record j
  generalize t.ctx j = c at first second
  rw [second, first]⟩

theorem owedOnly_notify (s : State) (i : Nat) (k : OwedKind) (n : Notice) : OwedOnly s (s.notify i k n) := ⟨fun j => by
  by_cases own : j = i
  · rw [own]; exact notify_ctx_self ..
  · rw [notify_ctx_other _ _ _ _ own]⟩

theorem owedOnly_notifyMasked (s : State) (i : Nat) (h : NoticeMask → Bool) (k : OwedKind) (n : Notice) :
    OwedOnly s (s.notifyMasked i h k n) := by
  rcases notifyMasked_cases s i h k n with ⟨eq, _⟩ | ⟨eq, _⟩ <;> rw [eq]
  · exact owedOnly_of_same fun _ => rfl
  · exact owedOnly_notify ..

theorem OwedOnly.holdFields {s t : State} (h : OwedOnly s t) (j : Nat) : holdFields (t.ctx j) = holdFields (s.ctx j) := by
  rw [h.record j]; rfl

/-! ## The group's account of a failure (R156, R158) -/

section
variable {s : State} {i : Nat} {cause : FailCause}

theorem memberFailed_of_none (h : (s.ctx i).group = none) : s.memberFailed i cause = s := by
  unfold State.memberFailed
  rw [h]

/-- The group with its failed count raised, before GROUP_FAILED (R156). -/
def failureCounted (s : State) (g : Nat) : State := s.setGroup g { s.group g with failed := (s.group g).failed + 1 }

/-- The group's notice of its first failure (R158). -/
def failureTold (s : State) (i g : Nat) (cause : FailCause) : State :=
  if (s.group g).failed = 0 then
    (failureCounted s g).notify ((s.group g).members.headD 0) .groupFailed
      (.groupFailed ((s.group g).members.headD 0) g cause i)
  else failureCounted s g

theorem memberFailed_of_some {g : Nat} (h : (s.ctx i).group = some g) :
    s.memberFailed i cause = (failureTold s i g cause).rejudgeHolds s := by
  unfold State.memberFailed
  rw [h]
  rfl

theorem failureTold_frame (s : State) (i g : Nat) (cause : FailCause) :
    (failureTold s i g cause).groups = (failureCounted s g).groups ∧ (failureTold s i g cause).staging = s.staging ∧
      OwedOnly s (failureTold s i g cause) := by
  unfold failureTold
  split
  · exact ⟨by simp, by simp [failureCounted],
      (owedOnly_of_same (s := s) (t := failureCounted s g) fun _ => rfl).trans (owedOnly_notify ..)⟩
  · exact ⟨rfl, rfl, owedOnly_of_same fun _ => rfl⟩

theorem memberFailed_owedOnly (s : State) (i : Nat) (cause : FailCause) : OwedOnly s (s.memberFailed i cause) := by
  cases hg : (s.ctx i).group with
  | none => rw [memberFailed_of_none hg]; exact owedOnly_of_same fun _ => rfl
  | some g => rw [memberFailed_of_some hg]; exact ⟨(failureTold_frame s i g cause).2.2.record⟩

/-- The groups after a member has failed. -/
theorem memberFailed_group (s : State) (i : Nat) (cause : FailCause) (h : Nat) : (s.memberFailed i cause).group h =
    if (s.ctx i).group = some h then { s.group h with failed := (s.group h).failed + 1 } else s.group h := by
  cases hg : (s.ctx i).group with
  | none => rw [memberFailed_of_none hg, if_neg (by simp)]
  | some g =>
    have groups : ((failureTold s i g cause).rejudgeHolds s).groups = (failureCounted s g).groups :=
      (failureTold_frame s i g cause).1
    have counted : (failureCounted s g).group h =
        if h = g then { s.group g with failed := (s.group g).failed + 1 } else s.group h := group_setGroup ..
    rw [memberFailed_of_some hg, group_of_groups groups, counted]
    by_cases e : h = g
    · rw [if_pos e, if_pos (by rw [e]), e]
    · rw [if_neg e, if_neg fun g' => e (Option.some.inj g').symm]

/-- A failure has the records judged again of the contexts whose effective hold it changed (R134, R158). -/
theorem memberFailed_staged (s : State) (i : Nat) (cause : FailCause) (r : Nat) :
    (s.memberFailed i cause).staged r =
      (s.staged r).map ((s.memberFailed i cause).judgedAgain (s.holdChanged (s.memberFailed i cause))) := by
  cases hg : (s.ctx i).group with
  | none =>
    rw [memberFailed_of_none hg]
    have unchanged : (s.judgedAgain (s.holdChanged s) : StagedRecord → StagedRecord) = id := by
      funext rec
      simp [State.judgedAgain, State.holdChanged]
    rw [unchanged, Option.map_id_apply]
  | some g =>
    rw [memberFailed_of_some hg]
    obtain ⟨_, staging, _⟩ := failureTold_frame s i g cause
    generalize failureTold s i g cause = t at staging ⊢
    have before : t.staged r = s.staged r := by unfold State.staged; rw [staging]
    unfold State.rejudgeHolds
    rw [staged_rejudge, before]
    refine congrArg (fun f => Option.map f (s.staged r)) (funext fun rec => ?_)
    rw [judgedAgain_eq t (fun k => s.effHold k != t.effHold k) rec]
    exact judgedAgain_congr rfl rfl (bne_comm (a := s.effHold rec.owner))

theorem memberFailed_counts (s : State) (i : Nat) (cause : FailCause) :
    (s.memberFailed i cause).staging.freeBlocks = s.staging.freeBlocks ∧
      (s.memberFailed i cause).staging.constrained = s.staging.constrained := by
  cases hg : (s.ctx i).group with
  | none => rw [memberFailed_of_none hg]; exact ⟨rfl, rfl⟩
  | some g =>
    rw [memberFailed_of_some hg]
    obtain ⟨_, staging, _⟩ := failureTold_frame s i g cause
    generalize failureTold s i g cause = t at staging ⊢
    exact ⟨(congrArg Staging.freeBlocks staging :), (congrArg Staging.constrained staging :)⟩

/-- GROUP_FAILED is all that a group tells of a failure, and it tells of the first only (R158). -/
theorem memberFailed_tells (s : State) (i : Nat) (cause : FailCause) :
    Tells (fun n => ∃ leader g, n = .groupFailed leader g cause i ∧ (s.ctx i).group = some g ∧ (s.group g).failed = 0) s
      (s.memberFailed i cause) := by
  cases hg : (s.ctx i).group with
  | none => rw [memberFailed_of_none hg]; exact tells_of_same rfl fun _ => rfl
  | some g =>
    rw [memberFailed_of_some hg]
    have rejudged : ∀ {P}, Tells P (failureTold s i g cause) ((failureTold s i g cause).rejudgeHolds s) :=
      tells_of_same rfl fun _ => rfl
    refine Tells.trans ?_ rejudged
    unfold failureTold
    split
    · next first =>
      refine Tells.trans (t := failureCounted s g) (tells_of_same rfl fun _ => rfl) ((tells_notify ..).mono ?_)
      rintro n rfl
      exact ⟨_, g, rfl, rfl, first⟩
    · exact tells_of_same rfl fun _ => rfl

theorem memberFailed_first {g : Nat} (hg : (s.ctx i).group = some g) (first : (s.group g).failed = 0) :
    Charged (s.memberFailed i cause) ((s.group g).members.headD 0) .groupFailed
      (.groupFailed ((s.group g).members.headD 0) g cause i) := by
  rw [memberFailed_of_some hg]
  have told : failureTold s i g cause = (failureCounted s g).notify ((s.group g).members.headD 0) .groupFailed
      (.groupFailed ((s.group g).members.headD 0) g cause i) := if_pos first
  rw [told]
  exact charged_of_given (notify_given ..)

end

/-! ## Failing (R143) -/

section
variable (s : State) (i : Nat) (cause : FailCause)

/-- The cause is recorded and the unwritten records are freed. -/
def failReleased : State := (s.modCtx i fun c => { c with cause := some cause }).releaseUnwritten i

/-- The record is FAILED. -/
def failEntered : State := (failReleased s i cause).modCtx i fun c => { c with state := .failed, timer := .stopped }

/-- TRANSFER_FAILED has gone out. -/
def failTold : State := (failEntered s i cause).notify i .transferFailed (.transferFailed i cause)

theorem fail_eq {s : State} {i : Nat} (running : (s.ctx i).receiving = true) (cause : FailCause) :
    s.fail i cause = (failTold s i cause).memberFailed i cause := if_pos running

/-- The failed record before its notice. -/
theorem failEntered_ctx : ∃ staged blocks, ∀ j, (failEntered s i cause).ctx j =
    if j = i then
      { s.ctx i with cause := some cause, staged := staged, blocksHeld := blocks, state := .failed, timer := .stopped }
    else s.ctx j := by
  obtain ⟨staged, blocks, released⟩ := releaseUnwritten_ctx (s.modCtx i fun c => { c with cause := some cause }) i
  refine ⟨staged, blocks, fun j => ?_⟩
  unfold failEntered failReleased
  rw [ctx_modCtx]
  split
  · rw [released, if_pos rfl, ctx_modCtx_same]
  · next other => rw [released, if_neg other, ctx_modCtx_other _ _ other]

/-- A failing context's records are those of a state that only it differs in. -/
theorem fail_ctx {s : State} {i : Nat} (running : (s.ctx i).receiving = true) (cause : FailCause) :
    OwedOnly (failEntered s i cause) (s.fail i cause) := by
  rw [fail_eq running]
  exact (owedOnly_notify ..).trans (memberFailed_owedOnly ..)

theorem failTold_holdFields (j : Nat) : holdFields ((failTold s i cause).ctx j) = holdFields (s.ctx j) := by
  obtain ⟨staged, blocks, entered⟩ := failEntered_ctx s i cause
  unfold failTold
  rw [(owedOnly_notify ..).holdFields, entered]
  split
  · next e => rw [e]; rfl
  · rfl

theorem failTold_groups : (failTold s i cause).groups = s.groups := by
  simp [failTold, failEntered, failReleased]

theorem failTold_effHold (k : Nat) : (failTold s i cause).effHold k = s.effHold k :=
  effHold_congr (failTold_groups s i cause) (by simp [failTold, failEntered, failReleased])
    (failTold_holdFields s i cause) k

theorem failTold_groupOf (j : Nat) : ((failTold s i cause).ctx j).group = (s.ctx j).group :=
  (congrArg Prod.fst (failTold_holdFields s i cause j) :)

theorem failTold_staged {s : State} (sorted : Table.sorted s.staging.pool) (i : Nat) (cause : FailCause) (r : Nat) :
    (failTold s i cause).staged r = (s.staged r).filter fun rec => !(rec.owner == i && rec.state != .writing) := by
  have staging : (failTold s i cause).staging = (failReleased s i cause).staging := by simp [failTold, failEntered]
  have released := releaseUnwritten_staged (s := s.modCtx i fun c => { c with cause := some cause }) sorted i r
  unfold State.staged at released ⊢
  rw [staging]
  exact released

end

/-- A group that holds on failure holds its members once one has failed (R158). -/
theorem effHold_of_failed {t : State} {j g : Nat} (group : (t.ctx j).group = some g)
    (holds : (t.group g).holdOnFailure = true) (failed : 0 < (t.group g).failed) (shared : (t.ctx j).exclusive = false) :
    t.effHold j = true := by
  unfold State.effHold State.groupHold
  rw [group]
  simp [holds, failed, shared]

end Sys2Proof.SegmentIntake
end

section
/-! A context that fails (R143): the statements O31 and O33. -/

namespace Sys2Proof.SegmentIntake

open Sys2Proof Sys2Proof.Machine Sys2Proof.Laws Sys2Proof.Contexts

/-! ## What failing does -/

section
variable {v : State} {i : Nat} {cause : FailCause}

theorem fail_staged (running : (v.ctx i).receiving = true) (sorted : Table.sorted v.staging.pool) (r : Nat) :
    (v.fail i cause).staged r =
      ((v.staged r).filter fun rec => !(rec.owner == i && rec.state != .writing)).map
        ((v.fail i cause).judgedAgain (v.holdChanged (v.fail i cause))) := by
  have holds : (failTold v i cause).holdChanged ((failTold v i cause).memberFailed i cause) =
      v.holdChanged ((failTold v i cause).memberFailed i cause) := by
    funext k
    unfold State.holdChanged
    rw [failTold_effHold]
  rw [fail_eq running, memberFailed_staged, failTold_staged sorted, holds]

theorem fail_group (running : (v.ctx i).receiving = true) (h : Nat) : (v.fail i cause).group h =
    if (v.ctx i).group = some h then { v.group h with failed := (v.group h).failed + 1 } else v.group h := by
  rw [fail_eq running, memberFailed_group, failTold_groupOf, group_of_groups (failTold_groups v i cause)]

/-- Failing tells of the failure, and its group tells of its first only (R143, R158). -/
theorem fail_tells (running : (v.ctx i).receiving = true) :
    Tells (fun n => n = .transferFailed i cause ∨
      ∃ leader g, n = .groupFailed leader g cause i ∧ (v.ctx i).group = some g ∧ (v.group g).failed = 0) v
      (v.fail i cause) := by
  obtain ⟨staged, blocks, entered⟩ := failEntered_ctx v i cause
  have owed : ∀ j, ((failEntered v i cause).ctx j).owed = (v.ctx j).owed := fun j => by
    rw [entered]
    split
    · next e => rw [e]
    · rfl
  have told : Tells (fun n => n = .transferFailed i cause) v (failTold v i cause) :=
    Tells.trans (t := failEntered v i cause) (tells_of_same rfl owed) (tells_notify ..)
  rw [fail_eq running]
  refine (told.mono fun n => .inl).trans ((memberFailed_tells ..).mono ?_)
  rintro n ⟨leader, g, told, group, first⟩
  rw [failTold_groupOf] at group
  rw [group_of_groups (failTold_groups v i cause)] at first
  exact .inr ⟨leader, g, told, group, first⟩

/-- The failed record. -/
theorem fail_record (running : (v.ctx i).receiving = true) (cause : FailCause) : ∃ staged blocks owed,
    (v.fail i cause).ctx i =
      { v.ctx i with
        cause := some cause, staged := staged, blocksHeld := blocks, state := .failed, timer := .stopped, owed := owed } := by
  obtain ⟨staged, blocks, entered⟩ := failEntered_ctx v i cause
  have record := (fail_ctx running cause).record i
  rw [entered, if_pos rfl] at record
  exact ⟨staged, blocks, _, record⟩

theorem fail_holdFields (running : (v.ctx i).receiving = true) (cause : FailCause) (j : Nat) :
    holdFields ((v.fail i cause).ctx j) = holdFields (v.ctx j) := by
  rw [fail_eq running, (memberFailed_owedOnly ..).holdFields, failTold_holdFields]

theorem failTold_owed (v : State) (i : Nat) (cause : FailCause) :
    NoticeGiven v (failTold v i cause) i .transferFailed (.transferFailed i cause) := by
  obtain ⟨staged, blocks, entered⟩ := failEntered_ctx v i cause
  have notice : (failEntered v i cause).notice = v.notice := rfl
  have owed : ((failEntered v i cause).ctx i).owed = (v.ctx i).owed := by rw [entered, if_pos rfl]
  have given := notify_given (failEntered v i cause) i .transferFailed (.transferFailed i cause)
  unfold NoticeGiven at given ⊢
  rw [notice, owed] at given
  exact given

theorem fail_mode (running : (v.ctx i).receiving = true) : ModeSet v (v.fail i cause) := by
  obtain ⟨free, mode⟩ := memberFailed_counts (failTold v i cause) i cause
  have staging : (failTold v i cause).staging = (failReleased v i cause).staging := by simp [failTold, failEntered]
  have released : ModeSet v (failReleased v i cause) :=
    releaseUnwritten_mode (v.modCtx i fun c => { c with cause := some cause }) i
  unfold ModeSet at released ⊢
  rw [fail_eq running, free, mode, staging]
  exact released

/-- An ACTIVE or STALLED context fails (R143, R156, R158). -/
theorem fail_failed (running : (v.ctx i).receiving = true) (sorted : Table.sorted v.staging.pool) (cause : FailCause) :
    Failed v (v.fail i cause) i cause := by
  obtain ⟨staged, blocks, owed, record⟩ := fail_record running cause
  have groupFields : ∀ j, ((v.fail i cause).ctx j).group = (v.ctx j).group ∧
      ((v.fail i cause).ctx j).exclusive = (v.ctx j).exclusive := fun j => by
    have same := fail_holdFields running cause j
    simp only [holdFields, Prod.mk.injEq] at same
    exact ⟨same.1, same.2.1⟩
  have grouped : ∀ g, (v.ctx i).group = some g →
      (v.fail i cause).group g = { v.group g with failed := (v.group g).failed + 1 } := fun g group => by
    rw [fail_group running, if_pos group]
  have toldGroups := failTold_groups v i cause
  exact
    { failed := by rw [record]
      recorded := by rw [record]
      stopped := by rw [record]
      freed := fun r rec at_ own unwritten => by
        rw [fail_staged running sorted, at_]
        simp [own, unwritten]
      told := by
        rw [fail_eq running]
        exact (memberFailed_tells ..).charged (charged_of_given (failTold_owed v i cause))
      counted := grouped
      first := fun g group first => by
        have told := memberFailed_first (s := failTold v i cause) (cause := cause)
          ((failTold_groupOf v i cause i).trans group) (by rw [group_of_groups toldGroups]; exact first)
        rw [group_of_groups toldGroups] at told
        rw [fail_eq running]
        exact told
      later := fun g group again leader h why member mem => by
        rcases (fail_tells running).new mem with old | told | ⟨_, g', told, group', first⟩
        · exact old
        · exact absurd told (by simp)
        · exact absurd (Option.some.inj (group.symm.trans group') ▸ first) again
      held := fun g j group holds member shared => by
        refine effHold_of_failed ((groupFields j).1.trans member) ?_ ?_ ((groupFields j).2.trans shared) <;>
          rw [grouped g group]
        · exact holds
        · exact Nat.succ_pos _
      otherGroups := fun h other => by rw [fail_group running, if_neg other]
      others := fun r rec at_ other => by
        rw [fail_staged running sorted, at_]
        simp [other]
      mode := fail_mode running }

/-- What a failure leaves of the context (R143). -/
theorem fail_enteredFailed (running : (v.ctx i).receiving = true) (sorted : Table.sorted v.staging.pool)
    (cause : FailCause) : EnteredFailed v (v.fail i cause) i cause := by
  obtain ⟨staged, blocks, owed, record⟩ := fail_record running cause
  have given := failTold_owed v i cause
  unfold NoticeGiven at given
  have tells := memberFailed_tells (failTold v i cause) i cause
  exact
    { fail_failed running sorted cause with
      kept := fun r rec at_ own writing => by
        rw [fail_staged running sorted, at_]
        simp [writing, judgedAgain_of_writing writing]
      queued := fun room none => by
        rw [if_pos ⟨room, none⟩] at given
        rw [fail_eq running]
        exact tells.mem (by rw [given.1]; simp)
      owed := fun why => by
        rw [if_neg fun h => why.elim (by simp [h.1]) (absurd h.2)] at given
        rw [fail_eq running]
        exact tells.owed i _ ((given.2 _).2 (.inl rfl))
      keyKept := by rw [record]
      settings := by rw [record]; simp
      progress := by rw [record]; simp
      areas := by rw [record]; simp
      delivery := by rw [record]; simp }

end

/-! ## What goes before a failure -/

/-- Between two states context `i` was taken to where it fails: the groups and the effective holds are the same, of the
records only those of `i` were judged again, and no GROUP_FAILED went out. -/
structure LeadsTo (s v : State) (i : Nat) : Prop where
  groups : v.groups = s.groups
  actions : v.actions = s.actions
  holdFields : ∀ j, holdFields (v.ctx j) = holdFields (s.ctx j)
  staged : ∀ r rec, s.staged r = some rec → ∃ st, v.staged r = some { rec with state := st } ∧
    (rec.owner ≠ i → st = rec.state) ∧ (rec.state ≠ .writing → st ≠ .writing)
  constrained : v.staging.constrained = s.staging.constrained
  queue : ∀ leader h why member, Notice.groupFailed leader h why member ∈ v.notice.queue →
    Notice.groupFailed leader h why member ∈ s.notice.queue

section
variable {s v t : State} {i : Nat} {cause : FailCause}

theorem LeadsTo.group (h : LeadsTo s v i) (j : Nat) : (v.ctx j).group = (s.ctx j).group :=
  (congrArg Prod.fst (h.holdFields j) :)

theorem LeadsTo.exclusive (h : LeadsTo s v i) (j : Nat) : (v.ctx j).exclusive = (s.ctx j).exclusive :=
  (congrArg (fun f => f.2.1) (h.holdFields j) :)

theorem LeadsTo.effHold (h : LeadsTo s v i) (j : Nat) : v.effHold j = s.effHold j :=
  effHold_congr h.groups h.actions h.holdFields j

theorem LeadsTo.failed (h : LeadsTo s v i) (failed : Failed v t i cause) : Failed s t i cause := by
  have group := h.group
  have groups : ∀ g, v.group g = s.group g := group_of_groups h.groups
  have changed : v.holdChanged t = s.holdChanged t := by
    funext j
    unfold State.holdChanged
    rw [h.effHold]
  exact
    { failed := failed.failed
      recorded := failed.recorded
      stopped := failed.stopped
      freed := fun r rec at_ own unwritten => by
        obtain ⟨st, there, _, unwritten'⟩ := h.staged r rec at_
        exact failed.freed r _ there own (unwritten' unwritten)
      told := failed.told
      counted := fun g at_ => by rw [← groups]; exact failed.counted g ((group i).trans at_)
      first := fun g at_ first => by
        rw [← groups]
        exact failed.first g ((group i).trans at_) (by rw [groups]; exact first)
      later := fun g at_ again leader k why member mem =>
        h.queue _ _ _ _ (failed.later g ((group i).trans at_) (by rw [groups]; exact again) _ _ _ _ mem)
      held := fun g j at_ holds member shared =>
        failed.held g j ((group i).trans at_) (by rw [groups]; exact holds) ((group j).trans member)
          ((h.exclusive j).trans shared)
      otherGroups := fun k other => by rw [← groups]; exact failed.otherGroups k (by rw [group]; exact other)
      others := fun r rec at_ other => by
        obtain ⟨st, there, same, _⟩ := h.staged r rec at_
        rw [same other] at there
        rw [← changed]
        exact failed.others r rec there other
      mode := by
        have mode := failed.mode
        unfold ModeSet at mode ⊢
        rwa [h.constrained] at mode }

/-- A state that differs from `s` in the damaged count of context `i` at most. -/
structure Damages (s v : State) (i : Nat) : Prop where
  record : ∃ d, v.ctx i = { s.ctx i with damaged := d }
  others : ∀ j, j ≠ i → v.ctx j = s.ctx j
  staging : v.staging = s.staging
  actions : v.actions = s.actions
  groups : v.groups = s.groups
  verify : v.verify = s.verify
  notice : v.notice = s.notice

theorem Alike.damages (h : Alike s v) (i : Nat) : Damages s v i where
  record := ⟨(s.ctx i).damaged, h.ctx i⟩
  others j _ := h.ctx j
  staging := h.staging
  actions := h.actions
  groups := h.groups
  verify := h.verify
  notice := h.notice

theorem Damages.staged (h : Damages s v i) (r : Nat) : v.staged r = s.staged r := by unfold State.staged; rw [h.staging]

theorem Damages.leadsTo (h : Damages s v i) : LeadsTo s v i where
  groups := h.groups
  actions := h.actions
  holdFields j := by
    by_cases own : j = i
    · obtain ⟨d, record⟩ := h.record
      rw [own, record]
      rfl
    · rw [h.others j own]
  staged r rec at_ := ⟨rec.state, (h.staged r).trans at_, fun _ => rfl, id⟩
  constrained := by rw [h.staging]
  queue _ _ _ _ mem := by rwa [h.notice] at mem

theorem Damages.enteredFailed (h : Damages s v i) (failed : EnteredFailed v t i cause) : EnteredFailed s t i cause := by
  obtain ⟨d, record⟩ := h.record
  have owedSame : (v.ctx i).owed = (s.ctx i).owed := by rw [record]
  obtain ⟨base, kept, queued, owed, key, settings, progress, areas, delivery⟩ := failed
  rw [record] at key settings progress areas delivery
  rw [h.verify] at areas
  exact
    { h.leadsTo.failed base with
      kept := fun r rec at_ => kept r rec ((h.staged r).trans at_)
      queued := fun room none => queued (by rw [h.notice]; exact room) (owedSame.trans none)
      owed := fun why => owed (by rw [h.notice, owedSame]; exact why)
      keyKept := key
      settings := settings
      progress := progress
      areas := areas
      delivery := delivery }

end

/-! ## Answers of a failed context -/

section
variable {s : State} {a : Answer} {i : Nat} {cause : FailCause}

/-- The return of a disposition changes nothing of a failure. -/
theorem failed_returned (h : Failed s a.state i cause) (link : BitVec 2) (handle : BitVec 16) (kind : BitVec 8) :
    Failed s (a.returned link handle kind) i cause :=
  ⟨h.failed, h.recorded, h.stopped, h.freed, h.told, h.counted, h.first, h.later, h.held, h.otherGroups, h.others, h.mode⟩

theorem enteredFailed_returned (h : EnteredFailed s a.state i cause) (link : BitVec 2) (handle : BitVec 16)
    (kind : BitVec 8) : EnteredFailed s (a.returned link handle kind) i cause :=
  ⟨failed_returned h.toFailed link handle kind, h.kept, h.queued, h.owed, h.keyKept, h.settings, h.progress, h.areas, h.delivery⟩

end

/-- The contiguous edge is of the retired edge and the extents. -/
theorem edge_of_progress {c d : Ctx} (retired : d.retired = c.retired) (extents : d.extents = c.extents) :
    d.edge = c.edge := by
  unfold Ctx.edge
  rw [retired, extents]

theorem fail_edge {s v : State} {i : Nat} {cause : FailCause} (failed : EnteredFailed s v i cause) : (v.ctx i).edge = (s.ctx i).edge := by
  obtain ⟨_, _, retired, extents⟩ := failed.progress
  exact edge_of_progress retired extents

/-- What is answered of a context that a segment failed in a state with the records of `s`. -/
theorem failed_answer {s v : State} {i : Nat} {cause : FailCause} (failed : EnteredFailed s v i cause)
    (intake : v.intake = s.intake) (code : DispositionCode) (link : BitVec 2) (handle : BitVec 16) (kind : BitVec 8) :
    ((v.answer i code).returned link handle kind).lane link = some ⟨handle, kind, code, (s.ctx i).edge⟩ ∧
      ((v.answer i code).returned link handle kind).intake = (s.answered link handle kind code (s.ctx i).edge).intake ∧
      EnteredFailed s ((v.answer i code).returned link handle kind) i cause := by
  rw [← fail_edge failed]
  exact ⟨returned_lane .., returned_intake _ _ _ _ intake, enteredFailed_returned (a := v.answer i code) failed ..⟩

/-! ## Damaged segments (R33, R142) -/

/-- The damaged count of a context risen. -/
def damageCounted (s : State) (i : Nat) : State := s.modCtx i fun c => { c with damaged := min 255 (c.damaged + 1) }

section
variable (s : State) (i : Nat)

theorem damageCounted_ctx (j : Nat) : (damageCounted s i).ctx j =
    if j = i then { s.ctx i with damaged := min 255 ((s.ctx i).damaged + 1) } else s.ctx j := ctx_modCtx ..

theorem damageCounted_damages : Damages s (damageCounted s i) i where
  record := ⟨_, (damageCounted_ctx s i i).trans (if_pos rfl)⟩
  others j other := (damageCounted_ctx s i j).trans (if_neg other)
  staging := rfl
  actions := rfl
  groups := rfl
  verify := rfl
  notice := rfl

theorem countDamaged_eq : s.countDamaged i =
    if (s.ctx i).damageLimit.toNat ≠ 0 ∧ (s.ctx i).damageLimit.toNat ≤ min 255 ((s.ctx i).damaged + 1) then
      (damageCounted s i).fail i .damageLimit
    else damageCounted s i := by
  have nonzero : (s.ctx i).damageLimit ≠ 0 ↔ (s.ctx i).damageLimit.toNat ≠ 0 := by
    rw [ne_eq, BitVec.toNat_eq]
    rfl
  have counted : (damageCounted s i).ctx i = { s.ctx i with damaged := min 255 ((s.ctx i).damaged + 1) } :=
    (damageCounted_ctx s i i).trans (if_pos rfl)
  unfold State.countDamaged
  rw [← damageCounted]
  dsimp only
  rw [counted]
  exact if_congr (and_congr_left' nonzero) rfl rfl

end

/-- Settles O31: the count rises in a state that otherwise reads as before, from which the limit fails the context. -/
theorem damagedSegmentsCounted : Obligations.DamagedSegmentsCounted := by
  intro s g i taking conserved shape found running tally
  have damages := damageCounted_damages s i
  have counted : (damageCounted s i).ctx i = { s.ctx i with damaged := min 255 ((s.ctx i).damaged + 1) } :=
    (damageCounted_ctx s i i).trans (if_pos rfl)
  refine ⟨_, exec_data_idle taking g, ?_⟩
  rw [takeData_of_found taking shape found, dataStages_of_damaged running tally, countDamaged_eq]
  by_cases limit :
      (s.ctx i).damageLimit.toNat ≠ 0 ∧ (s.ctx i).damageLimit.toNat ≤ min 255 ((s.ctx i).damaged + 1)
  · rw [if_pos limit, if_pos limit]
    have still : ((damageCounted s i).ctx i).receiving = true := by rw [counted]; exact running
    obtain ⟨staged, blocks, owed, record⟩ := fail_record still .damageLimit
    obtain ⟨lane, intake, entered⟩ :=
      failed_answer (damages.enteredFailed (fail_enteredFailed still conserved.sorted .damageLimit)) (by simp [damageCounted])
        .damaged g.link g.handle 1
    refine ⟨lane, intake, ?_, entered⟩
    exact (congrArg Ctx.damaged record).trans (congrArg Ctx.damaged counted)
  · rw [if_neg limit, if_neg limit]
    have edge : ((damageCounted s i).ctx i).edge = (s.ctx i).edge := by rw [counted]; rfl
    rw [← edge]
    exact ⟨returned_lane .., returned_intake _ _ _ _ rfl, congrArg Ctx.damaged counted, counted, damages.others, rfl, rfl,
      rfl, rfl, rfl, rfl, rfl, rfl⟩

/-! ## Conflicts and ABANDON (R35, R42, R44) -/

theorem Alike.receiving {s u : State} (h : Alike s u) {i : Nat} (running : (s.ctx i).receiving = true) :
    (u.ctx i).receiving = true := by rw [h.ctx]; exact running

/-- A context failed in a state that reads as `s`, and the disposition returned. -/
theorem fail_answer_of_alike {s u : State} (alike : Alike s u) {i : Nat} (running : (s.ctx i).receiving = true)
    (conserved : StagingConserved s) (cause : FailCause) (code : DispositionCode) (link : BitVec 2) (handle : BitVec 16)
    (kind : BitVec 8) : let t := ((u.fail i cause).answer i code).returned link handle kind
    t.lane link = some ⟨handle, kind, code, (s.ctx i).edge⟩ ∧
      t.intake = (s.answered link handle kind code (s.ctx i).edge).intake ∧ EnteredFailed s t i cause := by
  have sorted : Table.sorted u.staging.pool := by rw [alike.staging]; exact conserved.sorted
  exact failed_answer
    ((alike.damages i).enteredFailed (fail_enteredFailed (alike.receiving running) sorted cause))
    ((fail_frame u i cause).1.trans alike.intake) code link handle kind

theorem rangeStage_of_conflict {u : State} {i : Nat} {g : DataSegment} {n : Nat} {d : Tally}
    (ends : g.length.toNat % 4 ≠ 0) (total : (u.ctx i).total = .manifest n d)
    (differs : g.offset.toNat + g.length.toNat ≠ n) :
    u.rangeStage i g = (u.fail i .manifestConflict).answer i .conflict := by
  have refused : (u.ctx i).rangeRefusal g = some .conflict := by
    unfold Ctx.rangeRefusal
    rw [if_pos ((isEnd_iff g).2 ends), total]
    exact if_neg differs
  unfold State.rangeStage
  rw [refused]

theorem compareManifest_of_conflict {c : Ctx} {g : ManifestSegment}
    (h : (∃ n d, c.total = .manifest n d ∧ (n ≠ g.total.toNat ∨ d ≠ ⟨g.expectedA.toNat, g.expectedB.toNat⟩)) ∨
      (∃ n, c.total = .implied n ∧ n ≠ g.total.toNat) ∨
      (c.expected = none ∧ g.total.toNat < highMark c.retired c.extents)) : c.compareManifest g = .conflict := by
  unfold Ctx.compareManifest
  rcases h with ⟨n, d, total, differs⟩ | ⟨n, total, differs⟩ | ⟨unannounced, below⟩
  · rw [total]
    exact if_neg fun same => differs.elim (absurd same.1) (absurd same.2)
  · rw [total]
    exact if_pos differs
  · cases total : c.total with
    | absent => exact if_pos below
    | implied n =>
      dsimp only
      split
      · rfl
      · rfl
    | manifest n d =>
      unfold Ctx.expected at unannounced
      rw [total] at unannounced
      exact absurd unannounced (by simp)

theorem manifestStage_of_conflict {u : State} {i : Nat} {g : ManifestSegment}
    (h : (u.ctx i).compareManifest g = .conflict) :
    u.manifestStage i g = (u.fail i .manifestConflict).answer i .conflict := by
  unfold State.manifestStage
  rw [h]

/-- Settles O33: each of them fails the context in a state that reads as the one before. -/
theorem conflictAndAbandonFailTheContext : Obligations.ConflictAndAbandonFailTheContext := by
  intro s i taking conserved running
  refine ⟨fun g n d shape found tally level ends total differs => ?_, fun g shape found level conflict => ?_,
    fun g shape found => ?_⟩
  · obtain ⟨alike, _⟩ := signalStage_alike level
    refine ⟨_, exec_data_idle taking g, ?_⟩
    rw [takeData_of_found taking shape found, dataStages_of_matching running tally,
      rangeStage_of_conflict ends (by rw [alike.ctx]; exact total) differs]
    exact fail_answer_of_alike alike running conserved .manifestConflict .conflict g.link g.handle 1
  · obtain ⟨alike, _⟩ := signalStage_alike level
    refine ⟨_, exec_manifest_idle taking g, ?_⟩
    rw [takeManifest_of_found taking shape found, manifestStages_of_receiving running,
      manifestStage_of_conflict (by rw [alike.ctx]; exact compareManifest_of_conflict conflict)]
    exact fail_answer_of_alike alike running conserved .manifestConflict .conflict g.link g.handle 2
  · refine ⟨_, exec_abandon_idle taking g, ?_⟩
    rw [takeAbandon_of_found taking shape found, abandonStages_of_receiving running]
    exact fail_answer_of_alike (alike_refl s) running conserved .abandoned .accepted g.link g.handle 3

end Sys2Proof.SegmentIntake
end

section
/-! Lowest free numbers, the payload in its blocks, and what staging a record does (R80, R81): the ground of O28. -/

namespace Sys2Proof.SegmentIntake

open Sys2Proof Sys2Proof.Machine Sys2Proof.Laws Sys2Proof.Contexts

/-! ## The lowest free numbers -/

/-- The numbers looked at that are not used, ascending. -/
def unusedFrom (used : Nat → Bool) (n fuel : Nat) : List Nat := (List.range' n fuel).filter fun k => !used k

section
variable {used : Nat → Bool} {n fuel want : Nat}

theorem lowestFree_eq (used : Nat → Bool) (fuel n want : Nat) :
    lowestFree used fuel n want = (unusedFrom used n fuel).take want := by
  induction fuel generalizing n want with
  | zero => cases want <;> rfl
  | succ fuel ih =>
    cases want with
    | zero => exact List.take_zero.symm
    | succ want =>
      unfold lowestFree unusedFrom
      rw [List.range'_succ]
      split
      · next h => rw [List.filter_cons_of_neg (by simp [h]), ih]; rfl
      · next h => rw [List.filter_cons_of_pos (by simp [h]), List.take_succ_cons, ih]; rfl

theorem mem_unusedFrom {k : Nat} : k ∈ unusedFrom used n fuel ↔ (n ≤ k ∧ k < n + fuel) ∧ used k = false := by
  simp [unusedFrom]

theorem unusedFrom_rising (used : Nat → Bool) (n fuel : Nat) : (unusedFrom used n fuel).Pairwise fun a b => a < b :=
  (List.pairwise_lt_range' (step := 1)).filter _

theorem lowestFree_rising (used : Nat → Bool) (fuel n want : Nat) :
    (lowestFree used fuel n want).Pairwise fun a b => a < b := by
  rw [lowestFree_eq]
  exact (unusedFrom_rising used n fuel).sublist (List.take_sublist ..)

theorem lowestFree_unused {k : Nat} (h : k ∈ lowestFree used fuel n want) :
    (n ≤ k ∧ k < n + fuel) ∧ used k = false := by
  rw [lowestFree_eq] at h
  exact mem_unusedFrom.1 (List.mem_of_mem_take h)

/-- No unused number is passed over. -/
theorem mem_lowestFree_of_lt {k b : Nat} (mem : b ∈ lowestFree used fuel n want) (low : n ≤ k) (below : k < b)
    (free : used k = false) : k ∈ lowestFree used fuel n want := by
  obtain ⟨⟨_, bound⟩, _⟩ := lowestFree_unused mem
  rw [lowestFree_eq] at mem ⊢
  have there : k ∈ unusedFrom used n fuel := mem_unusedFrom.2 ⟨⟨low, by omega⟩, free⟩
  have rising := unusedFrom_rising used n fuel
  rw [← List.take_append_drop want (unusedFrom used n fuel)] at there rising
  rcases List.mem_append.1 there with first | later
  · exact first
  · have := (List.pairwise_append.1 rising).2.2 b mem k later
    omega

/-- When the used numbers stand in a list, what is looked at but for its length is unused. -/
theorem length_unusedFrom (listed : List Nat) (all : ∀ k, used k = true → k ∈ listed) :
    fuel ≤ (unusedFrom used n fuel).length + listed.length := by
  have parts := List.length_eq_length_filter_add (l := List.range' n fuel) used
  rw [List.length_range'] at parts
  have nodup : ((List.range' n fuel).filter used).Nodup := (List.nodup_range' (s := n) (n := fuel)).filter used
  have few : ((List.range' n fuel).filter used).length ≤ listed.length :=
    (nodup.subperm fun k hk => all k (List.mem_filter.1 hk).2).length_le
  unfold unusedFrom
  omega

theorem length_lowestFree (listed : List Nat) (all : ∀ k, used k = true → k ∈ listed)
    (room : want + listed.length ≤ fuel) : (lowestFree used fuel n want).length = want := by
  rw [lowestFree_eq, List.length_take]
  have := length_unusedFrom (n := n) (fuel := fuel) listed all
  omega

end

/-- Enough blocks are found where enough are free (R79, R81). -/
theorem length_lowestBlocks {t : Staging} {n : Nat} (room : n + blocksIn t.pool ≤ Config.blockCount) :
    (t.lowestBlocks n).length = n := by
  refine length_lowestFree (t.pool.flatMap fun e => e.2.blocks) (fun k used => ?_) ?_
  · obtain ⟨e, mem, holds⟩ := List.any_eq_true.1 used
    exact List.mem_flatMap.2 ⟨e, mem, by simpa using holds⟩
  · rw [List.length_flatMap]
    exact room

/-- A free record is found where one is free, and it is the lowest (R79, R81). -/
theorem lowestRecord_free {t : Staging} (room : t.pool.length < Config.recordCount) :
    Table.lookup t.pool t.lowestRecord = none ∧ ∀ q, q < t.lowestRecord → Table.lookup t.pool q ≠ none := by
  have one : (lowestFree (fun r => (Table.lookup t.pool r).isSome) Config.recordCount 0 1).length = 1 := by
    refine length_lowestFree (t.pool.map Prod.fst) (fun k used => ?_) (by rw [List.length_map]; omega)
    obtain ⟨v, found⟩ := Option.isSome_iff_exists.1 used
    unfold Table.lookup at found
    obtain ⟨e, at_, _⟩ := Option.map_eq_some_iff.1 found
    exact List.mem_map.2 ⟨e, List.mem_of_find?_eq_some at_, by simpa using List.find?_some at_⟩
  obtain ⟨r, found⟩ := List.length_eq_one_iff.1 one
  have first : t.lowestRecord = r := by unfold Staging.lowestRecord; rw [found]; rfl
  have mem : r ∈ lowestFree (fun r => (Table.lookup t.pool r).isSome) Config.recordCount 0 1 := by rw [found]; simp
  rw [first]
  refine ⟨by simpa using (lowestFree_unused mem).2, fun q below empty => ?_⟩
  have there := mem_lowestFree_of_lt mem q.zero_le below (by rw [empty]; rfl)
  rw [found] at there
  have := List.mem_singleton.1 there
  omega

/-! ## The payload in its blocks (R80) -/

/-- A store leaves every byte outside its blocks. -/
theorem readByte_storePayload_outside (blocks : List Nat) (payload : List Byte) (m : List Host.Cell) {a : Nat}
    (outside : a / 2048 ∉ blocks) : readByte (storePayload blocks payload m) a = readByte m a := by
  induction blocks generalizing payload m with
  | nil => rfl
  | cons b bs ih =>
    have other : a / 2048 ≠ b := fun e => outside (e ▸ List.mem_cons_self)
    have short : (payload.take Config.blockBytes).length ≤ 2048 := List.length_take_le ..
    unfold storePayload
    rw [ih _ _ fun mem => outside (List.mem_cons_of_mem _ mem)]
    refine readByte_writeRun_outside m ?_
    show a < 2048 * b ∨ 2048 * b + (payload.take Config.blockBytes).length ≤ a
    omega

/-- Each byte is read back from where it was stored. -/
theorem readByte_storePayload {blocks : List Nat} (once : blocks.Nodup) (payload : List Byte) (m : List Host.Cell)
    {i : Nat} (inside : i < payload.length) (fits : payload.length ≤ 2048 * blocks.length) :
    readByte (storePayload blocks payload m) (payloadAddress blocks i) = payload.getD i blankByte := by
  induction blocks generalizing payload m i with
  | nil => exact absurd (Nat.le_zero.1 fits) (by omega)
  | cons b bs ih =>
    obtain ⟨new, once⟩ := List.nodup_cons.1 once
    rw [List.length_cons] at fits
    unfold storePayload
    by_cases first : i < 2048
    · have address : payloadAddress (b :: bs) i = 2048 * b + i := by
        unfold payloadAddress
        rw [show i / Config.blockBytes = 0 from Nat.div_eq_of_lt first, show i % Config.blockBytes = i from
          Nat.mod_eq_of_lt first]
        rfl
      have stored : i < (payload.take Config.blockBytes).length := by
        rw [List.length_take]; exact lt_min first inside
      rw [address, readByte_storePayload_outside _ _ _ (by rw [show (2048 * b + i) / 2048 = b by omega]; exact new),
        readByte_writeRun]
      show (if 2048 * b ≤ 2048 * b + i ∧ 2048 * b + i < 2048 * b + _ then _ else _) = _
      rw [if_pos ⟨by omega, by omega⟩]
      show (payload.take 2048).getD (2048 * b + i - 2048 * b) _ = _
      rw [Nat.add_sub_cancel_left, List.getD_eq_getElem?_getD, List.getElem?_take_of_lt first,
        ← List.getD_eq_getElem?_getD]
    · have address : payloadAddress (b :: bs) i = payloadAddress bs (i - 2048) := by
        have q : i / 2048 = (i - 2048) / 2048 + 1 := by omega
        have r : i % 2048 = (i - 2048) % 2048 := by omega
        show 2048 * (b :: bs).getD (i / 2048) 0 + i % 2048 = 2048 * bs.getD ((i - 2048) / 2048) 0 + (i - 2048) % 2048
        rw [q, r, List.getD_cons_succ]
      have rest : (payload.drop Config.blockBytes).length = payload.length - 2048 := List.length_drop ..
      rw [address, ih once _ _ (by rw [rest]; omega) (by rw [rest]; omega), List.getD_eq_getElem?_getD,
        List.getElem?_drop, List.getD_eq_getElem?_getD, show Config.blockBytes + (i - 2048) = i from by
          show 2048 + (i - 2048) = i; omega]

/-- A record's payload reads back whole (R80). -/
theorem readPayload_storePayload {blocks : List Nat} (once : blocks.Nodup) (payload : List Byte) (m : List Host.Cell)
    (fits : payload.length ≤ 2048 * blocks.length) :
    readPayload (storePayload blocks payload m) blocks 0 payload.length = payload := by
  have read : ∀ k, (inside : k < payload.length) →
      readByte (storePayload blocks payload m) (payloadAddress blocks (0 + k)) = payload[k] := fun k inside => by
    rw [Nat.zero_add, readByte_storePayload once payload m inside fits]
    exact List.getD_eq_getElem _ _ inside
  refine List.ext_getElem (by simp [readPayload]) fun k hk inside => ?_
  simpa [readPayload] using read k inside

end Sys2Proof.SegmentIntake
end

section
/-! Records judged in states that judge alike, and the cut of the areas by a first total (R84, R101, R103). -/

namespace Sys2Proof.SegmentIntake

open Sys2Proof Sys2Proof.Machine Sys2Proof.Laws Sys2Proof.Contexts

/-! ## States that judge alike -/

/-- What a judgement reads of a context (R83): its areas' states and windows, its effective hold, its fence. -/
structure JudgesAlike (s t : State) (j : Nat) : Prop where
  areas : ∀ n, ((t.ctx j).area n).state = ((s.ctx j).area n).state ∧ ((t.ctx j).area n).window = ((s.ctx j).area n).window
  hold : t.effHold j = s.effHold j
  fence : (t.ctx j).fence = (s.ctx j).fence

section
variable {s t u : State} {j : Nat}

theorem JudgesAlike.trans (h : JudgesAlike s t j) (g : JudgesAlike t u j) : JudgesAlike s u j where
  areas n := ⟨(g.areas n).1.trans (h.areas n).1, (g.areas n).2.trans (h.areas n).2⟩
  hold := g.hold.trans h.hold
  fence := g.fence.trans h.fence

theorem judgesAlike_of_same (record : t.ctx j = s.ctx j) (hold : t.effHold j = s.effHold j) : JudgesAlike s t j where
  areas n := by rw [record]; exact ⟨rfl, rfl⟩
  hold := hold
  fence := by rw [record]

theorem JudgesAlike.fitState {rec : StagedRecord} (h : JudgesAlike s t rec.owner) : t.fitState rec = s.fitState rec := by
  unfold State.fitState
  simp only [h.areas, h.hold, h.fence]

theorem JudgesAlike.judgedAgain {rec : StagedRecord} (h : JudgesAlike s t rec.owner) (pick : Nat → Bool) :
    t.judgedAgain pick rec = s.judgedAgain pick rec := by
  unfold State.judgedAgain
  rw [h.fitState]

end

/-- A record that no re-evaluation picks stays. -/
theorem judgedAgain_of_not {t : State} {pick : Nat → Bool} {rec : StagedRecord} (h : pick rec.owner = false) :
    t.judgedAgain pick rec = rec := by
  unfold State.judgedAgain
  rw [if_neg (by simp [h])]

/-- A record staged takes the state R83 gives it. -/
theorem eligible_fitState (t : State) (rec : StagedRecord) :
    (if t.eligible rec.owner rec.pieces then RecordState.eligible else .parked) = t.fitState rec := by
  have judged := judged_eq_fitState t { rec with state := .parked } nofun
  exact judged

/-! ## Records by what is kept of their core -/

section
variable {s t : State} {i : Nat}

theorem effHold_of_core (groups : t.groups = s.groups) (actions : t.actions = s.actions)
    (same : ∀ j, Contexts.core (t.ctx j) = Contexts.core (s.ctx j)) (k : Nat) : t.effHold k = s.effHold k :=
  effHold_congr groups actions (fun j => holdFields_of_core (same j)) k

end

/-! ## The half-notice test (R103) -/

section
variable (s : State) (i n : Nat)

/-- The half notice of window `n` is due: not sent yet, with half of the window delivered. -/
def halfDue (c : Ctx) (n : Nat) : Bool :=
  !(c.area n).halfSent && decide (halfUp (c.windowLength n) ≤ (c.area n).delivered)

/-- The flag of the area of window `n` is set. -/
def halfSet (s : State) (i n : Nat) : State := s.modCtx i fun c => c.setArea n { c.area n with halfSent := true }

theorem halfTest_eq : s.halfTest i n =
    if halfDue (s.ctx i) n then
      (halfSet s i n).notifyMasked i NoticeMask.halfFilled .halfFilled (.halfFilled i (n % 2) n ((s.ctx i).area n).delivered)
    else s := rfl

theorem halfSet_ctx (j : Nat) : (halfSet s i n).ctx j =
    if j = i then (s.ctx i).setArea n { (s.ctx i).area n with halfSent := true } else s.ctx j := ctx_modCtx ..

/-- Areas after the test: of the tested parity the flag may be set. -/
theorem halfTest_area (p : Nat) : ((s.halfTest i n).ctx i).area p =
    if p % 2 = n % 2 ∧ halfDue (s.ctx i) n = true then { (s.ctx i).area n with halfSent := true }
    else (s.ctx i).area p := by
  rw [halfTest_eq]
  by_cases due : halfDue (s.ctx i) n = true
  · have area : (((halfSet s i n).notifyMasked i NoticeMask.halfFilled .halfFilled
        (.halfFilled i (n % 2) n ((s.ctx i).area n).delivered)).ctx i).area p = ((halfSet s i n).ctx i).area p := by
      rw [(owedOnly_notifyMasked ..).record i]
      rfl
    rw [if_pos due, area, halfSet_ctx, if_pos rfl, area_setArea]
    simp only [due, and_true]
  · rw [if_neg due, if_neg fun h => due h.2]

theorem halfTest_others {j : Nat} (other : j ≠ i) : (s.halfTest i n).ctx j = s.ctx j := by
  rw [halfTest_eq]
  split
  · rcases notifyMasked_cases (halfSet s i n) i NoticeMask.halfFilled .halfFilled
      (.halfFilled i (n % 2) n ((s.ctx i).area n).delivered) with ⟨eq, _⟩ | ⟨eq, _⟩ <;> rw [eq]
    · rw [halfSet_ctx, if_neg other]
    · rw [notify_ctx_other _ _ _ _ other, halfSet_ctx, if_neg other]
  · rfl

theorem halfTest_tells : Tells (fun m => ∃ p n d, m = .halfFilled i p n d) s (s.halfTest i n) := by
  rw [halfTest_eq]
  split
  · refine Tells.trans (t := halfSet s i n) (tells_of_same rfl fun j => ?_)
      ((tells_notifyMasked ..).mono fun m h => ⟨_, _, _, h⟩)
    rw [halfSet_ctx]
    split
    · next e => rw [e, setArea_owed]
    · rfl
  · exact tells_of_same rfl fun _ => rfl

theorem halfTest_charged (due : halfDue (s.ctx i) n = true) (asked : (s.effMask i).halfFilled = true) :
    Charged (s.halfTest i n) i .halfFilled (.halfFilled i (n % 2) n ((s.ctx i).area n).delivered) := by
  have mask : (halfSet s i n).effMask i = s.effMask i :=
    modCtx_effMask s i (f := fun c => c.setArea n { c.area n with halfSent := true })
      (fun c => ⟨setArea_group .., setArea_mask ..⟩) i
  rw [halfTest_eq, if_pos due]
  rcases notifyMasked_cases (halfSet s i n) i NoticeMask.halfFilled .halfFilled
    (.halfFilled i (n % 2) n ((s.ctx i).area n).delivered) with ⟨_, masked⟩ | ⟨eq, _⟩
  · rw [mask, asked] at masked
    exact absurd masked (by decide)
  · rw [eq]
    exact charged_of_given (notify_given ..)

end

/-! ## The cut of an area (R101) -/

/-- An area of a context after the half-notice test of a cut window. -/
def halfCut (c : Ctx) (a : Area) : Area :=
  match a.state, a.window with
  | .ready, some n =>
    if c.cutsWindow n = true ∧ halfUp (c.windowLength n) ≤ a.delivered then { a with halfSent := true } else a
  | _, _ => a

theorem halfCut_of_not_ready {c : Ctx} {a : Area} (h : a.state ≠ .ready) : halfCut c a = a := by
  unfold halfCut
  cases hs : a.state with
  | ready => exact absurd hs h
  | idle => rfl
  | filled => rfl

theorem halfCut_of_none {c : Ctx} {a : Area} (h : a.window = none) : halfCut c a = a := by
  unfold halfCut
  rw [h]
  cases a.state <;> rfl

theorem halfCut_of_ready {c : Ctx} {a : Area} {n : Nat} (ready : a.state = .ready) (window : a.window = some n) :
    halfCut c a = if c.cutsWindow n = true ∧ halfUp (c.windowLength n) ≤ a.delivered then { a with halfSent := true }
      else a := by
  unfold halfCut
  rw [ready, window]

/-- The test of area `p` reads a window of its own parity. -/
structure CutTested (s t : State) (i p : Nat) : Prop where
  own : ((t.ctx i).area p) = halfCut (s.ctx i) ((s.ctx i).area p)
  other : ∀ q, q % 2 ≠ p % 2 → (t.ctx i).area q = (s.ctx i).area q
  charged : ∀ n, ((s.ctx i).area p).window = some n → ((t.ctx i).area p).halfSent = true →
    ((s.ctx i).area p).halfSent = false → (s.effMask i).halfFilled = true →
    Charged t i .halfFilled (.halfFilled i (p % 2) n ((s.ctx i).area p).delivered)

section
variable (s : State) (i p : Nat)

theorem cutHalfTest_cases : (s.cutHalfTest i p = s ∧
      ∀ n, ((s.ctx i).area p).state = .ready → ((s.ctx i).area p).window = some n → (s.ctx i).cutsWindow n = false) ∨
    ∃ n, s.cutHalfTest i p = s.halfTest i n ∧ ((s.ctx i).area p).state = .ready ∧ ((s.ctx i).area p).window = some n ∧
      (s.ctx i).cutsWindow n = true := by
  unfold State.cutHalfTest
  split
  · next n ready window =>
    split
    · next cuts => exact .inr ⟨n, rfl, ready, window, cuts⟩
    · next whole =>
      refine .inl ⟨rfl, fun m _ window' => ?_⟩
      rw [window] at window'
      rw [← Option.some.inj window']
      simpa using whole
  · next none => exact .inl ⟨rfl, fun n ready window => (none n ready window).elim⟩

theorem cutHalfTest_tells : Tells (fun m => ∃ p n d, m = .halfFilled i p n d) s (s.cutHalfTest i p) := by
  rcases cutHalfTest_cases s i p with ⟨eq, _⟩ | ⟨n, eq, _⟩ <;> rw [eq]
  · exact tells_of_same rfl fun _ => rfl
  · exact halfTest_tells ..

theorem cutHalfTest_others {j : Nat} (other : j ≠ i) : (s.cutHalfTest i p).ctx j = s.ctx j := by
  rcases cutHalfTest_cases s i p with ⟨eq, _⟩ | ⟨n, eq, _⟩ <;> rw [eq]
  exact halfTest_others s i n other

/-- The test changes no area's state and no area's window. -/
theorem cutHalfTest_areaFields (q : Nat) :
    (((s.cutHalfTest i p).ctx i).area q).state = ((s.ctx i).area q).state ∧
      (((s.cutHalfTest i p).ctx i).area q).window = ((s.ctx i).area q).window := by
  rcases cutHalfTest_cases s i p with ⟨eq, _⟩ | ⟨n, eq, _⟩ <;> rw [eq]
  · exact ⟨rfl, rfl⟩
  · have same : q % 2 = n % 2 → (s.ctx i).area n = (s.ctx i).area q := fun e => by unfold Ctx.area; rw [e]
    rw [halfTest_area]
    split
    · next h => rw [same h.1]; exact ⟨rfl, rfl⟩
    · exact ⟨rfl, rfl⟩

theorem cutHalfTest_tested (parity : ∀ n, ((s.ctx i).area p).window = some n → n % 2 = p % 2) :
    CutTested s (s.cutHalfTest i p) i p := by
  rcases cutHalfTest_cases s i p with ⟨eq, whole⟩ | ⟨n, eq, ready, window, cuts⟩ <;> rw [eq]
  · refine ⟨?_, fun _ _ => rfl, fun _ _ set unset => absurd (set.symm.trans unset) (by decide)⟩
    by_cases ready : ((s.ctx i).area p).state = .ready
    · cases window : ((s.ctx i).area p).window with
      | none => exact (halfCut_of_none window).symm
      | some n => rw [halfCut_of_ready ready window, if_neg (by simp [whole n ready window])]
    · exact (halfCut_of_not_ready ready).symm
  · have even : n % 2 = p % 2 := parity n window
    have area : (s.ctx i).area n = (s.ctx i).area p := by unfold Ctx.area; rw [even]
    refine ⟨?_, fun q other => ?_, fun m window' set unset asked => ?_⟩
    · rw [halfTest_area, halfCut_of_ready ready window, area]
      unfold halfDue
      rw [area]
      by_cases half : halfUp ((s.ctx i).windowLength n) ≤ ((s.ctx i).area p).delivered
      · rw [if_pos (show (s.ctx i).cutsWindow n = true ∧ _ from ⟨cuts, half⟩)]
        cases sent : ((s.ctx i).area p).halfSent with
        | false => rw [if_pos (by simp [even, half])]
        | true =>
          rw [if_neg (by simp)]
          exact congrArg (fun b => { (s.ctx i).area p with halfSent := b }) sent
      · rw [if_neg (by simp [half]), if_neg fun h => half h.2]
    · rw [halfTest_area, if_neg fun h => other (h.1.trans even)]
    · rw [halfTest_area] at set
      have due : halfDue (s.ctx i) n = true := by
        by_contra none
        rw [if_neg fun h => none h.2] at set
        exact absurd (set.symm.trans unset) (by decide)
      have charged := halfTest_charged s i n due asked
      rw [even, area, Option.some.inj (window.symm.trans window')] at charged
      rw [Option.some.inj (window.symm.trans window')]
      exact charged

end

/-! ## The trim of the areas (R101) -/

/-- A record with its areas trimmed. -/
def areasTrimmed (c : Ctx) : Ctx :=
  { c with area0 := c.area0.trimmed c.w c.endBound, area1 := c.area1.trimmed c.w c.endBound }

/-- The areas of a context trimmed, and its records judged again. -/
def trimmed (s : State) (i : Nat) : State := (s.modCtx i areasTrimmed).rejudgeCtx i

theorem trimAreas_eq (s : State) (i : Nat) : s.trimAreas i = ((trimmed s i).cutHalfTest i 0).cutHalfTest i 1 := rfl

section
variable (s : State) (i : Nat)

theorem trimmed_ctx (j : Nat) : (trimmed s i).ctx j = if j = i then areasTrimmed (s.ctx i) else s.ctx j :=
  ctx_modCtx s i j areasTrimmed

theorem trimmed_area (p : Nat) :
    ((trimmed s i).ctx i).area p = ((s.ctx i).area p).trimmed (s.ctx i).w (s.ctx i).endBound := by
  rw [trimmed_ctx, if_pos rfl]
  unfold Ctx.area areasTrimmed
  split <;> rfl

theorem trimAreas_tells : Tells (fun m => ∃ p n d, m = .halfFilled i p n d) s (s.trimAreas i) := by
  have cut : Tells (fun m => ∃ p n d, m = .halfFilled i p n d) s (trimmed s i) := tells_of_same rfl fun j => ?_
  · rw [trimAreas_eq]
    exact (cut.trans (cutHalfTest_tells ..)).trans (cutHalfTest_tells ..)
  rw [trimmed_ctx]
  split
  · next e => rw [e]; rfl
  · rfl

theorem trimAreas_others {j : Nat} (other : j ≠ i) : (s.trimAreas i).ctx j = s.ctx j := by
  rw [trimAreas_eq, cutHalfTest_others _ _ _ other, cutHalfTest_others _ _ _ other, trimmed_ctx, if_neg other]

/-- Cutting the areas keeps all of the record but them and what it is owed. -/
theorem trimAreas_record : (s.trimAreas i).ctx i =
    { s.ctx i with
      area0 := ((s.trimAreas i).ctx i).area0, area1 := ((s.trimAreas i).ctx i).area1
      owed := ((s.trimAreas i).ctx i).owed } := by
  have same := core_trimAreas s i i
  generalize (s.trimAreas i).ctx i = d at same ⊢
  generalize s.ctx i = c at same ⊢
  cases c
  cases d
  simp only [Contexts.core, Ctx.mk.injEq] at same ⊢
  simp only [same, and_self]

theorem cutHalfTest_judgesAlike (p j : Nat) : JudgesAlike s (s.cutHalfTest i p) j where
  areas n := by
    by_cases own : j = i
    · rw [own]; exact cutHalfTest_areaFields s i p n
    · rw [cutHalfTest_others s i p own]; exact ⟨rfl, rfl⟩
  hold := effHold_of_core (by simp) (by simp) (fun k => core_cutHalfTest s i p k) j
  fence := (congrArg Ctx.fence (core_cutHalfTest s i p j) :)

theorem trimAreas_judgesAlike (j : Nat) : JudgesAlike (trimmed s i) (s.trimAreas i) j :=
  (cutHalfTest_judgesAlike (trimmed s i) i 0 j).trans (cutHalfTest_judgesAlike _ i 1 j)

theorem trimAreas_staging : (s.trimAreas i).staging = (trimmed s i).staging := by
  rw [trimAreas_eq]
  simp

/-- The cut has the context's records judged again (R84). -/
theorem trimAreas_staged (r : Nat) :
    (s.trimAreas i).staged r = (s.staged r).map ((s.trimAreas i).judgedAgain (· == i)) := by
  let t := s.modCtx i areasTrimmed
  have staging : (s.trimAreas i).staged r = (t.rejudge (· == i)).staged r := by
    unfold State.staged
    rw [trimAreas_staging]
    rfl
  have before : t.staged r = s.staged r := rfl
  rw [staging, staged_rejudge, before]
  refine congrArg (fun f => Option.map f (s.staged r)) (funext fun rec => ?_)
  rw [judgedAgain_eq t (fun k => k == i) rec, (trimAreas_judgesAlike s i rec.owner).judgedAgain]
  rfl

/-- The trim and the test together are the cut the statements write. -/
theorem halfCut_trimmed {c : Ctx} {total : Nat} (recorded : c.totalBytes = some total) (a : Area) :
    halfCut c (a.trimmed c.w total) = c.cutArea total a := by
  have bound : c.endBound = total := by unfold Ctx.endBound; rw [recorded]; rfl
  obtain ⟨base, state, window, delivered, digest, halfSent, faulted, verify⟩ := a
  match state, window with
  | .idle, _ => rfl
  | .filled, _ => rfl
  | .ready, none => rfl
  | .ready, some n =>
    have cuts : c.cutsWindow n = true ↔ n * c.w < total ∧ total < n * c.w + c.w := by
      unfold Ctx.cutsWindow
      rw [recorded, ← Nat.succ_mul]
      simp
    have length : c.cutsWindow n = true → halfUp (c.windowLength n) = (total - n * c.w + 1) / 2 := fun h => by
      unfold Ctx.windowLength halfUp
      rw [if_pos h, bound]
    unfold Ctx.cutArea Area.trimmed
    dsimp only
    by_cases above : total ≤ n * c.w ∧ delivered = 0
    · rw [if_pos above]
      exact (halfCut_of_none rfl).trans (if_pos above).symm
    · rw [if_neg above, halfCut_of_ready rfl rfl]
      refine Eq.trans ?_ (if_neg above).symm
      by_cases cut : c.cutsWindow n = true
      · obtain ⟨low, high⟩ := cuts.1 cut
        rw [length cut]
        exact if_congr ⟨fun h => ⟨low, high, h.2⟩, fun h => ⟨cut, h.2.2⟩⟩ rfl rfl
      · rw [if_neg fun h => cut h.1]
        exact (if_neg fun h => cut (cuts.2 ⟨h.1, h.2.1⟩)).symm

theorem trimmed_cases (a : Area) (w total : Nat) :
    a.trimmed w total = a ∨ a.trimmed w total = { a with state := .idle, window := none } := by
  unfold Area.trimmed
  split
  · split
    · exact .inr rfl
    · exact .inl rfl
  · exact .inl rfl

theorem halfCut_congr {c d : Ctx} (h : Contexts.core c = Contexts.core d) (a : Area) : halfCut c a = halfCut d a :=
  (congrArg (fun c => halfCut c a) h :)

end

/-- Area `p` of a context was cut by a first total, with its HALF_FILLED where due (R101, R103). -/
structure CutBy (s t : State) (i total p : Nat) : Prop where
  area : (t.ctx i).area p = (s.ctx i).cutArea total ((s.ctx i).area p)
  charged : ∀ n, ((s.ctx i).area p).window = some n → ((s.ctx i).cutArea total ((s.ctx i).area p)).halfSent = true →
    ((s.ctx i).area p).halfSent = false → (s.effMask i).halfFilled = true →
    Charged t i .halfFilled (.halfFilled i p n ((s.ctx i).area p).delivered)

/-- The areas of a context with a first total are cut by it (R101, R103). -/
theorem trimAreas_cut {s : State} {i total : Nat} (recorded : (s.ctx i).totalBytes = some total)
    (parity : ∀ p n, ((s.ctx i).area p).window = some n → n % 2 = p % 2) {p : Nat} (low : p < 2) :
    CutBy s (s.trimAreas i) i total p := by
  have bound : (s.ctx i).endBound = total := by unfold Ctx.endBound; rw [recorded]; rfl
  have cut : ∀ q, ((trimmed s i).ctx i).area q = ((s.ctx i).area q).trimmed (s.ctx i).w total := fun q => by
    rw [trimmed_area, bound]
  have core : Contexts.core ((trimmed s i).ctx i) = Contexts.core (s.ctx i) := by rw [trimmed_ctx, if_pos rfl]; rfl
  have mask : (trimmed s i).effMask i = s.effMask i :=
    modCtx_effMask s i (f := areasTrimmed) (fun _ => ⟨rfl, rfl⟩) i
  have parityCut : ∀ q n, (((trimmed s i).ctx i).area q).window = some n → n % 2 = q % 2 := fun q n window => by
    rw [cut] at window
    rcases trimmed_cases ((s.ctx i).area q) (s.ctx i).w total with eq | eq <;> rw [eq] at window
    · exact parity q n window
    · exact absurd window (by simp)
  -- A flag set now was set on an area that the trim left as it was.
  have kept : ∀ q, ((s.ctx i).cutArea total ((s.ctx i).area q)).halfSent = true → ((s.ctx i).area q).halfSent = false →
      ((trimmed s i).ctx i).area q = (s.ctx i).area q := fun q set unset => by
    rw [cut]
    refine (trimmed_cases ((s.ctx i).area q) (s.ctx i).w total).resolve_right fun eq => ?_
    rw [← halfCut_trimmed recorded, eq, halfCut_of_none rfl] at set
    exact absurd (set.symm.trans unset) (by decide)
  have first := cutHalfTest_tested (trimmed s i) i 0 (parityCut 0)
  have second := cutHalfTest_tested ((trimmed s i).cutHalfTest i 0) i 1 fun n => by
    rw [first.other 1 (by decide)]; exact parityCut 1 n
  have coreThen := (core_cutHalfTest (trimmed s i) i 0 i).trans core
  have maskThen : ((trimmed s i).cutHalfTest i 0).effMask i = s.effMask i :=
    (effMask_of_core (by simp) (core_cutHalfTest (trimmed s i) i 0) i).trans mask
  rw [trimAreas_eq]
  obtain rfl | rfl : p = 0 ∨ p = 1 := by omega
  · have area : ((((trimmed s i).cutHalfTest i 0).cutHalfTest i 1).ctx i).area 0 =
        (s.ctx i).cutArea total ((s.ctx i).area 0) := by
      rw [second.other 0 (by decide), first.own, halfCut_congr core, cut, halfCut_trimmed recorded]
    refine ⟨area, fun n window set unset asked => (cutHalfTest_tells ..).charged ?_⟩
    have charged := first.charged n
    rw [kept 0 set unset, mask, first.own, halfCut_congr core, cut, halfCut_trimmed recorded] at charged
    exact charged window set unset asked
  · have area : ((((trimmed s i).cutHalfTest i 0).cutHalfTest i 1).ctx i).area 1 =
        (s.ctx i).cutArea total ((s.ctx i).area 1) := by
      rw [second.own, halfCut_congr coreThen, first.other 1 (by decide), cut, halfCut_trimmed recorded]
    refine ⟨area, fun n window set unset asked => ?_⟩
    have charged := second.charged n
    rw [area, first.other 1 (by decide), kept 1 set unset, maskThen] at charged
    exact charged window set unset asked

end Sys2Proof.SegmentIntake
end

section
/-! The commit of a DATA segment (R39, R81): the statement O28. -/

namespace Sys2Proof.SegmentIntake

open Sys2Proof Sys2Proof.Machine Sys2Proof.Laws Sys2Proof.Contexts

/-! ## What a re-evaluation keeps of staging -/

/-- Two stagings of the same records but for the records' states. -/
structure SameRoom (s t : State) : Prop where
  used : ∀ k, blockUsed t.staging.pool k = blockUsed s.staging.pool k
  blocks : blocksIn t.staging.pool = blocksIn s.staging.pool
  length : t.staging.pool.length = s.staging.pool.length
  payload : t.staging.payload = s.staging.payload
  freeBlocks : t.staging.freeBlocks = s.staging.freeBlocks
  freeRecords : t.staging.freeRecords = s.staging.freeRecords
  constrained : t.staging.constrained = s.staging.constrained

theorem sameRoom_of_same {s t : State} (h : t.staging = s.staging) : SameRoom s t := by
  constructor <;> intros <;> rw [h]

theorem SameRoom.trans {s t u : State} (h : SameRoom s t) (g : SameRoom t u) : SameRoom s u where
  used k := (g.used k).trans (h.used k)
  blocks := g.blocks.trans h.blocks
  length := g.length.trans h.length
  payload := g.payload.trans h.payload
  freeBlocks := g.freeBlocks.trans h.freeBlocks
  freeRecords := g.freeRecords.trans h.freeRecords
  constrained := g.constrained.trans h.constrained

theorem sameRoom_rejudge (s : State) (pick : Nat → Bool) : SameRoom s (s.rejudge pick) where
  used k := by
    show List.any (List.map _ _) _ = _
    rw [List.any_map]
    refine congrArg (fun f => List.any s.staging.pool f) (funext fun e => ?_)
    dsimp only [Function.comp]
    split <;> rfl
  blocks := by
    show (List.map _ (List.map _ _)).sum = _
    rw [List.map_map]
    refine congrArg (fun f => (List.map f s.staging.pool).sum) (funext fun e => ?_)
    dsimp only [Function.comp]
    split <;> rfl
  length := List.length_map ..
  payload := rfl
  freeBlocks := rfl
  freeRecords := rfl
  constrained := rfl

theorem sameRoom_trimAreas (s : State) (i : Nat) : SameRoom s (s.trimAreas i) := by
  have trim : SameRoom s (trimmed s i) :=
    SameRoom.trans (t := s.modCtx i areasTrimmed) (sameRoom_of_same rfl)
      (sameRoom_rejudge (s.modCtx i areasTrimmed) (· == i))
  exact trim.trans (sameRoom_of_same (trimAreas_staging s i))

/-! ## Extents, digest and total (R39, steps 1 to 3) -/

/-- An end segment of a context with no total implies it (R39). -/
def implies (c : Ctx) (g : DataSegment) : Bool := decide (g.length.toNat % 4 ≠ 0) && c.total == .absent

/-- The new ranges in the extents and their contributions in the digest. -/
def gathered (s : State) (i : Nat) (g : DataSegment) : State :=
  s.modCtx i fun c => c.received (c.newRangesOf g) (c.piecesFor g)

/-- The total implied, before it cuts the areas. -/
def totalled (s : State) (i : Nat) (g : DataSegment) : State :=
  (gathered s i g).modCtx i fun c => { c with total := .implied (DataSegment.stop g) }

/-- The state the record of the segment is staged in. -/
def gatheredWhole (s : State) (i : Nat) (g : DataSegment) : State := (gathered s i g).implyTotal i g

theorem commit_eq (s : State) (i : Nat) (g : DataSegment) : s.commit i g =
    ((gatheredWhole s i g).stage i (DataSegment.start g) g.payload ((s.ctx i).piecesFor g)).revive i := rfl

section
variable (s : State) (i : Nat) (g : DataSegment)

theorem gathered_ctx (j : Nat) : (gathered s i g).ctx j =
    if j = i then (s.ctx i).received ((s.ctx i).newRangesOf g) ((s.ctx i).piecesFor g) else s.ctx j :=
  ctx_modCtx s i j fun c => c.received (c.newRangesOf g) (c.piecesFor g)

theorem totalled_ctx (j : Nat) : (totalled s i g).ctx j =
    if j = i then
      { (s.ctx i).received ((s.ctx i).newRangesOf g) ((s.ctx i).piecesFor g) with
        total := .implied (DataSegment.stop g) }
    else s.ctx j := by
  unfold totalled
  rw [ctx_modCtx, gathered_ctx, gathered_ctx]
  split
  · rw [if_pos rfl]
  · rfl

theorem gatheredWhole_eq : gatheredWhole s i g =
    if implies (s.ctx i) g then (totalled s i g).trimAreas i else gathered s i g := by
  have total : ((gathered s i g).ctx i).total = (s.ctx i).total := by rw [gathered_ctx, if_pos rfl]; rfl
  have asked : (DataSegment.isEnd g = true ∧ ((gathered s i g).ctx i).total = .absent) ↔ implies (s.ctx i) g = true := by
    rw [total, isEnd_iff]
    simp [implies]
  unfold gatheredWhole State.implyTotal
  exact if_congr asked rfl rfl

theorem gatheredWhole_others {j : Nat} (other : j ≠ i) : (gatheredWhole s i g).ctx j = s.ctx j := by
  rw [gatheredWhole_eq]
  split
  · rw [trimAreas_others _ _ other, totalled_ctx, if_neg other]
  · rw [gathered_ctx, if_neg other]

theorem gatheredWhole_record : (gatheredWhole s i g).ctx i =
    { s.ctx i with
      extents := insertExtents ((s.ctx i).newRangesOf g) (s.ctx i).extents
      digest := (s.ctx i).digest.add (contributionSum ((s.ctx i).piecesFor g))
      total := if implies (s.ctx i) g then .implied (DataSegment.stop g) else (s.ctx i).total
      area0 := ((gatheredWhole s i g).ctx i).area0, area1 := ((gatheredWhole s i g).ctx i).area1
      owed := ((gatheredWhole s i g).ctx i).owed } := by
  rw [gatheredWhole_eq]
  by_cases h : implies (s.ctx i) g = true
  · have record := trimAreas_record (totalled s i g) i
    have total := (totalled_ctx s i g i).trans (if_pos rfl)
    rw [if_pos h, if_pos h]
    rw [total] at record
    exact record
  · rw [if_neg h, if_neg h, gathered_ctx, if_pos rfl]
    rfl

theorem gatheredWhole_frame : (gatheredWhole s i g).intake = s.intake ∧ (gatheredWhole s i g).map = s.map ∧
    (gatheredWhole s i g).delivery = s.delivery ∧ (gatheredWhole s i g).actions = s.actions ∧
    (gatheredWhole s i g).groups = s.groups ∧ (gatheredWhole s i g).verify = s.verify ∧
    (gatheredWhole s i g).command = s.command ∧ (gatheredWhole s i g).resets = s.resets := by
  rw [gatheredWhole_eq]
  split
  · simp [trimAreas_eq, totalled, gathered, trimmed]
  · simp [gathered]

theorem gatheredWhole_room : SameRoom s (gatheredWhole s i g) := by
  rw [gatheredWhole_eq]
  split
  · exact SameRoom.trans (t := totalled s i g) (sameRoom_of_same rfl) (sameRoom_trimAreas ..)
  · exact sameRoom_of_same rfl

theorem gatheredWhole_staged (r : Nat) : (gatheredWhole s i g).staged r =
    (s.staged r).map ((gatheredWhole s i g).judgedAgain fun k => k == i && implies (s.ctx i) g) := by
  rw [gatheredWhole_eq]
  by_cases h : implies (s.ctx i) g = true
  · have before : (totalled s i g).staged r = s.staged r := rfl
    have pick : (fun k => k == i && implies (s.ctx i) g) = (· == i) := by funext k; rw [h, Bool.and_true]
    rw [if_pos h, trimAreas_staged, before, pick]
  · have before : (gathered s i g).staged r = s.staged r := rfl
    have stays : ((gathered s i g).judgedAgain fun k => k == i && implies (s.ctx i) g) = id := by
      funext rec
      exact judgedAgain_of_not (by simp [h])
    rw [if_neg h, before, stays, Option.map_id_apply]

/-- With no total implied the areas, the queue and what is owed stay. -/
theorem gatheredWhole_quiet (h : implies (s.ctx i) g = false) :
    ((gatheredWhole s i g).ctx i).area0 = (s.ctx i).area0 ∧ ((gatheredWhole s i g).ctx i).area1 = (s.ctx i).area1 ∧
      NoNotice s (gatheredWhole s i g) i := by
  rw [gatheredWhole_eq, if_neg (by simp [h])]
  unfold NoNotice
  rw [gathered_ctx, if_pos rfl]
  exact ⟨rfl, rfl, rfl, rfl⟩

/-- An implied total cuts the areas. -/
theorem gatheredWhole_cut (h : implies (s.ctx i) g = true)
    (parity : ∀ p n, ((s.ctx i).area p).window = some n → n % 2 = p % 2) {p : Nat} (low : p < 2) :
    CutBy s (gatheredWhole s i g) i (DataSegment.stop g) p := by
  have area : ∀ q, ((totalled s i g).ctx i).area q = (s.ctx i).area q := fun q => by
    rw [totalled_ctx, if_pos rfl]; rfl
  have mask : (totalled s i g).effMask i = s.effMask i := by
    refine effMask_congr (s := s) (t := totalled s i g) rfl (fun j => ?_) i
    rw [totalled_ctx]
    split
    · next e => rw [e]; exact ⟨rfl, rfl⟩
    · exact ⟨rfl, rfl⟩
  have cutArea : ∀ a, ((totalled s i g).ctx i).cutArea (DataSegment.stop g) a =
      (s.ctx i).cutArea (DataSegment.stop g) a := fun a => by rw [totalled_ctx, if_pos rfl]; rfl
  obtain ⟨cut, charged⟩ := trimAreas_cut (s := totalled s i g) (i := i) (total := DataSegment.stop g)
    (by rw [totalled_ctx, if_pos rfl]; rfl) (fun p n => by rw [area]; exact parity p n) low
  rw [gatheredWhole_eq, if_pos h]
  rw [area, cutArea] at cut
  simp only [area, cutArea, mask] at charged
  exact ⟨cut, charged⟩

end

/-! ## Staging (R39, step 4) -/

section
variable (s : State) (i offset : Nat) (payload : List Byte) (pieces : List Piece)

/-- The record a payload is staged in. -/
def stagedRecord : StagedRecord :=
  { owner := i, offset := offset, length := payload.length, blocks := s.staging.lowestBlocks (blocksFor payload.length)
    pieces := pieces, state := if s.eligible i pieces then .eligible else .parked }

theorem stage_ctx (j : Nat) : (s.stage i offset payload pieces).ctx j =
    if j = i then
      { s.ctx i with
        staged := (s.ctx i).staged ++ [s.staging.lowestRecord]
        blocksHeld := (s.ctx i).blocksHeld + blocksFor payload.length }
    else s.ctx j :=
  ctx_modCtx s i j fun c =>
    { c with
      staged := c.staged ++ [s.staging.lowestRecord], blocksHeld := c.blocksHeld + blocksFor payload.length }

theorem stage_staged (q : Nat) : (s.stage i offset payload pieces).staged q =
    if q = s.staging.lowestRecord then some (stagedRecord s i offset payload pieces) else s.staged q := by
  have inserted : (s.stage i offset payload pieces).staged q = Table.lookup
      (Table.insert s.staging.lowestRecord (stagedRecord s i offset payload pieces) s.staging.pool) q := rfl
  rw [inserted]
  by_cases e : q = s.staging.lowestRecord
  · rw [if_pos e, e, lookup_insert_same]
  · rw [if_neg e, lookup_insert_other _ _ e]
    rfl

end

theorem revive_tells (s : State) (i : Nat) : Tells (fun m => m = .resumed i) s (s.revive i) := by
  have same : Tells (fun m => m = .resumed i) s (s.modCtx i revived) := tells_modCtx s i (f := revived) fun _ => rfl
  rw [revive_eq]
  split
  · exact same.trans (tells_notifyMasked ..)
  · exact same

/-! ## The commit -/

section
variable (s : State) (i : Nat) (g : DataSegment)

/-- The record of a committed context. -/
theorem commit_record : (s.commit i g).ctx i =
    { s.ctx i with
      state := .active, timer := fullStall (s.ctx i).stallSelect, damaged := 0
      extents := insertExtents ((s.ctx i).newRangesOf g) (s.ctx i).extents
      digest := (s.ctx i).digest.add (contributionSum ((s.ctx i).piecesFor g))
      total := if implies (s.ctx i) g then .implied (DataSegment.stop g) else (s.ctx i).total
      blocksHeld := (s.ctx i).blocksHeld + blocksFor g.payload.length
      staged := (s.ctx i).staged ++ [(gatheredWhole s i g).staging.lowestRecord]
      area0 := ((gatheredWhole s i g).ctx i).area0, area1 := ((gatheredWhole s i g).ctx i).area1
      owed := ((s.commit i g).ctx i).owed } := by
  rw [commit_eq, (revive_kept _ i).1, stage_ctx, if_pos rfl, gatheredWhole_record]
  rfl

theorem commit_area (p : Nat) : ((s.commit i g).ctx i).area p = ((gatheredWhole s i g).ctx i).area p := by
  rw [commit_record]
  rfl

theorem commit_others {j : Nat} (other : j ≠ i) : (s.commit i g).ctx j = s.ctx j := by
  rw [commit_eq, (revive_kept _ i).2.2 j other, stage_ctx, if_neg other, gatheredWhole_others _ _ _ other]

theorem commit_staging : (s.commit i g).staging = ((gatheredWhole s i g).stage i (DataSegment.start g) g.payload
    ((s.ctx i).piecesFor g)).staging := by
  rw [commit_eq]
  exact (revive_frame _ i).2.2.1

theorem commit_frame : (s.commit i g).intake = s.intake ∧ (s.commit i g).map = s.map ∧
    (s.commit i g).delivery = s.delivery ∧ (s.commit i g).actions = s.actions ∧
    (s.commit i g).groups = s.groups ∧ (s.commit i g).verify = s.verify ∧
    (s.commit i g).command = s.command ∧ (s.commit i g).resets = s.resets := by
  obtain ⟨intake, map, delivery, actions, groups, verify, command, resets⟩ := gatheredWhole_frame s i g
  rw [commit_eq]
  simp [intake, map, delivery, actions, groups, verify, command, resets]

theorem gatheredWhole_holdFields (j : Nat) : holdFields ((gatheredWhole s i g).ctx j) = holdFields (s.ctx j) := by
  by_cases own : j = i
  · rw [own, gatheredWhole_record]; rfl
  · rw [gatheredWhole_others s i g own]

/-- The commit judges as the state it stages the record in. -/
theorem commit_judgesAlike (j : Nat) : JudgesAlike (gatheredWhole s i g) (s.commit i g) j where
  areas n := by
    by_cases own : j = i
    · rw [own, commit_record]; exact ⟨rfl, rfl⟩
    · rw [commit_others s i g own, gatheredWhole_others s i g own]; exact ⟨rfl, rfl⟩
  hold := by
    obtain ⟨_, _, _, actions, groups, _⟩ := commit_frame s i g
    obtain ⟨_, _, _, actions', groups', _⟩ := gatheredWhole_frame s i g
    refine effHold_congr (groups.trans groups'.symm) (actions.trans actions'.symm) (fun k => ?_) j
    rw [gatheredWhole_holdFields]
    by_cases own : k = i
    · rw [own, commit_record]; rfl
    · rw [commit_others s i g own]
  fence := by
    by_cases own : j = i
    · rw [own, commit_record, gatheredWhole_record]
    · rw [commit_others s i g own, gatheredWhole_others s i g own]

/-- What the staging and the revival tell (R139). -/
theorem commit_tells : Tells (fun m => m = .resumed i) (gatheredWhole s i g) (s.commit i g) := by
  refine Tells.trans (t := (gatheredWhole s i g).stage i (DataSegment.start g) g.payload ((s.ctx i).piecesFor g))
    (tells_of_same rfl fun j => ?_) (revive_tells ..)
  rw [stage_ctx]
  split
  · next e => rw [e]
  · rfl

/-- RESUMED goes out for a STALLED context whose mask holds it, after what the cut of the areas told (R139). -/
theorem commit_resumed :
    if (s.ctx i).state = .stalled ∧ (s.effMask i).resumed = true then
      NoticeGiven (gatheredWhole s i g) (s.commit i g) i .resumed (.resumed i)
    else NoNotice (gatheredWhole s i g) (s.commit i g) i := by
  let v := (gatheredWhole s i g).stage i (DataSegment.start g) g.payload ((s.ctx i).piecesFor g)
  have record : v.ctx i =
      { (gatheredWhole s i g).ctx i with
        staged := ((gatheredWhole s i g).ctx i).staged ++ [(gatheredWhole s i g).staging.lowestRecord]
        blocksHeld := ((gatheredWhole s i g).ctx i).blocksHeld + blocksFor g.payload.length } :=
    (stage_ctx ..).trans (if_pos rfl)
  have state : (v.ctx i).state = (s.ctx i).state := by rw [record, gatheredWhole_record]
  have owed : (v.ctx i).owed = ((gatheredWhole s i g).ctx i).owed := by rw [record]
  have mask : v.effMask i = s.effMask i := by
    obtain ⟨_, _, _, _, groups, _⟩ := gatheredWhole_frame s i g
    refine effMask_congr (t := v) groups (fun j => ?_) i
    by_cases own : j = i
    · rw [own, record, gatheredWhole_record]; exact ⟨rfl, rfl⟩
    · have other : v.ctx j = (gatheredWhole s i g).ctx j := (stage_ctx ..).trans (if_neg own)
      rw [other, gatheredWhole_others s i g own]
      exact ⟨rfl, rfl⟩
  have told := (revive_kept v i).2.1
  unfold NoticeGiven NoNotice at told ⊢
  rw [state, mask, owed] at told
  exact told

/-- The records after a commit: the new one, and the others judged again where the total was implied. -/
theorem commit_staged (q : Nat) : (s.commit i g).staged q =
    if q = (gatheredWhole s i g).staging.lowestRecord then
      some (stagedRecord (gatheredWhole s i g) i (DataSegment.start g) g.payload ((s.ctx i).piecesFor g))
    else (s.staged q).map ((s.commit i g).judgedAgain fun k => k == i && implies (s.ctx i) g) := by
  have staging : (s.commit i g).staged q = ((gatheredWhole s i g).stage i (DataSegment.start g) g.payload
      ((s.ctx i).piecesFor g)).staged q := by
    unfold State.staged
    rw [commit_staging]
  have judged : (s.commit i g).judgedAgain (fun k => k == i && implies (s.ctx i) g) =
      (gatheredWhole s i g).judgedAgain fun k => k == i && implies (s.ctx i) g := by
    funext rec
    exact (commit_judgesAlike s i g rec.owner).judgedAgain _
  rw [staging, stage_staged, gatheredWhole_staged, judged]

end

/-- The staging stage lets a record through (R38). -/
theorem stagingRefusal_none {s : State} {i : Nat} {g : DataSegment} {pieces : List Piece}
    (quota : (s.ctx i).blocksHeld + (g.length.toNat + 2047) / 2048 ≤ (s.ctx i).quota)
    (blocks : (g.length.toNat + 2047) / 2048 ≤ s.staging.freeBlocks) (records : 1 ≤ s.staging.freeRecords)
    (mode : s.staging.constrained = false ∨ s.eligible i pieces = true) : s.stagingRefusal i g pieces = none := by
  rw [stagingRefusal_eq, if_neg (by omega), if_neg (by omega), if_neg]
  rintro ⟨constrained, parked⟩
  rcases mode with free | fits
  · rw [free] at constrained; exact Bool.noConfusion constrained
  · rw [fits] at parked; exact Bool.noConfusion parked

theorem rangeStage_of_accepted {s : State} {i : Nat} {g : DataSegment} (range : (s.ctx i).rangeRefusal g = none)
    (new : (s.ctx i).newRangesOf g ≠ []) (limit : countAfter (s.ctx i).extents ((s.ctx i).newRangesOf g) ≤ 24)
    (staging : s.stagingRefusal i g ((s.ctx i).piecesFor g) = none) :
    s.rangeStage i g = (s.commit i g).answer i .accepted := by
  have within : ¬Config.extentLimit < countAfter (s.ctx i).extents ((s.ctx i).newRangesOf g) := by
    show ¬24 < _
    omega
  unfold State.rangeStage State.trimStage
  rw [range]
  dsimp only
  rw [if_neg (by simpa using new), if_neg within, staging]

theorem length_payload {g : DataSegment} (shape : DataSegment.wellShaped g = true) : g.payload.length = g.length.toNat := by
  simp only [DataSegment.wellShaped, Bool.and_eq_true, beq_iff_eq] at shape
  exact shape.2

/-- What a staged record holds, by the room there was (R80, R81). -/
structure LowestBlocks (before : Staging) (blocks : List Nat) (n : Nat) : Prop where
  length : blocks.length = n
  free : ∀ k ∈ blocks, blockUsed before.pool k = false
  rising : blocks.Pairwise fun a b => a < b
  lowest : ∀ k, ∀ b ∈ blocks, k < b → blockUsed before.pool k = false → k ∈ blocks

theorem lowestBlocks_lowest {s v : State} (room : SameRoom s v) (conserved : StagingConserved s) {n : Nat}
    (fits : n ≤ s.staging.freeBlocks) : LowestBlocks s.staging (v.staging.lowestBlocks n) n where
  length := by
    refine length_lowestBlocks ?_
    rw [room.blocks, ← conserved.blocks]
    omega
  free k mem := by
    rw [← room.used]
    exact (lowestFree_unused mem).2
  rising := lowestFree_rising ..
  lowest k b mem below free := by
    rw [← room.used] at free
    exact mem_lowestFree_of_lt mem k.zero_le below free

theorem constrainedAfter_eq (mode : Bool) (free : Nat) :
    constrainedAfter mode free = decide (free < if mode then 1024 else 512) := by
  unfold constrainedAfter
  cases mode <;> rfl

end Sys2Proof.SegmentIntake
end

section
/-! An accepted DATA segment is committed whole (R39): the statement O28. -/

namespace Sys2Proof.SegmentIntake

open Sys2Proof Sys2Proof.Machine Sys2Proof.Laws Sys2Proof.Contexts

theorem Alike.sameRoom {s u : State} (h : Alike s u) : SameRoom s u := sameRoom_of_same h.staging

/-- The number of blocks of a payload, as the statements write it. -/
theorem blocksFor_payload {g : DataSegment} (shape : DataSegment.wellShaped g = true) :
    blocksFor g.payload.length = (g.length.toNat + 2047) / 2048 := by
  rw [length_payload shape]
  rfl

theorem CutBy.areaCut {s t : State} {i total p : Nat} (h : CutBy s t i total p) : AreaCut s t i total p :=
  ⟨.inl h.area, h.charged⟩

theorem CutBy.of_alike {s u t : State} (alike : Alike s u) {i total p : Nat} (h : CutBy u t i total p) :
    CutBy s t i total p := by
  obtain ⟨area, charged⟩ := h
  rw [alike.ctx] at area charged
  rw [alike.effMask] at charged
  exact ⟨area, charged⟩

/-- The areas stay cut where they stay, and what was told stays told. -/
theorem CutBy.later {s v t : State} {i total p : Nat} {P : Notice → Prop} (h : CutBy s v i total p)
    (area : (t.ctx i).area p = (v.ctx i).area p) (tells : Tells P v t) : CutBy s t i total p where
  area := area.trans h.area
  charged n window set unset asked := tells.charged (h.charged n window set unset asked)

section
variable {s u : State} {i : Nat} {g : DataSegment}

/-- What a commit tells where a total is implied, and where none is. -/
theorem commit_told (alike : Alike s u) :
    if implies (s.ctx i) g = true then
      ((s.ctx i).state = .stalled ∧ (s.effMask i).resumed = true → Charged (u.commit i g) i .resumed (.resumed i)) ∧
        (ExtentsSafe s → ∀ p, p < 2 → AreaCut s (u.commit i g) i (g.offset.toNat + g.length.toNat) p)
    else
      ((u.commit i g).ctx i).area0 = (s.ctx i).area0 ∧ ((u.commit i g).ctx i).area1 = (s.ctx i).area1 ∧
        ((s.ctx i).state = .stalled ∧ (s.effMask i).resumed = true →
          NoticeGiven s (u.commit i g) i .resumed (.resumed i)) ∧
        (¬((s.ctx i).state = .stalled ∧ (s.effMask i).resumed = true) → NoNotice s (u.commit i g) i) := by
  have resumed := commit_resumed u i g
  rw [alike.ctx, alike.effMask] at resumed
  by_cases implied : implies (s.ctx i) g = true
  · rw [if_pos implied]
    refine ⟨fun resumes => ?_, fun safe p low => ?_⟩
    · rw [if_pos resumes] at resumed
      exact charged_of_given resumed
    · have cut := gatheredWhole_cut u i g (by rw [alike.ctx]; exact implied)
        (fun p n => by rw [alike.ctx]; exact safe.parity i p n) low
      exact ((cut.later (commit_area u i g p) (commit_tells u i g)).of_alike alike).areaCut
  · rw [if_neg implied]
    obtain ⟨area0, area1, notice, owed⟩ := gatheredWhole_quiet u i g (by rw [alike.ctx]; simpa using implied)
    rw [alike.ctx] at area0 area1 owed
    have first := commit_area u i g 0
    have second := commit_area u i g 1
    refine ⟨first.trans area0, second.trans area1, fun resumes => ?_, fun stays => ?_⟩
    · rw [if_pos resumes] at resumed
      unfold NoticeGiven at resumed ⊢
      rw [notice, owed, alike.notice] at resumed
      exact resumed
    · rw [if_neg stays] at resumed
      exact ⟨resumed.1.trans (notice.trans alike.notice), resumed.2.trans owed⟩

/-- Settles O28: behind a signal stage that changes nothing, the segment is committed in a state that reads as the one
before, and the disposition returned. -/
theorem acceptedDataIsCommitted : Obligations.AcceptedDataIsCommitted := by
  intro s g i taking conserved shape found running tally level range new limit quota blocks records mode
  obtain ⟨alike, _⟩ := signalStage_alike level
  generalize hu : (s.signalStage i g.signal).1 = u at alike
  have c : u.ctx i = s.ctx i := alike.ctx i
  have accepted : s.takeData g = (u.commit i g).answer i .accepted := by
    rw [takeData_of_found taking shape found, dataStages_of_matching running tally, hu]
    refine rangeStage_of_accepted (by rw [c]; exact range) (by rw [c]; exact new) (by rw [c]; exact limit) ?_
    rw [alike.stagingRefusal, c]
    exact stagingRefusal_none quota blocks records mode
  have room : SameRoom s (gatheredWhole u i g) := alike.sameRoom.trans (gatheredWhole_room u i g)
  have count := blocksFor_payload shape
  have record := commit_record u i g
  obtain ⟨intake, map, delivery, actions, groups, verify, command, resets⟩ := commit_frame u i g
  have staged := commit_staged u i g
  have staging := commit_staging u i g
  have lowest := lowestBlocks_lowest room conserved (n := blocksFor g.payload.length) (by rw [count]; exact blocks)
  obtain ⟨vacant, taken⟩ := lowestRecord_free (t := (gatheredWhole u i g).staging) (by
    have := conserved.records
    rw [room.length]
    omega)
  have before : ∀ q, Table.lookup (gatheredWhole u i g).staging.pool q = none ↔ s.staged q = none := fun q => by
    have same := gatheredWhole_staged u i g q
    rw [alike.staged] at same
    show (gatheredWhole u i g).staged q = none ↔ _
    rw [same]
    exact Option.map_eq_none_iff
  have told := commit_told (i := i) (g := g) alike
  have areas : ((gatheredWhole u i g).ctx i).area0 = ((u.commit i g).ctx i).area0 ∧
      ((gatheredWhole u i g).ctx i).area1 = ((u.commit i g).ctx i).area1 :=
    ⟨(commit_area u i g 0).symm, (commit_area u i g 1).symm⟩
  have others : ∀ j, j ≠ i → (u.commit i g).ctx j = s.ctx j := fun j other =>
    (commit_others u i g other).trans (alike.ctx j)
  have judges := commit_judgesAlike u i g i
  have exec := (exec_data_idle taking g).trans (by rw [accepted])
  rw [areas.1, areas.2, c, count] at record
  simp only [c, alike.staged] at staged
  generalize u.commit i g = w at *
  generalize gatheredWhole u i g = v at *
  have payload : w.staging.payload =
      storePayload (v.staging.lowestBlocks (blocksFor g.payload.length)) g.payload s.staging.payload := by
    rw [staging, ← room.payload]
    rfl
  have once : (v.staging.lowestBlocks (blocksFor g.payload.length)).Nodup := lowest.rising.imp Nat.ne_of_lt
  refine ⟨(w.answer i .accepted).returned g.link g.handle 1, v.staging.lowestRecord,
    stagedRecord v i (DataSegment.start g) g.payload ((s.ctx i).piecesFor g), exec, returned_lane .., rfl,
    returned_intake _ _ _ _ (intake.trans alike.intake), record, told, (before _).1 vacant,
    fun q below empty => taken q below ((before q).2 empty), (staged _).trans (if_pos rfl), rfl, rfl,
    length_payload shape, rfl, lowest.length.trans count, lowest.free, lowest.rising, lowest.lowest, ?_, ?_, ?_, ?_, ?_, ?_,
    fun q other => (staged q).trans (if_neg other), others, map.trans alike.map, delivery.trans alike.delivery,
    groups.trans alike.groups, verify.trans alike.verify, command.trans alike.command, resets.trans alike.resets⟩
  · have read := readPayload_storePayload once g.payload s.staging.payload (by
      rw [lowest.length, count, length_payload shape]
      omega)
    rw [← length_payload shape]
    rw [← payload] at read
    exact read
  · intro a outside
    show readByte w.staging.payload a = _
    rw [payload]
    exact readByte_storePayload_outside _ _ _ outside
  · exact (eligible_fitState v (stagedRecord v i (DataSegment.start g) g.payload ((s.ctx i).piecesFor g))).trans
      (JudgesAlike.fitState (rec := stagedRecord v i _ _ _) judges).symm
  · rw [← count, ← room.freeBlocks]
    exact congrArg Staging.freeBlocks staging
  · rw [← room.freeRecords]
    exact congrArg Staging.freeRecords staging
  · have mode := (congrArg Staging.constrained staging).trans (constrainedAfter_eq ..)
    have free : w.staging.freeBlocks = v.staging.freeBlocks - blocksFor g.payload.length :=
      congrArg Staging.freeBlocks staging
    rw [← free, room.constrained] at mode
    exact mode

end

end Sys2Proof.SegmentIntake
end

section
/-! Retirement with a manifest's total recorded (R104 to R106), on the context's own record. -/

namespace Sys2Proof.SegmentIntake

open Sys2Proof Sys2Proof.Machine Sys2Proof.Laws Sys2Proof.Contexts

/-! ## The first extent cut (R59) -/

section
variable {e : Extent} {es : List Extent} {stop : Nat}

theorem cutFirst_cons (e : Extent) (es : List Extent) (stop : Nat) :
    cutFirst (e :: es) stop = if e.stop ≤ stop then es else ⟨stop, e.stop⟩ :: es := rfl

theorem ordered_tail (h : Ordered (e :: es)) : Ordered es :=
  ⟨fun x mem => h.1 x (List.mem_cons_of_mem _ mem), (List.pairwise_cons.1 h.2).2⟩

/-- The extents behind the first start above its end. -/
theorem ordered_behind (h : Ordered (e :: es)) {x : Extent} (mem : x ∈ es) : e.stop < x.start :=
  (List.pairwise_cons.1 h.2).1 x mem

theorem ordered_cutFirst (h : Ordered (e :: es)) : Ordered (cutFirst (e :: es) stop) := by
  rw [cutFirst_cons]
  split
  · exact ordered_tail h
  · next inside =>
    refine ⟨fun x mem => ?_, List.pairwise_cons.2 ⟨fun x mem => ordered_behind h mem, (ordered_tail h).2⟩⟩
    rcases List.mem_cons.1 mem with rfl | mem
    · exact Nat.lt_of_not_le inside
    · exact (ordered_tail h).1 x mem

/-- What is left starts at the cut or above. -/
theorem above_cutFirst (h : Ordered (e :: es)) (reaches : stop ≤ e.stop) {x : Extent}
    (mem : x ∈ cutFirst (e :: es) stop) : stop ≤ x.start := by
  rw [cutFirst_cons] at mem
  split at mem
  · have := ordered_behind h mem
    omega
  · rcases List.mem_cons.1 mem with rfl | mem
    · exact le_rfl
    · have := ordered_behind h mem
      omega

/-- The bytes left covered are those at the cut or above. -/
theorem covered_cutFirst (h : Ordered (e :: es)) (starts : e.start ≤ stop) (reaches : stop ≤ e.stop) (x : Nat) :
    Covered (cutFirst (e :: es) stop) x ↔ Covered (e :: es) x ∧ stop ≤ x := by
  constructor
  · rintro ⟨r, mem, low, high⟩
    have above := above_cutFirst h reaches mem
    refine ⟨?_, by omega⟩
    rw [cutFirst_cons] at mem
    split at mem
    · exact ⟨r, List.mem_cons_of_mem _ mem, low, high⟩
    · rcases List.mem_cons.1 mem with rfl | mem
      · exact ⟨e, List.mem_cons_self, by dsimp only at low; omega, high⟩
      · exact ⟨r, List.mem_cons_of_mem _ mem, low, high⟩
  · rintro ⟨⟨r, mem, low, high⟩, above⟩
    rw [cutFirst_cons]
    rcases List.mem_cons.1 mem with rfl | mem
    · rw [if_neg (by omega)]
      exact ⟨_, List.mem_cons_self, above, high⟩
    · split
      · exact ⟨r, mem, low, high⟩
      · exact ⟨r, List.mem_cons_of_mem _ mem, low, high⟩

/-- The cut keeps the contiguous edge (R59). -/
theorem edge_cutFirst (h : Ordered (e :: es)) (reaches : stop ≤ e.stop) :
    contiguousEdge stop (cutFirst (e :: es) stop) = e.stop := by
  rw [cutFirst_cons]
  split
  · next all =>
    have same : stop = e.stop := by omega
    cases es with
    | nil => exact same
    | cons r rs =>
      have behind := ordered_behind h (x := r) List.mem_cons_self
      unfold contiguousEdge
      dsimp only
      rw [if_neg (by omega), same]
  · unfold contiguousEdge
    exact if_pos rfl

end

/-! ## A context that evaluates retirement -/

/-- A running context with a manifest's total, its retired edge at a window's start or at the total, and its extents above
the retired edge. -/
structure Standing (c : Ctx) (total : Nat) (d : Tally) : Prop where
  running : c.receiving = true
  recorded : c.total = .manifest total d
  aligned : c.retired = total ∨ c.retired = c.retired / c.w * c.w
  bound : c.retired ≤ total
  ordered : Ordered c.extents
  above : ∀ e ∈ c.extents, c.retired ≤ e.start
  parity : ∀ p n, (c.area p).window = some n → n % 2 = p % 2

/-- Window `n` retires next: it starts at the retired edge, below the total, and is whole (R104). -/
def dueAt (c : Ctx) (left : Nat → Bool) (n : Nat) : Prop :=
  c.retired = n * c.w ∧ c.retired ≠ c.endBound ∧ c.whole left n = true

/-- A record after the retirement of window `n` (R106). -/
def advanced (c : Ctx) (n : Nat) : Ctx :=
  { c.setArea n { c.area n with state := .filled } with
    retired := c.windowEnd n, extents := cutFirst c.extents (c.windowEnd n) }

theorem w_pos (c : Ctx) : 0 < c.w := Nat.mul_pos (by decide) (Nat.pow_pos (by decide))

section
variable {c : Ctx} {total : Nat} {d : Tally} {left : Nat → Bool} {n : Nat}

theorem Standing.totalBytes (h : Standing c total d) : c.totalBytes = some total := by
  unfold Ctx.totalBytes; rw [h.recorded]

theorem Standing.endBound (h : Standing c total d) : c.endBound = total := by
  unfold Ctx.endBound; rw [h.totalBytes]; rfl

theorem windowEnd_eq (h : c.totalBytes = some total) (n : Nat) : c.windowEnd n = min ((n + 1) * c.w) total := by
  unfold Ctx.windowEnd; rw [h]; rfl

/-- The end of a window that starts below the total, as the statements write it (R104, condition 3). -/
theorem windowStop_eq (h : c.totalBytes = some total) (low : n * c.w < total) : c.windowStop n = c.windowEnd n := by
  have stop : c.windowStop n =
      if n * c.w < total ∧ total < (n + 1) * c.w then total else (n + 1) * c.w := by
    unfold Ctx.windowStop; rw [h]; rfl
  rw [stop, windowEnd_eq h]
  split
  · next cuts => exact (min_eq_right cuts.2.le).symm
  · next whole => exact (min_eq_left (Nat.le_of_not_lt fun high => whole ⟨low, high⟩)).symm

theorem windowLength_eq (h : c.totalBytes = some total) (low : n * c.w < total) :
    c.windowLength n = c.windowEnd n - n * c.w := by
  have bound : c.endBound = total := by unfold Ctx.endBound; rw [h]; rfl
  have next : (n + 1) * c.w = n * c.w + c.w := Nat.succ_mul ..
  have cuts : c.cutsWindow n = decide (total < (n + 1) * c.w) := by
    unfold Ctx.cutsWindow; rw [h]; simp [low]
  unfold Ctx.windowLength
  rw [cuts, bound, windowEnd_eq h]
  simp only [decide_eq_true_eq]
  split
  · next high => rw [min_eq_right high.le]
  · next high => rw [min_eq_left (Nat.le_of_not_lt high), next, Nat.add_sub_cancel_left]

/-- Conditions 2 to 4 of R104, apart. -/
theorem whole_iff (c : Ctx) (left : Nat → Bool) (n : Nat) : c.whole left n = true ↔
    (c.area n).state = .ready ∧ (c.area n).window = some n ∧
      (∃ e es, c.extents = e :: es ∧ e.start ≤ n * c.w ∧ c.windowStop n ≤ e.stop) ∧ left n = false := by
  unfold Ctx.whole
  cases extents : c.extents with
  | nil => simp
  | cons e es =>
    have own : windowSize c.windowSelect = c.w := rfl
    simp [own, and_assoc]

/-- The first extent of a context whose window at the retired edge is whole. -/
theorem dueAt_first (h : Standing c total d) (due : dueAt c left n) : ∃ e es, c.extents = e :: es ∧
    e.start = c.retired ∧ n * c.w < c.windowEnd n ∧ c.windowEnd n ≤ e.stop ∧ c.windowEnd n ≤ total ∧
    (c.area n).state = .ready ∧ (c.area n).window = some n := by
  obtain ⟨start, unended, whole⟩ := due
  rw [h.endBound] at unended
  have low : n * c.w < total := by have := h.bound; omega
  have next : (n + 1) * c.w = n * c.w + c.w := Nat.succ_mul ..
  have size := w_pos c
  obtain ⟨ready, window, ⟨e, es, extents, starts, reaches⟩, _⟩ := (whole_iff c left n).1 whole
  rw [windowStop_eq h.totalBytes low] at reaches
  have above := h.above e (by rw [extents]; exact List.mem_cons_self)
  refine ⟨e, es, extents, by omega, ?_, reaches, ?_, ready, window⟩ <;> rw [windowEnd_eq h.totalBytes]
  · exact lt_min (by omega) low
  · exact min_le_right ..

theorem advanced_area (c : Ctx) (n p : Nat) :
    (advanced c n).area p = if p % 2 = n % 2 then { c.area n with state := .filled } else c.area p :=
  (congrFun (congrArg Ctx.area rfl) p).trans (area_setArea c n p _)

theorem advanced_w (c : Ctx) (n : Nat) : (advanced c n).w = c.w := by
  show windowSize (c.setArea n _).windowSelect = _
  rw [setArea_windowSelect]
  rfl

theorem advanced_total (c : Ctx) (n : Nat) : (advanced c n).total = c.total := setArea_total ..

theorem advanced_totalBytes (c : Ctx) (n : Nat) : (advanced c n).totalBytes = c.totalBytes := by
  unfold Ctx.totalBytes; rw [advanced_total]

theorem advanced_windowEnd (c : Ctx) (n m : Nat) : (advanced c n).windowEnd m = c.windowEnd m := by
  unfold Ctx.windowEnd; rw [advanced_w, advanced_totalBytes]

/-- A context is standing still after a retirement. -/
theorem Standing.advanced (h : Standing c total d) (due : dueAt c left n) : Standing (advanced c n) total d := by
  obtain ⟨e, es, extents, _, low, reaches, bound, _, window⟩ := dueAt_first h due
  have ordered := h.ordered
  rw [extents] at ordered
  have cut : (SegmentIntake.advanced c n).extents = cutFirst (e :: es) (c.windowEnd n) := by rw [← extents]; rfl
  exact
    { running := by
        have running := h.running
        rw [receiving_iff] at running ⊢
        show (c.setArea n _).state = _ ∨ (c.setArea n _).state = _
        rwa [setArea_state]
      recorded := (advanced_total c n).trans h.recorded
      aligned := by
        rw [advanced_w]
        show c.windowEnd n = total ∨ c.windowEnd n = c.windowEnd n / c.w * c.w
        rw [windowEnd_eq h.totalBytes]
        rcases le_total total ((n + 1) * c.w) with high | high
        · exact .inl (min_eq_right high)
        · rw [min_eq_left high, Nat.mul_div_cancel _ (w_pos c)]
          exact .inr rfl
      bound := bound
      ordered := by rw [cut]; exact ordered_cutFirst ordered
      above := fun x mem => by rw [cut] at mem; exact above_cutFirst ordered reaches mem
      parity := fun p m at_ => by
        rw [advanced_area] at at_
        split at at_
        · next even => rw [even]; exact h.parity n m at_
        · exact h.parity p m at_ }

/-- A retirement keeps the contiguous edge (R59). -/
theorem advanced_edge (h : Standing c total d) (due : dueAt c left n) : (advanced c n).edge = c.edge := by
  obtain ⟨e, es, extents, start, _, reaches, _⟩ := dueAt_first h due
  have ordered := h.ordered
  rw [extents] at ordered
  show contiguousEdge (c.windowEnd n) (cutFirst c.extents (c.windowEnd n)) = contiguousEdge c.retired c.extents
  rw [extents, edge_cutFirst ordered reaches]
  exact (if_pos start).symm

theorem advanced_covered (h : Standing c total d) (due : dueAt c left n) (x : Nat) :
    Covered (advanced c n).extents x ↔ Covered c.extents x ∧ c.windowEnd n ≤ x := by
  obtain ⟨e, es, extents, start, low, reaches, _⟩ := dueAt_first h due
  have ordered := h.ordered
  rw [extents] at ordered
  show Covered (cutFirst c.extents (c.windowEnd n)) x ↔ _
  rw [extents]
  exact covered_cutFirst ordered (by have := due.1; omega) reaches x

/-- The window behind a retired one is whole after its retirement exactly when it was before. -/
theorem advanced_whole (h : Standing c total d) (due : dueAt c left n) (unended : c.windowEnd n ≠ total) :
    (advanced c n).whole left (n + 1) = c.whole left (n + 1) := by
  obtain ⟨e, es, extents, start, low, reaches, bound, _⟩ := dueAt_first h due
  have ordered := h.ordered
  rw [extents] at ordered
  have stop : c.windowEnd n = (n + 1) * c.w := by
    rw [windowEnd_eq h.totalBytes] at unended ⊢
    omega
  have inside : (n + 1) * c.w < total := by omega
  have further : (n + 1) * c.w < c.windowEnd (n + 1) := by
    have next : (n + 1 + 1) * c.w = (n + 1) * c.w + c.w := Nat.succ_mul ..
    have size := w_pos c
    rw [windowEnd_eq h.totalBytes]
    exact lt_min (by omega) inside
  have area : (advanced c n).area (n + 1) = c.area (n + 1) := by rw [advanced_area, if_neg (by omega)]
  have stopSame : (advanced c n).windowStop (n + 1) = c.windowEnd (n + 1) := by
    rw [windowStop_eq ((advanced_totalBytes c n).trans h.totalBytes) (by rw [advanced_w]; exact inside), advanced_windowEnd]
  have cut : (advanced c n).extents = cutFirst (e :: es) (c.windowEnd n) := by rw [← extents]; rfl
  have starts : c.retired = n * c.w := due.1
  have covers : (∃ x xs, (advanced c n).extents = x :: xs ∧ x.start ≤ (n + 1) * c.w ∧ c.windowEnd (n + 1) ≤ x.stop) ↔
      ∃ x xs, c.extents = x :: xs ∧ x.start ≤ (n + 1) * c.w ∧ c.windowEnd (n + 1) ≤ x.stop := by
    rw [cut, extents, cutFirst_cons]
    constructor
    · rintro ⟨x, xs, first, low', high'⟩
      split at first
      · have behind := ordered_behind ordered (x := x) (by rw [first]; exact List.mem_cons_self)
        omega
      · obtain ⟨rfl, rfl⟩ := List.cons.inj first
        exact ⟨e, es, rfl, by omega, high'⟩
    · rintro ⟨x, xs, first, low', high'⟩
      obtain ⟨rfl, rfl⟩ := List.cons.inj first
      rw [if_neg (by omega)]
      exact ⟨_, _, rfl, stop.le, high'⟩
  rw [Bool.eq_iff_iff, whole_iff, whole_iff, area, stopSame, windowStop_eq h.totalBytes inside, advanced_w, covers]

end

end Sys2Proof.SegmentIntake
end

section
/-! Retirement of up to two windows (R105, R106), as the part evaluates it. -/

namespace Sys2Proof.SegmentIntake

open Sys2Proof Sys2Proof.Machine Sys2Proof.Laws Sys2Proof.Contexts

/-! ## One retirement -/

section
variable (s : State) (i n : Nat)

/-- The record of a retirement before its notice. -/
def windowRetired (s : State) (i n : Nat) : State := s.modCtx i fun c => advanced c n

theorem retireWindow_eq : s.retireWindow i n = (windowRetired s i n).notify i .windowFilled
    (.windowFilled i (n % 2) n ((s.ctx i).windowLength n) ((s.ctx i).area n).digest) := by
  unfold State.retireWindow windowRetired State.modCtx
  rfl

theorem windowRetired_ctx (j : Nat) : (windowRetired s i n).ctx j = if j = i then advanced (s.ctx i) n else s.ctx j :=
  ctx_modCtx s i j fun c => advanced c n

theorem retireWindow_record : (s.retireWindow i n).ctx i =
    { advanced (s.ctx i) n with owed := ((s.retireWindow i n).ctx i).owed } := by
  rw [retireWindow_eq, notify_ctx_self, windowRetired_ctx, if_pos rfl]

theorem retireWindow_others {j : Nat} (other : j ≠ i) : (s.retireWindow i n).ctx j = s.ctx j := by
  rw [retireWindow_eq, notify_ctx_other _ _ _ _ other, windowRetired_ctx, if_neg other]

theorem retireWindow_charged : Charged (s.retireWindow i n) i .windowFilled
    (.windowFilled i (n % 2) n ((s.ctx i).windowLength n) ((s.ctx i).area n).digest) := by
  rw [retireWindow_eq]
  exact charged_of_given (notify_given ..)

theorem retireWindow_tells :
    Tells (· = .windowFilled i (n % 2) n ((s.ctx i).windowLength n) ((s.ctx i).area n).digest) s (s.retireWindow i n) := by
  rw [retireWindow_eq]
  refine Tells.trans (t := windowRetired s i n) (tells_of_same rfl fun j => ?_) (tells_notify ..)
  rw [windowRetired_ctx]
  split
  · next e => rw [e]; exact setArea_owed ..
  · rfl

end

/-! ## The windows filled -/

/-- Between two states nothing changed but the records, what is owed, and the queue of notices. -/
structure RecordsOnly (s t : State) : Prop where
  intake : t.intake = s.intake
  map : t.map = s.map
  staging : t.staging = s.staging
  delivery : t.delivery = s.delivery
  actions : t.actions = s.actions
  groups : t.groups = s.groups
  verify : t.verify = s.verify
  command : t.command = s.command
  resets : t.resets = s.resets

theorem recordsOnly_refl (s : State) : RecordsOnly s s := by constructor <;> rfl

theorem RecordsOnly.trans {s t u : State} (h : RecordsOnly s t) (g : RecordsOnly t u) : RecordsOnly s u where
  intake := g.intake.trans h.intake
  map := g.map.trans h.map
  staging := g.staging.trans h.staging
  delivery := g.delivery.trans h.delivery
  actions := g.actions.trans h.actions
  groups := g.groups.trans h.groups
  verify := g.verify.trans h.verify
  command := g.command.trans h.command
  resets := g.resets.trans h.resets

theorem recordsOnly_retireWindow (s : State) (i n : Nat) : RecordsOnly s (s.retireWindow i n) := by
  constructor <;> simp

/-- The WINDOW_FILLED of window `m` of a context (R106). -/
def filledNotice (i : Nat) (c : Ctx) (m : Nat) : Notice :=
  .windowFilled i (m % 2) m (c.windowLength m) (c.area m).digest

/-- Between two states the windows `ms` of context `i` retired, in order, and nothing else happened (R106). -/
structure Filled (v r : State) (i total : Nat) (d : Tally) (ms : List Nat) : Prop where
  standing : Standing (r.ctx i) total d
  keeps : (r.ctx i).edge = (v.ctx i).edge
  record : r.ctx i =
    { v.ctx i with
      retired := (r.ctx i).retired, extents := (r.ctx i).extents, area0 := (r.ctx i).area0, area1 := (r.ctx i).area1
      owed := (r.ctx i).owed }
  others : ∀ j, j ≠ i → r.ctx j = v.ctx j
  rest : RecordsOnly v r
  rises : (v.ctx i).retired ≤ (r.ctx i).retired
  range : ∀ m, m ∈ ms ↔ (v.ctx i).retired ≤ m * (v.ctx i).w ∧ m * (v.ctx i).w < (r.ctx i).retired
  ready : ∀ m ∈ ms, ((v.ctx i).area m).state = .ready ∧ ((v.ctx i).area m).window = some m
  areaFilled : ∀ p m, m ∈ ms → ((v.ctx i).area p).window = some m →
    (r.ctx i).area p = { (v.ctx i).area p with state := .filled }
  areaKept : ∀ p, (∀ m ∈ ms, ((v.ctx i).area p).window ≠ some m) → (r.ctx i).area p = (v.ctx i).area p
  covered : ∀ x, Covered (r.ctx i).extents x ↔ Covered (v.ctx i).extents x ∧ (r.ctx i).retired ≤ x
  told : ∀ m ∈ ms, Charged r i .windowFilled (filledNotice i (v.ctx i) m)
  tells : Tells (fun x => ∃ m ∈ ms, x = filledNotice i (v.ctx i) m) v r

section
variable {v r : State} {i total n : Nat} {d : Tally} {ms : List Nat} {left : Nat → Bool}

theorem filled_nil (standing : Standing (v.ctx i) total d) : Filled v v i total d [] where
  standing := standing
  keeps := rfl
  record := rfl
  others _ _ := rfl
  rest := recordsOnly_refl v
  rises := le_rfl
  range m := by
    refine ⟨nofun, fun h => ?_⟩
    obtain ⟨low, high⟩ := h
    omega
  ready := nofun
  areaFilled := nofun
  areaKept _ _ := rfl
  covered x := by
    refine ⟨fun h => ⟨h, ?_⟩, And.left⟩
    obtain ⟨e, mem, low, _⟩ := h
    exact (standing.above e mem).trans low
  told := nofun
  tells := tells_of_same rfl fun _ => rfl

theorem Filled.w (h : Filled v r i total d ms) : (r.ctx i).w = (v.ctx i).w := by rw [h.record]; rfl

theorem Filled.totalBytes (h : Filled v r i total d ms) : (r.ctx i).totalBytes = (v.ctx i).totalBytes := by
  rw [h.record]; rfl

theorem Filled.windowEnd (h : Filled v r i total d ms) (m : Nat) : (r.ctx i).windowEnd m = (v.ctx i).windowEnd m := by
  rw [h.record]; rfl

theorem Filled.windowLength (h : Filled v r i total d ms) (m : Nat) :
    (r.ctx i).windowLength m = (v.ctx i).windowLength m := by
  rw [h.record]; rfl

theorem area_even (c : Ctx) {p q : Nat} (even : p % 2 = q % 2) : c.area p = c.area q := by unfold Ctx.area; rw [even]

/-- One more retirement. -/
theorem Filled.step (h : Filled v r i total d ms) (parity : ∀ p m, ((v.ctx i).area p).window = some m → m % 2 = p % 2)
    (due : dueAt (r.ctx i) left n) : Filled v (r.retireWindow i n) i total d (ms ++ [n]) := by
  have standing := h.standing
  have w := h.w
  obtain ⟨e, es, extents, start, low, reaches, bound, ready, window⟩ := dueAt_first standing due
  have starts : (r.ctx i).retired = n * (v.ctx i).w := by rw [← w]; exact due.1
  have stop : (r.ctx i).windowEnd n ≤ (n + 1) * (v.ctx i).w := by
    rw [windowEnd_eq standing.totalBytes, w]
    exact min_le_left ..
  rw [w] at low
  have size := w_pos (v.ctx i)
  -- Window `n` did not retire before, so its area still stands as it stood.
  have new : n ∉ ms := fun mem => by
    have := ((h.range n).1 mem).2
    omega
  have areaN : (r.ctx i).area n = (v.ctx i).area n := by
    refine h.areaKept n fun m mem at_ => ?_
    rw [h.areaFilled n m mem at_] at ready
    exact AreaState.noConfusion ready
  rw [areaN] at ready window
  have record := retireWindow_record r i n
  have retired : ((r.retireWindow i n).ctx i).retired = (r.ctx i).windowEnd n := by rw [record]; rfl
  have area : ∀ p, ((r.retireWindow i n).ctx i).area p =
      if p % 2 = n % 2 then { (v.ctx i).area n with state := .filled } else (r.ctx i).area p := fun p => by
    rw [record, ← areaN]
    exact advanced_area (r.ctx i) n p
  have notice : filledNotice i (v.ctx i) n =
      .windowFilled i (n % 2) n ((r.ctx i).windowLength n) ((r.ctx i).area n).digest := by
    rw [areaN, h.windowLength]; rfl
  have tells := retireWindow_tells r i n
  exact
    { standing := by
        have after := standing.advanced due
        rw [record]
        exact ⟨after.running, after.recorded, after.aligned, after.bound, after.ordered, after.above, after.parity⟩
      keeps := by
        rw [record]
        exact (advanced_edge standing due).trans h.keeps
      record := by
        have before := h.record
        generalize (r.retireWindow i n).ctx i = t at record
        generalize r.ctx i = b at record before
        rw [record]
        unfold SegmentIntake.advanced Ctx.setArea
        split <;> rw [before]
      others := fun j other => (retireWindow_others r i n other).trans (h.others j other)
      rest := h.rest.trans (recordsOnly_retireWindow r i n)
      rises := by rw [retired]; have := h.rises; omega
      range := fun m => by
        rw [List.mem_append, List.mem_singleton, h.range m, retired]
        constructor
        · rintro (⟨above, below⟩ | rfl)
          · omega
          · have := h.rises
            omega
        · rintro ⟨above, below⟩
          by_cases before : m * (v.ctx i).w < (r.ctx i).retired
          · exact .inl ⟨above, before⟩
          · refine .inr ?_
            have lower : n ≤ m := Nat.le_of_mul_le_mul_right (by omega) size
            have upper : m < n + 1 := Nat.lt_of_mul_lt_mul_right (a := (v.ctx i).w) (by omega)
            omega
      ready := fun m mem => by
        rcases List.mem_append.1 mem with old | one
        · exact h.ready m old
        · rw [List.mem_singleton.1 one]
          exact ⟨ready, window⟩
      areaFilled := fun p m mem at_ => by
        rw [area]
        split
        · next even => rw [area_even (v.ctx i) even]
        · next odd =>
          rcases List.mem_append.1 mem with old | one
          · exact h.areaFilled p m old at_
          · exact absurd (parity p m at_).symm (by rw [List.mem_singleton.1 one]; exact odd)
      areaKept := fun p none => by
        rw [area, if_neg fun even => none n (List.mem_append_right _ List.mem_cons_self)
          (by rw [area_even (v.ctx i) even]; exact window)]
        exact h.areaKept p fun m mem => none m (List.mem_append_left _ mem)
      covered := fun x => by
        have cut : ((r.retireWindow i n).ctx i).extents = (SegmentIntake.advanced (r.ctx i) n).extents := by rw [record]
        rw [cut, retired, advanced_covered standing due, h.covered, and_assoc]
        refine and_congr_right fun _ => ⟨And.right, fun above => ⟨?_, above⟩⟩
        omega
      told := fun m mem => by
        rcases List.mem_append.1 mem with old | one
        · exact tells.charged (h.told m old)
        · rw [List.mem_singleton.1 one, notice]
          exact retireWindow_charged r i n
      tells := by
        refine (h.tells.mono ?_).trans (tells.mono ?_)
        · rintro x ⟨m, mem, rfl⟩
          exact ⟨m, List.mem_append_left _ mem, rfl⟩
        · rintro x rfl
          exact ⟨n, List.mem_append_right _ List.mem_cons_self, notice.symm⟩ }

/-- What the retirement of some windows says of the context, but for how many they are (R104 to R106). -/
theorem Filled.retires (h : Filled v r i total d ms) (before : Standing (v.ctx i) total d)
    (edge : (r.ctx i).retired =
      let n := (v.ctx i).retired / windowSize (v.ctx i).windowSelect
      if (v.ctx i).receiving = true ∧ (v.ctx i).retired ≠ (v.ctx i).endBound ∧ (v.ctx i).whole left n = true then
        (if (v.ctx i).windowStop n ≠ (v.ctx i).endBound ∧ (v.ctx i).whole left (n + 1) = true then
          (v.ctx i).windowStop (n + 1) else (v.ctx i).windowStop n)
      else (v.ctx i).retired) : Retires v r i (v.ctx i) left := by
  have digest : ∀ p, ((r.ctx i).area p).digest = ((v.ctx i).area p).digest := fun p => by
    by_cases some : ∃ m ∈ ms, ((v.ctx i).area p).window = .some m
    · obtain ⟨m, mem, at_⟩ := some
      rw [h.areaFilled p m mem at_]
    · rw [h.areaKept p fun m mem at_ => some ⟨m, mem, at_⟩]
  have length : ∀ m ∈ ms, (v.ctx i).windowStop m - m * windowSize (v.ctx i).windowSelect = (v.ctx i).windowLength m :=
    fun m mem => by
      have below := ((h.range m).1 mem).2
      have low : m * (v.ctx i).w < total := lt_of_lt_of_le below h.standing.bound
      rw [windowStop_eq before.totalBytes low, windowLength_eq before.totalBytes low]
      rfl
  have notice : ∀ m ∈ ms, filledNotice i (v.ctx i) m = .windowFilled i (m % 2) m
      ((v.ctx i).windowStop m - m * windowSize (v.ctx i).windowSelect) ((r.ctx i).area m).digest := fun m mem => by
    rw [length m mem, digest]; rfl
  exact
    { edge := edge
      extents := h.covered
      areas := fun p _ => by
        by_cases some : ∃ m ∈ ms, ((v.ctx i).area p).window = .some m
        · obtain ⟨m, mem, at_⟩ := some
          rw [h.areaFilled p m mem at_, at_]
          exact ⟨rfl, (if_pos ((h.range m).1 mem)).symm⟩
        · have kept := h.areaKept p fun m mem at_ => some ⟨m, mem, at_⟩
          rw [kept]
          refine ⟨rfl, ?_⟩
          cases at_ : ((v.ctx i).area p).window with
          | none => rfl
          | some m => exact (if_neg fun inside => some ⟨m, (h.range m).2 inside, at_⟩).symm
      told := fun m low high => by
        have mem := (h.range m).2 ⟨low, high⟩
        rw [← notice m mem]
        exact h.told m mem
      only := fun j p m length' d' mem => by
        refine (h.tells.new mem).imp_right ?_
        rintro ⟨m', mem', told⟩
        rw [notice m' mem'] at told
        injection told with e1 e2 e3 e4 e5
        subst e3
        obtain ⟨low, high⟩ := (h.range m).1 mem'
        exact ⟨e1, e2, low, high, e4, e5⟩ }

end

end Sys2Proof.SegmentIntake
end

section
/-! The completion check and the evaluation of retirement it follows (R22 to R24, R105). -/

namespace Sys2Proof.SegmentIntake

open Sys2Proof Sys2Proof.Machine Sys2Proof.Laws Sys2Proof.Contexts

/-! ## The group's account of a completion (R156, R157) -/

/-- The group with its done count raised, before the GROUP_DONE test (R156). -/
def doneCounted (s : State) (g : Nat) : State := s.setGroup g { s.group g with done := (s.group g).done + 1 }

section
variable {s : State} {i g : Nat}

theorem memberDone_of_none (h : (s.ctx i).group = none) : s.memberDone i = s := by
  unfold State.memberDone
  rw [h]

theorem memberDone_of_some (h : (s.ctx i).group = some g) :
    s.memberDone i = (doneCounted s g).groupDoneTest g (s.group g) := by
  unfold State.memberDone
  rw [h]
  rfl

theorem doneCounted_group (s : State) (g h : Nat) : (doneCounted s g).group h =
    if h = g then { s.group g with done := (s.group g).done + 1 } else s.group h := group_setGroup ..

/-- GROUP_DONE goes out exactly when the last member is DONE (R157). -/
theorem groupDoneTest_counted (s : State) (g : Nat) : (doneCounted s g).groupDoneTest g (s.group g) =
    if (s.group g).done + 1 = (s.group g).members.length then
      (doneCounted s g).notify ((s.group g).members.headD 0) .groupDone
        (.groupDone ((s.group g).members.headD 0) g (s.group g).members.length)
    else doneCounted s g := by
  have now : (doneCounted s g).group g = { s.group g with done := (s.group g).done + 1 } := by
    rw [doneCounted_group, if_pos rfl]
  unfold State.groupDoneTest
  rw [now]
  have asked : ((s.group g).done != (s.group g).members.length &&
      ({ s.group g with done := (s.group g).done + 1 } : Group).complete) =
      decide ((s.group g).done + 1 = (s.group g).members.length) := by
    unfold Group.complete
    cases (s.group g).members with
    | nil => simp
    | cons a l =>
      rw [Bool.eq_iff_iff]
      simp
      omega
  dsimp only
  rw [asked]
  simp only [decide_eq_true_eq]

theorem memberDone_owedOnly (s : State) (i : Nat) : OwedOnly s (s.memberDone i) := by
  cases hg : (s.ctx i).group with
  | none => rw [memberDone_of_none hg]; exact owedOnly_of_same fun _ => rfl
  | some g =>
    rw [memberDone_of_some hg, groupDoneTest_counted]
    have counted : OwedOnly s (doneCounted s g) := owedOnly_of_same fun _ => rfl
    split
    · exact counted.trans (owedOnly_notify ..)
    · exact counted

theorem memberDone_tells (s : State) (i : Nat) : Tells (fun n => ∃ leader g, n = .groupDone leader g (s.group g).members.length ∧
    (s.ctx i).group = some g ∧ (s.group g).done + 1 = (s.group g).members.length) s (s.memberDone i) := by
  cases hg : (s.ctx i).group with
  | none => rw [memberDone_of_none hg]; exact tells_of_same rfl fun _ => rfl
  | some g =>
    rw [memberDone_of_some hg, groupDoneTest_counted]
    split
    · next last =>
      refine Tells.trans (t := doneCounted s g) (tells_of_same rfl fun _ => rfl) ((tells_notify ..).mono ?_)
      rintro n rfl
      exact ⟨_, g, rfl, rfl, last⟩
    · exact tells_of_same rfl fun _ => rfl

/-- The groups after a member is DONE. -/
theorem memberDone_group (s : State) (i h : Nat) : (s.memberDone i).group h =
    if (s.ctx i).group = some h then { s.group h with done := (s.group h).done + 1 } else s.group h := by
  cases hg : (s.ctx i).group with
  | none => rw [memberDone_of_none hg, if_neg (by simp)]
  | some g =>
    have groups : ((doneCounted s g).groupDoneTest g (s.group g)).groups = (doneCounted s g).groups := by simp
    rw [memberDone_of_some hg, group_of_groups groups, doneCounted_group]
    by_cases e : h = g
    · rw [if_pos e, if_pos (by rw [e]), e]
    · rw [if_neg e, if_neg fun g' => e (Option.some.inj g').symm]

theorem memberDone_last (hg : (s.ctx i).group = some g) (last : (s.group g).done + 1 = (s.group g).members.length) :
    Charged (s.memberDone i) ((s.group g).members.headD 0) .groupDone
      (.groupDone ((s.group g).members.headD 0) g (s.group g).members.length) := by
  rw [memberDone_of_some hg, groupDoneTest_counted, if_pos last]
  exact charged_of_given (notify_given ..)

end

/-! ## The completion check (R22 to R24) -/

section
variable {s : State} {i total : Nat} {d : Tally}

/-- The record is DONE. -/
def doneEntered (s : State) (i : Nat) : State := s.modCtx i fun c => { c with state := .done, timer := .stopped }

/-- TRANSFER_DONE has gone out. -/
def doneTold (s : State) (i total : Nat) : State :=
  (doneEntered s i).notify i .transferDone (.transferDone i total (s.ctx i).digest)

/-- A running context whose retired edge has reached its manifest's total is DONE or fails (R23, R24). -/
theorem completionCheck_of_reached (recorded : (s.ctx i).total = .manifest total d)
    (running : (s.ctx i).receiving = true) (reached : (s.ctx i).retired = total) : s.completionCheck i =
      if (s.ctx i).digest = d then (doneTold s i total).memberDone i else s.fail i .digestMismatch := by
  unfold State.completionCheck
  dsimp only
  rw [recorded]
  dsimp only
  rw [if_pos (by simp [running, reached])]
  rfl

theorem completionCheck_of_short (recorded : (s.ctx i).total = .manifest total d) (short : (s.ctx i).retired ≠ total) :
    s.completionCheck i = s := by
  unfold State.completionCheck
  dsimp only
  rw [recorded]
  exact if_neg (by simp [short])

theorem completionCheck_of_ended (ended : (s.ctx i).receiving = false) : s.completionCheck i = s := by
  unfold State.completionCheck
  dsimp only
  split
  · exact if_neg (by simp [ended])
  · rfl
  · rfl

theorem doneEntered_ctx (s : State) (i j : Nat) : (doneEntered s i).ctx j =
    if j = i then { s.ctx i with state := .done, timer := .stopped } else s.ctx j := ctx_modCtx ..

/-- The record of a completed context. -/
theorem done_record (s : State) (i total : Nat) : ((doneTold s i total).memberDone i).ctx i =
    { s.ctx i with
      state := .done, timer := .stopped, owed := (((doneTold s i total).memberDone i).ctx i).owed } := by
  have owed : OwedOnly (doneEntered s i) ((doneTold s i total).memberDone i) :=
    (owedOnly_notify ..).trans (memberDone_owedOnly (doneTold s i total) i)
  have record := owed.record i
  rw [doneEntered_ctx, if_pos rfl] at record
  exact record

theorem doneTold_group (s : State) (i total : Nat) : ((doneTold s i total).ctx i).group = (s.ctx i).group := by
  unfold doneTold
  rw [notify_ctx_self, doneEntered_ctx, if_pos rfl]

theorem doneTold_groups (s : State) (i total h : Nat) : (doneTold s i total).group h = s.group h :=
  group_of_groups (by simp [doneTold, doneEntered]) h

theorem doneTold_tells (s : State) (i total : Nat) :
    Tells (· = .transferDone i total (s.ctx i).digest) s (doneTold s i total) := by
  refine Tells.trans (t := doneEntered s i) (tells_of_same rfl fun j => ?_) (tells_notify ..)
  rw [doneEntered_ctx]
  split
  · next e => rw [e]
  · rfl

/-- The context is DONE (R23, R156, R157). -/
theorem done_completed (recorded : (s.ctx i).total = .manifest total (s.ctx i).digest)
    (reached : (s.ctx i).retired = total) : Completed s ((doneTold s i total).memberDone i) i := by
  have record := done_record s i total
  have group := doneTold_group s i total
  have groups := doneTold_groups s i total
  have tells := memberDone_tells (doneTold s i total) i
  exact
    { done := by rw [record]
      stopped := by rw [record]
      whole := by
        refine ⟨total, ?_, ?_, ?_⟩
        · rw [record]; exact recorded
        · rw [record]; exact reached
        · rw [record]
          exact tells.charged (charged_of_given (notify_given ..))
      counted := fun g at_ => by rw [memberDone_group, groups, group, if_pos at_]
      last := fun g at_ last => by
        have told := memberDone_last (group.trans at_) (by rw [groups]; exact last)
        rw [groups] at told
        exact told
      notLast := fun never leader h n mem => by
        rcases tells.new mem with old | ⟨_, g, _, at_, last⟩
        · rcases (doneTold_tells s i total).new old with old | told
          · exact old
          · exact absurd told (by simp)
        · rw [groups] at last
          exact absurd last (never g (group.symm.trans at_))
      otherGroups := fun h other => by rw [memberDone_group, groups, group, if_neg other] }

/-- A completion check that reached the total leaves the context ended. -/
theorem completionCheck_ends (recorded : (s.ctx i).total = .manifest total d) (running : (s.ctx i).receiving = true)
    (reached : (s.ctx i).retired = total) : ((s.completionCheck i).ctx i).receiving = false := by
  rw [completionCheck_of_reached recorded running reached]
  split
  · rw [done_record]; rfl
  · obtain ⟨_, _, _, record⟩ := fail_record running .digestMismatch
    rw [record]
    rfl

end

/-! ## The evaluation (R105) -/

section
variable {s : State} {i total : Nat} {d : Tally}

/-- The evaluation tests what R104 says, in the words of the statements. -/
theorem evaluates_iff (standing : Standing (s.ctx i) total d) (n : Nat) :
    ((s.ctx i).evaluates && s.retirable i n) = true ↔ dueAt (s.ctx i) (s.pieceStaged i) n := by
  have bound := standing.endBound
  unfold Ctx.evaluates State.retirable dueAt
  rw [bound]
  simp only [standing.running, Bool.true_and, Bool.and_eq_true, bne_iff_ne, beq_iff_eq, Bool.not_eq_true', whole_iff]
  by_cases start : (s.ctx i).retired = n * (s.ctx i).w
  · by_cases unended : (s.ctx i).retired = total
    · simp [unended]
    · have low : n * (s.ctx i).w < total := by have := standing.bound; omega
      have covers : firstCovers (s.ctx i).extents (n * (s.ctx i).w) ((s.ctx i).windowEnd n) = true ↔
          ∃ e es, (s.ctx i).extents = e :: es ∧ e.start ≤ n * (s.ctx i).w ∧ (s.ctx i).windowStop n ≤ e.stop := by
        rw [windowStop_eq standing.totalBytes low]
        have above := standing.above
        generalize (s.ctx i).extents = extents at above ⊢
        unfold firstCovers
        cases extents with
        | nil => simp
        | cons e es =>
          have first := above e List.mem_cons_self
          simp only [Bool.and_eq_true, beq_iff_eq, decide_eq_true_eq]
          constructor
          · rintro ⟨same, reaches⟩
            exact ⟨e, es, rfl, same.le, reaches⟩
          · rintro ⟨x, xs, same, low', reaches⟩
            obtain ⟨rfl, rfl⟩ := List.cons.inj same
            exact ⟨by omega, reaches⟩
      rw [covers]
      tauto
  · simp [start]

theorem evaluateOnce_of_due (standing : Standing (s.ctx i) total d)
    (due : dueAt (s.ctx i) (s.pieceStaged i) ((s.ctx i).retired / (s.ctx i).w)) :
    s.evaluateOnce i = (s.retireWindow i ((s.ctx i).retired / (s.ctx i).w)).completionCheck i := by
  have recorded : ((s.retireWindow i ((s.ctx i).retired / (s.ctx i).w)).ctx i).total = .manifest total d := by
    rw [retireWindow_record]
    exact (advanced_total _ _).trans standing.recorded
  unfold State.evaluateOnce
  dsimp only
  rw [if_pos ((evaluates_iff standing _).2 due)]
  have bytes : ((s.retireWindow i ((s.ctx i).retired / (s.ctx i).w)).ctx i).totalBytes = some total := by
    unfold Ctx.totalBytes; rw [recorded]
  rw [bytes]
  split
  · rfl
  · next short => exact (completionCheck_of_short recorded fun e => short (by rw [e]; simp)).symm

theorem evaluateOnce_of_not_due (standing : Standing (s.ctx i) total d)
    (idle : ¬dueAt (s.ctx i) (s.pieceStaged i) ((s.ctx i).retired / (s.ctx i).w)) : s.evaluateOnce i = s := by
  unfold State.evaluateOnce
  dsimp only
  rw [if_neg fun due => idle ((evaluates_iff standing _).1 due)]

theorem evaluateOnce_of_ended (ended : (s.ctx i).receiving = false) : s.evaluateOnce i = s := by
  unfold State.evaluateOnce State.retirable
  simp [ended]

/-- A retirement leaves what is staged as it is. -/
theorem retireWindow_pieceStaged (s : State) (i n : Nat) : (s.retireWindow i n).pieceStaged i = s.pieceStaged i := by
  have listed : ((s.retireWindow i n).ctx i).staged = (s.ctx i).staged := by
    rw [retireWindow_record]
    exact setArea_staged ..
  have rest := recordsOnly_retireWindow s i n
  funext m
  unfold State.pieceStaged State.isCurrent State.job State.staged
  rw [listed, rest.staging, rest.delivery]

/-- With a manifest's total, an evaluation and the completion check after it retire the windows that R105 says, and check
completion once. -/
theorem evaluate_and_check (standing : Standing (s.ctx i) total d) : ∃ r ms, Filled s r i total d ms ∧
    Retires s r i (s.ctx i) (s.pieceStaged i) ∧ (s.evaluateRetirement i).completionCheck i = r.completionCheck i := by
  let n := (s.ctx i).retired / (s.ctx i).w
  have own : windowSize (s.ctx i).windowSelect = (s.ctx i).w := rfl
  have bound := standing.endBound
  have parity := standing.parity
  by_cases due : dueAt (s.ctx i) (s.pieceStaged i) n
  · obtain ⟨start, unended, whole⟩ := id due
    have low : n * (s.ctx i).w < total := by have := standing.bound; omega
    have stop := windowStop_eq standing.totalBytes low
    have filled : Filled s (s.retireWindow i n) i total d [n] := (filled_nil standing).step parity due
    have after := filled.standing
    have retired : ((s.retireWindow i n).ctx i).retired = (s.ctx i).windowEnd n := by rw [retireWindow_record]; rfl
    have first : s.evaluateOnce i = (s.retireWindow i n).completionCheck i := evaluateOnce_of_due standing due
    by_cases reached : (s.ctx i).windowEnd n = total
    · refine ⟨_, _, filled, filled.retires standing ?_, ?_⟩
      · dsimp only
        rw [own, if_pos ⟨standing.running, unended, whole⟩, retired, stop, bound, if_neg fun h => h.1 reached]
      · have ended := completionCheck_ends after.recorded after.running (retired.trans reached)
        unfold State.evaluateRetirement
        rw [first, evaluateOnce_of_ended ended, completionCheck_of_ended ended]
    · have short : ((s.retireWindow i n).ctx i).retired ≠ total := by rw [retired]; exact reached
      have edge : (s.ctx i).windowEnd n = (n + 1) * (s.ctx i).w := by
        have end_ := windowEnd_eq standing.totalBytes n
        omega
      have next : ((s.retireWindow i n).ctx i).retired / ((s.retireWindow i n).ctx i).w = n + 1 := by
        rw [retired, filled.w, edge, Nat.mul_div_cancel _ (w_pos _)]
      have wholeNext : ((s.retireWindow i n).ctx i).whole ((s.retireWindow i n).pieceStaged i) (n + 1) =
          (s.ctx i).whole (s.pieceStaged i) (n + 1) := by
        rw [retireWindow_pieceStaged, ← advanced_whole standing due reached, retireWindow_record]
        rfl
      by_cases again : (s.ctx i).whole (s.pieceStaged i) (n + 1) = true
      · have dueNext : dueAt ((s.retireWindow i n).ctx i) ((s.retireWindow i n).pieceStaged i) (n + 1) :=
          ⟨by rw [retired, filled.w, edge], by rw [after.endBound]; exact short, by rw [wholeNext]; exact again⟩
        have both := filled.step parity dueNext
        have inside : (n + 1) * (s.ctx i).w < total := by
          have := after.bound
          omega
        have second : (s.retireWindow i n).evaluateOnce i =
            ((s.retireWindow i n).retireWindow i (n + 1)).completionCheck i := by
          have once := evaluateOnce_of_due after (by rw [next]; exact dueNext)
          rwa [next] at once
        refine ⟨_, _, both, both.retires standing ?_, ?_⟩
        · have end_ : (((s.retireWindow i n).retireWindow i (n + 1)).ctx i).retired = (s.ctx i).windowEnd (n + 1) := by
            rw [retireWindow_record, ← filled.windowEnd]
            rfl
          dsimp only
          rw [own, if_pos ⟨standing.running, unended, whole⟩, end_, stop, bound, if_pos ⟨reached, again⟩,
            windowStop_eq standing.totalBytes inside]
        · unfold State.evaluateRetirement
          rw [first, completionCheck_of_short after.recorded short, second]
          by_cases finished : (((s.retireWindow i n).retireWindow i (n + 1)).ctx i).retired = total
          · exact completionCheck_of_ended (completionCheck_ends both.standing.recorded both.standing.running finished)
          · have still := completionCheck_of_short both.standing.recorded finished
            rw [still]
            exact still
      · have idle : ¬dueAt ((s.retireWindow i n).ctx i) ((s.retireWindow i n).pieceStaged i)
            (((s.retireWindow i n).ctx i).retired / ((s.retireWindow i n).ctx i).w) := by
          rw [next]
          exact fun h => again (by rw [← wholeNext]; exact h.2.2)
        refine ⟨_, _, filled, filled.retires standing ?_, ?_⟩
        · dsimp only
          rw [own, if_pos ⟨standing.running, unended, whole⟩, retired, stop, if_neg fun h => again h.2]
        · unfold State.evaluateRetirement
          rw [first, completionCheck_of_short after.recorded short, evaluateOnce_of_not_due after idle]
          exact completionCheck_of_short after.recorded short
  · refine ⟨_, _, filled_nil standing, (filled_nil standing).retires standing ?_, ?_⟩
    · dsimp only
      rw [own]
      refine (if_neg ?_).symm
      rintro ⟨_, unended, whole⟩
      rw [bound] at unended
      exact due ⟨standing.aligned.resolve_left unended, by rw [bound]; exact unended, whole⟩
    · unfold State.evaluateRetirement
      rw [evaluateOnce_of_not_due standing due, evaluateOnce_of_not_due standing due]

end

end Sys2Proof.SegmentIntake
end

section
/-! A manifest is recorded (R43): the statement O34. -/

namespace Sys2Proof.SegmentIntake

open Sys2Proof Sys2Proof.Machine Sys2Proof.Laws Sys2Proof.Contexts

/-! ## The manifest noted -/

/-- The manifest's total and digest stand in the record. -/
def announced (s : State) (i : Nat) (g : ManifestSegment) : State :=
  s.modCtx i fun c => { c with total := .manifest g.total.toNat (ManifestSegment.expected g) }

/-- The context is revived, and a first total has cut its areas: the state retirement is evaluated in. -/
def manifestNoted (s : State) (i : Nat) (g : ManifestSegment) : State :=
  if (s.ctx i).totalBytes.isNone then ((announced s i g).revive i).trimAreas i else (announced s i g).revive i

theorem recordManifest_eq (s : State) (i : Nat) (g : ManifestSegment) :
    s.recordManifest i g = ((manifestNoted s i g).evaluateRetirement i).completionCheck i := rfl

section
variable (s : State) (i : Nat) (g : ManifestSegment)

theorem announced_ctx (j : Nat) : (announced s i g).ctx j =
    if j = i then { s.ctx i with total := .manifest g.total.toNat (ManifestSegment.expected g) } else s.ctx j :=
  ctx_modCtx s i j fun c => { c with total := .manifest g.total.toNat (ManifestSegment.expected g) }

/-- The record revived with the manifest, before the areas are cut. -/
theorem announced_revived : ((announced s i g).revive i).ctx i =
    { revived (s.ctx i) with
      total := .manifest g.total.toNat (ManifestSegment.expected g)
      owed := (((announced s i g).revive i).ctx i).owed } := by
  rw [(revive_kept _ i).1, announced_ctx, if_pos rfl]
  rfl

theorem manifestNoted_record : (manifestNoted s i g).ctx i =
    { revived (s.ctx i) with
      total := .manifest g.total.toNat (ManifestSegment.expected g)
      area0 := ((manifestNoted s i g).ctx i).area0, area1 := ((manifestNoted s i g).ctx i).area1
      owed := ((manifestNoted s i g).ctx i).owed } := by
  have before := announced_revived s i g
  unfold manifestNoted
  split
  · have record := trimAreas_record ((announced s i g).revive i) i
    generalize (((announced s i g).revive i).trimAreas i).ctx i = t at record ⊢
    rw [record, before]
  · generalize ((announced s i g).revive i).ctx i = t at before ⊢
    rw [before]

theorem manifestNoted_others {j : Nat} (other : j ≠ i) : (manifestNoted s i g).ctx j = s.ctx j := by
  have before : ((announced s i g).revive i).ctx j = s.ctx j := by
    rw [(revive_kept _ i).2.2 j other, announced_ctx, if_neg other]
  unfold manifestNoted
  split
  · rw [trimAreas_others _ _ other, before]
  · exact before

theorem manifestNoted_frame : (manifestNoted s i g).intake = s.intake ∧ (manifestNoted s i g).map = s.map ∧
    (manifestNoted s i g).delivery = s.delivery ∧ (manifestNoted s i g).actions = s.actions ∧
    (manifestNoted s i g).groups = s.groups ∧ (manifestNoted s i g).verify = s.verify ∧
    (manifestNoted s i g).command = s.command ∧ (manifestNoted s i g).resets = s.resets := by
  unfold manifestNoted
  split <;> simp [announced]

theorem announced_tells : Tells (fun n => n = .resumed i) s ((announced s i g).revive i) := by
  refine Tells.trans (t := announced s i g) (tells_of_same rfl fun j => ?_) (revive_tells ..)
  rw [announced_ctx]
  split
  · next e => rw [e]
  · rfl

/-- A notice that a manifest sends before retirement is evaluated. -/
def isNoted (i : Nat) (n : Notice) : Prop := n = .resumed i ∨ ∃ p w d, n = .halfFilled i p w d

theorem manifestNoted_tells : Tells (isNoted i) s (manifestNoted s i g) := by
  have before := (announced_tells s i g).mono (Q := isNoted i) fun n => .inl
  unfold manifestNoted
  split
  · exact before.trans ((trimAreas_tells ..).mono fun n => .inr)
  · exact before

theorem manifestNoted_resumed (stalled : (s.ctx i).state = .stalled) (asked : (s.effMask i).resumed = true) :
    Charged (manifestNoted s i g) i .resumed (.resumed i) := by
  have mask : (announced s i g).effMask i = s.effMask i :=
    modCtx_effMask s i (f := fun c => { c with total := .manifest g.total.toNat (ManifestSegment.expected g) })
      (fun _ => ⟨rfl, rfl⟩) i
  have state : ((announced s i g).ctx i).state = .stalled := by rw [announced_ctx, if_pos rfl]; exact stalled
  have given := (revive_kept (announced s i g) i).2.1
  rw [if_pos ⟨state, by rw [mask]; exact asked⟩] at given
  have charged := charged_of_given given
  unfold manifestNoted
  split
  · exact (trimAreas_tells ..).charged charged
  · exact charged

/-- A total recorded before leaves the areas. -/
theorem manifestNoted_area (recorded : (s.ctx i).totalBytes.isNone = false) (p : Nat) :
    ((manifestNoted s i g).ctx i).area p = (s.ctx i).area p := by
  unfold manifestNoted
  rw [if_neg (by simp [recorded]), announced_revived]
  rfl

/-- A first total cuts the areas. -/
theorem manifestNoted_cut (first : (s.ctx i).totalBytes.isNone = true)
    (parity : ∀ p n, ((s.ctx i).area p).window = some n → n % 2 = p % 2) {p : Nat} (low : p < 2) :
    CutBy s (manifestNoted s i g) i g.total.toNat p := by
  have before := announced_revived s i g
  have area : ∀ q, (((announced s i g).revive i).ctx i).area q = (s.ctx i).area q := fun q => by rw [before]; rfl
  have mask : ((announced s i g).revive i).effMask i = s.effMask i := by
    refine effMask_congr (by simp [announced]) (fun j => ?_) i
    by_cases own : j = i
    · rw [own, before]; exact ⟨rfl, rfl⟩
    · rw [(revive_kept _ i).2.2 j own, announced_ctx, if_neg own]; exact ⟨rfl, rfl⟩
  have cutArea : ∀ a, (((announced s i g).revive i).ctx i).cutArea g.total.toNat a =
      (s.ctx i).cutArea g.total.toNat a := fun a => by rw [before]; rfl
  obtain ⟨cut, charged⟩ := trimAreas_cut (s := (announced s i g).revive i) (i := i) (total := g.total.toNat)
    (by rw [before]; rfl) (fun p n => by rw [area]; exact parity p n) low
  unfold manifestNoted
  rw [if_pos first]
  rw [area, cutArea] at cut
  simp only [area, cutArea, mask] at charged
  exact ⟨cut, charged⟩

/-- A first total has the context's records judged again (R84). -/
theorem manifestNoted_staged (r : Nat) : (manifestNoted s i g).staged r =
    (s.staged r).map ((manifestNoted s i g).judgedAgain fun k => k == i && (s.ctx i).totalBytes.isNone) := by
  have before : ∀ q, ((announced s i g).revive i).staged q = s.staged q := fun q => by
    unfold State.staged
    rw [(revive_frame _ i).2.2.1]
    rfl
  unfold manifestNoted
  by_cases first : (s.ctx i).totalBytes.isNone = true
  · have pick : (fun k => k == i && (s.ctx i).totalBytes.isNone) = (· == i) := by funext k; rw [first, Bool.and_true]
    rw [if_pos first, trimAreas_staged, before, pick]
  · have stays : (((announced s i g).revive i).judgedAgain fun k => k == i && (s.ctx i).totalBytes.isNone) = id := by
      funext rec
      exact judgedAgain_of_not (by simp [first])
    rw [if_neg first, before, stays, Option.map_id_apply]

theorem manifestNoted_constrained : (manifestNoted s i g).staging.constrained = s.staging.constrained := by
  have before : ((announced s i g).revive i).staging = s.staging := (revive_frame _ i).2.2.1
  unfold manifestNoted
  split
  · rw [(sameRoom_trimAreas _ i).constrained, before]
  · rw [before]

theorem manifestNoted_sorted (sorted : Table.sorted s.staging.pool) :
    Table.sorted (manifestNoted s i g).staging.pool := by
  have before : ((announced s i g).revive i).staging = s.staging := (revive_frame _ i).2.2.1
  unfold manifestNoted
  split
  · rw [trimAreas_staging]
    refine sorted_map _ (fun e => ?_) (by rw [modCtx_staging, before]; exact sorted)
    split <;> rfl
  · rw [before]; exact sorted

theorem manifestNoted_holdFields (j : Nat) : holdFields ((manifestNoted s i g).ctx j) = holdFields (s.ctx j) := by
  by_cases own : j = i
  · rw [own, manifestNoted_record]; rfl
  · rw [manifestNoted_others s i g own]

end

/-! ## Where the context stands -/

theorem cutArea_window (c : Ctx) (total : Nat) (a : Area) :
    (c.cutArea total a).window = a.window ∨ (c.cutArea total a).window = none := by
  unfold Ctx.cutArea
  dsimp only
  split
  · split_ifs
    · exact .inr rfl
    · exact .inl rfl
    · exact .inl rfl
  · exact .inl rfl

theorem cutArea_digest (c : Ctx) (total : Nat) (a : Area) : (c.cutArea total a).digest = a.digest := by
  unfold Ctx.cutArea
  dsimp only
  split
  · split_ifs <;> rfl
  · rfl

theorem retired_le_highMark {c : Ctx} (ordered : Ordered c.extents) (above : ∀ e ∈ c.extents, c.retired ≤ e.start) :
    c.retired ≤ highMark c.retired c.extents := by
  unfold highMark
  split
  · next e last =>
    have mem := List.mem_of_getLast? last
    have := above e mem
    have := ordered.1 e mem
    omega
  · exact le_rfl

/-- The context a manifest that conflicts with nothing is noted in stands as retirement wants it. -/
theorem manifestNoted_standing {s : State} {i : Nat} {g : ManifestSegment} (safe : ExtentsSafe s)
    (total : (s.ctx i).total = .absent ∨ (s.ctx i).total = .implied g.total.toNat)
    (high : highMark (s.ctx i).retired (s.ctx i).extents ≤ g.total.toNat) :
    Standing ((manifestNoted s i g).ctx i) g.total.toNat (ManifestSegment.expected g) := by
  have record := manifestNoted_record s i g
  have above : ∀ e ∈ (s.ctx i).extents, (s.ctx i).retired ≤ e.start := fun e mem => (safe.within i e mem).1
  have parity : ∀ p n, (((manifestNoted s i g).ctx i).area p).window = some n → n % 2 = p % 2 := fun p n window => by
    cases first : (s.ctx i).totalBytes.isNone with
    | false => rw [manifestNoted_area s i g first] at window; exact safe.parity i p n window
    | true =>
      have cut := (manifestNoted_cut s i g first (safe.parity i) (Nat.mod_lt p (by decide : 2 > 0))).area
      rw [area_even _ (Nat.mod_mod p 2), area_even (s.ctx i) (Nat.mod_mod p 2)] at cut
      rw [cut] at window
      rcases cutArea_window (s.ctx i) g.total.toNat ((s.ctx i).area p) with same | none
      · rw [same] at window; exact safe.parity i p n window
      · rw [none] at window; exact absurd window (by simp)
  have aligned : (s.ctx i).retired = g.total.toNat ∨
      (s.ctx i).retired = (s.ctx i).retired / (s.ctx i).w * (s.ctx i).w := by
    rcases safe.edge i with multiple | ended
    · exact .inr (Nat.div_mul_cancel (Nat.dvd_of_mod_eq_zero multiple)).symm
    · left
      unfold Ctx.totalBytes at ended
      rcases total with e | e <;> rw [e] at ended
      · exact absurd ended (by simp)
      · exact (Option.some.inj ended).symm
  have bound := (retired_le_highMark (safe.ordered i) above).trans high
  have ordered := safe.ordered i
  generalize (manifestNoted s i g).ctx i = c at record parity ⊢
  exact
    { running := by rw [record]; rfl
      recorded := by rw [record]
      aligned := by rw [record]; exact aligned
      bound := by rw [record]; exact bound
      ordered := by rw [record]; exact ordered
      above := by rw [record]; exact above
      parity := parity }

end Sys2Proof.SegmentIntake
end

section
/-! What a recorded manifest leaves (R43): the statement O34. -/

namespace Sys2Proof.SegmentIntake

open Sys2Proof Sys2Proof.Machine Sys2Proof.Laws Sys2Proof.Contexts

/-! ## What a completion check changes -/

/-- The effective holds read the groups' members, flags and failed counts only (R133). -/
theorem effHold_of_doneCounts {s t : State} (groups : ∀ g, ∃ n, t.group g = { s.group g with done := n })
    (actions : t.actions = s.actions) (same : ∀ j, holdFields (t.ctx j) = holdFields (s.ctx j)) (k : Nat) :
    t.effHold k = s.effHold k := by
  have fields : ∀ g, (t.group g).members = (s.group g).members ∧ (t.group g).holdOnFailure = (s.group g).holdOnFailure ∧
      (t.group g).failed = (s.group g).failed := fun g => by
    obtain ⟨n, eq⟩ := groups g
    rw [eq]
    exact ⟨rfl, rfl, rfl⟩
  simp only [holdFields, Prod.mk.injEq, forall_and] at same
  obtain ⟨group, exclusive, signal, hostHold⟩ := same
  unfold State.effHold State.groupHold State.governor
  simp only [group, exclusive, signal, hostHold, fields, actions]

/-- A notice of completion or failure: none of a window. -/
def isEnding (n : Notice) : Prop := ∀ j p m length d, n ≠ .windowFilled j p m length d

section
variable {s : State} {i total : Nat} {d : Tally}

/-- How a completion check of a running context can end (R22 to R24). -/
inductive CheckEnds (s t : State) (i total : Nat) (d : Tally) : Prop
  | short (below : (s.ctx i).retired ≠ total) (same : t = s)
  | done (reached : (s.ctx i).retired = total) (equal : (s.ctx i).digest = d)
      (ends : t = (doneTold s i total).memberDone i)
  | failed (reached : (s.ctx i).retired = total) (differs : (s.ctx i).digest ≠ d) (ends : t = s.fail i .digestMismatch)

theorem completionCheck_cases (recorded : (s.ctx i).total = .manifest total d) (running : (s.ctx i).receiving = true) :
    CheckEnds s (s.completionCheck i) i total d := by
  by_cases reached : (s.ctx i).retired = total
  · have check := completionCheck_of_reached recorded running reached
    by_cases equal : (s.ctx i).digest = d
    · exact .done reached equal (check.trans (if_pos equal))
    · exact .failed reached equal (check.trans (if_neg equal))
  · exact .short reached (completionCheck_of_short recorded reached)

/-- A completion check keeps of a record what it does not end. -/
theorem completionCheck_record (recorded : (s.ctx i).total = .manifest total d) (running : (s.ctx i).receiving = true) :
    ∃ state timer cause staged blocks owed, (s.completionCheck i).ctx i =
      { s.ctx i with
        state := state, timer := timer, cause := cause, staged := staged, blocksHeld := blocks, owed := owed } := by
  cases completionCheck_cases recorded running with
  | short _ same => rw [same]; exact ⟨_, _, _, _, _, _, rfl⟩
  | done _ _ ends => rw [ends, done_record]; exact ⟨_, _, _, _, _, _, rfl⟩
  | failed _ _ ends =>
    obtain ⟨staged, blocks, owed, record⟩ := fail_record running .digestMismatch
    rw [ends, record]
    exact ⟨_, _, _, _, _, _, rfl⟩

theorem completionCheck_tells (recorded : (s.ctx i).total = .manifest total d) (running : (s.ctx i).receiving = true) :
    Tells isEnding s (s.completionCheck i) := by
  cases completionCheck_cases recorded running with
  | short _ same => rw [same]; exact tells_of_same rfl fun _ => rfl
  | done _ _ ends =>
    rw [ends]
    refine ((doneTold_tells s i total).mono ?_).trans ((memberDone_tells _ i).mono ?_)
    · rintro n rfl j p m length d' e
      exact Notice.noConfusion e
    · rintro n ⟨leader, g, rfl, _⟩ j p m length d' e
      exact Notice.noConfusion e
  | failed _ _ ends =>
    rw [ends]
    refine (fail_tells running).mono ?_
    rintro n (rfl | ⟨leader, g, rfl, _⟩) j p m length d' e <;> exact Notice.noConfusion e

/-- Where a completion check does not fail the context, every record judges as before, and stays. -/
theorem completionCheck_judgesAlike (recorded : (s.ctx i).total = .manifest total d)
    (running : (s.ctx i).receiving = true) (unfailed : ((s.completionCheck i).ctx i).state ≠ .failed) (j : Nat) :
    JudgesAlike s (s.completionCheck i) j ∧ (s.completionCheck i).staging = s.staging := by
  cases completionCheck_cases recorded running with
  | short _ same => rw [same]; exact ⟨judgesAlike_of_same rfl rfl, rfl⟩
  | done _ _ ends =>
    rw [ends]
    have owed : OwedOnly (doneEntered s i) ((doneTold s i total).memberDone i) :=
      (owedOnly_notify ..).trans (memberDone_owedOnly (doneTold s i total) i)
    have entered : ∀ k, holdFields ((doneEntered s i).ctx k) = holdFields (s.ctx k) := fun k => by
      rw [doneEntered_ctx]
      split
      · next e => rw [e]; rfl
      · rfl
    refine ⟨⟨fun n => ?_, ?_, ?_⟩, by simp [doneTold, doneEntered]⟩
    · rw [owed.record, doneEntered_ctx]
      split
      · next e => rw [e]; exact ⟨rfl, rfl⟩
      · exact ⟨rfl, rfl⟩
    · refine effHold_of_doneCounts (fun g => ?_) (by simp [doneTold, doneEntered])
        (fun k => (owed.holdFields k).trans (entered k)) j
      rw [memberDone_group, doneTold_groups]
      split
      · exact ⟨_, rfl⟩
      · exact ⟨_, rfl⟩
    · rw [owed.record, doneEntered_ctx]
      split
      · next e => rw [e]
      · rfl
  | failed _ _ ends =>
    obtain ⟨staged, blocks, owed, record⟩ := fail_record running .digestMismatch
    rw [ends, record] at unfailed
    exact absurd rfl unfailed

end

/-! ## Completions seen from before -/

section
variable {s v t : State} {i : Nat}

/-- What goes before a completion changes nothing of it, when it changes no group and tells of none. -/
theorem completed_of (groups : v.groups = s.groups) (group : (v.ctx i).group = (s.ctx i).group)
    (queue : ∀ leader h n, Notice.groupDone leader h n ∈ v.notice.queue → Notice.groupDone leader h n ∈ s.notice.queue)
    (h : Completed v t i) : Completed s t i := by
  have same := group_of_groups groups
  obtain ⟨done, stopped, whole, counted, last, notLast, otherGroups⟩ := h
  simp only [group, same] at counted last notLast otherGroups
  exact ⟨done, stopped, whole, counted, last, fun never leader h n mem => queue _ _ _ (notLast never leader h n mem),
    otherGroups⟩

theorem completed_returned {a : Answer} (h : Completed s a.state i) (link : BitVec 2) (handle : BitVec 16)
    (kind : BitVec 8) : Completed s (a.returned link handle kind) i :=
  ⟨h.done, h.stopped, h.whole, h.counted, h.last, h.notLast, h.otherGroups⟩

/-- Retirement seen from before the context was revived, and after its completion was checked. -/
theorem retires_of {r : State} {c : Ctx} {left : Nat → Bool} {P Q : Notice → Prop} (h : Retires v r i (v.ctx i) left)
    (record : ∃ timer damaged owed, v.ctx i = { c with state := .active, timer := timer, damaged := damaged, owed := owed })
    (running : c.receiving = true) (before : Tells P s v) (noP : ∀ n, P n → isEnding n) (after : Tells Q r t)
    (noQ : ∀ n, Q n → isEnding n) (retired : (t.ctx i).retired = (r.ctx i).retired)
    (extents : (t.ctx i).extents = (r.ctx i).extents) (area : ∀ p, (t.ctx i).area p = (r.ctx i).area p) :
    Retires s t i c left := by
  obtain ⟨timer, damaged, owed, record⟩ := record
  rw [record] at h
  obtain ⟨edge, covered, areas, told, only⟩ := h
  have active : ({ c with state := .active, timer := timer, damaged := damaged, owed := owed } : Ctx).receiving = true := rfl
  refine ⟨?_, ?_, ?_, ?_, ?_⟩
  · rw [retired]
    refine edge.trans (if_congr ?_ rfl rfl)
    rw [active, running]
    exact Iff.rfl
  · rw [retired, extents]
    exact covered
  · simp only [retired, area]
    exact areas
  · simp only [retired, area]
    exact fun m low high => after.charged (told m low high)
  · simp only [retired, area]
    intro j p m length d mem
    rcases after.new mem with old | new
    · refine (only j p m length d old).imp_left fun earlier => ?_
      exact (before.new earlier).resolve_right fun told => noP _ told j p m length d rfl
    · exact absurd rfl (noQ _ new j p m length d)

theorem retires_returned {c : Ctx} {left : Nat → Bool} {a : Answer} (h : Retires s a.state i c left) (link : BitVec 2)
    (handle : BitVec 16) (kind : BitVec 8) : Retires s (a.returned link handle kind) i c left :=
  ⟨h.edge, h.extents, h.areas, h.told, h.only⟩

end

/-! ## The pieces left (R104, condition 4) -/

theorem pieceLeft_eq (s : State) (i : Nat) : s.pieceLeft i (fun _ => false) = s.pieceStaged i := by
  funext n
  unfold State.pieceLeft State.pieceStaged State.isCurrent
  rfl

/-- The pieces left hang on the staged list, the jobs and the records' pieces. -/
theorem pieceStaged_congr {s t : State} {i : Nat} (listed : (t.ctx i).staged = (s.ctx i).staged)
    (jobs : t.delivery = s.delivery)
    (staged : ∀ r, (t.staged r).map StagedRecord.pieces = (s.staged r).map StagedRecord.pieces) :
    t.pieceStaged i = s.pieceStaged i := by
  funext n
  unfold State.pieceStaged State.isCurrent State.job
  rw [listed, jobs]
  refine congrArg (fun f => List.any _ f) (funext fun r => ?_)
  refine congrArg (fun b => _ && b) ?_
  have same := staged r
  cases ht : t.staged r with
  | none =>
    cases hs : s.staged r with
    | none => rfl
    | some b => rw [ht, hs] at same; exact absurd same (by simp)
  | some a =>
    cases hs : s.staged r with
    | none => rw [ht, hs] at same; exact absurd same (by simp)
    | some b =>
      rw [ht, hs] at same
      exact congrArg (fun l => List.any l fun p => p.window == n) (Option.some.inj same)

theorem judgedAgain_pieces (t : State) (pick : Nat → Bool) (rec : StagedRecord) :
    (t.judgedAgain pick rec).pieces = rec.pieces := by
  unfold State.judgedAgain
  split <;> rfl

theorem manifestNoted_pieceStaged (s : State) (i : Nat) (g : ManifestSegment) :
    (manifestNoted s i g).pieceStaged i = s.pieceStaged i := by
  obtain ⟨_, _, delivery, _⟩ := manifestNoted_frame s i g
  refine pieceStaged_congr (by rw [manifestNoted_record]; rfl) delivery fun r => ?_
  rw [manifestNoted_staged, Option.map_map]
  exact congrArg (fun f => Option.map f (s.staged r)) (funext fun rec => judgedAgain_pieces ..)

/-! ## Areas after retirement -/

/-- An area either stands as it stood or was READY and is FILLED. -/
theorem Filled.area_cases {v r : State} {i total : Nat} {d : Tally} {ms : List Nat} (h : Filled v r i total d ms)
    (parity : ∀ p n, ((v.ctx i).area p).window = some n → n % 2 = p % 2) (p : Nat) :
    (r.ctx i).area p = (v.ctx i).area p ∨
      ((r.ctx i).area p = { (v.ctx i).area p with state := .filled } ∧ ((v.ctx i).area p).state = .ready ∧
        (v.ctx i).retired < (r.ctx i).retired) := by
  by_cases some : ∃ m ∈ ms, ((v.ctx i).area p).window = .some m
  · obtain ⟨m, mem, at_⟩ := some
    obtain ⟨ready, _⟩ := h.ready m mem
    obtain ⟨low, high⟩ := (h.range m).1 mem
    rw [area_even _ (parity p m at_)] at ready
    exact .inr ⟨h.areaFilled p m mem at_, ready, by omega⟩
  · exact .inl (h.areaKept p fun m mem at_ => some ⟨m, mem, at_⟩)

end Sys2Proof.SegmentIntake
end

section
/-! O34 assembled: the manifest noted, retirement evaluated, completion checked. -/

namespace Sys2Proof.SegmentIntake

open Sys2Proof Sys2Proof.Machine Sys2Proof.Laws Sys2Proof.Contexts

theorem Alike.extentsSafe {s u : State} (h : Alike s u) (safe : ExtentsSafe s) : ExtentsSafe u where
  limit i := by rw [h.ctx]; exact safe.limit i
  ordered i := by rw [h.ctx]; exact safe.ordered i
  within i := by rw [h.ctx]; exact safe.within i
  edge i := by rw [h.ctx]; exact safe.edge i
  bound i := by rw [h.ctx]; exact safe.bound i
  holds i := by rw [h.ctx]; exact safe.holds i
  parity i := by rw [h.ctx]; exact safe.parity i

theorem Alike.tells {s u : State} (h : Alike s u) {P : Notice → Prop} : Tells P s u :=
  tells_of_same h.notice fun j => by rw [h.ctx]

theorem Alike.pieceStaged {s u : State} (h : Alike s u) (i : Nat) : u.pieceStaged i = s.pieceStaged i :=
  pieceStaged_congr (by rw [h.ctx]) h.delivery fun r => by rw [h.staged]

theorem manifestStage_of_accepted {s : State} {i : Nat} {g : ManifestSegment}
    (total : (s.ctx i).total = .absent ∨ (s.ctx i).total = .implied g.total.toNat)
    (high : highMark (s.ctx i).retired (s.ctx i).extents ≤ g.total.toNat) :
    s.manifestStage i g = (s.recordManifest i g).answer i .accepted := by
  have compared : (s.ctx i).compareManifest g = .accepted := by
    unfold Ctx.compareManifest
    rcases total with e | e <;> rw [e] <;> dsimp only
    · exact if_neg (Nat.not_lt.2 high)
    · rw [if_neg (not_not.2 rfl)]
      exact if_neg (Nat.not_lt.2 high)
  unfold State.manifestStage
  rw [compared]

theorem isNone_iff_absent (c : Ctx) : c.totalBytes.isNone = (c.total == .absent) := by
  unfold Ctx.totalBytes
  cases c.total <;> rfl

/-- What a re-evaluation can make of a record. -/
theorem judgedAgain_cases (t : State) (pick : Nat → Bool) (rec : StagedRecord) : ∃ st,
    t.judgedAgain pick rec = { rec with state := st } ∧ (pick rec.owner = false → st = rec.state) ∧
      (rec.state ≠ .writing → st ≠ .writing) := by
  unfold State.judgedAgain
  split
  · next h =>
    refine ⟨_, rfl, fun unpicked => absurd (h.2.symm.trans unpicked) (by decide), fun _ => ?_⟩
    unfold State.fitState
    split <;> decide
  · exact ⟨_, rfl, fun _ => rfl, id⟩

/-- The context, the manifest, and the three states it goes through: noted, retired, checked. -/
structure Recorded (s v r w : State) (i : Nat) (g : ManifestSegment) (ms : List Nat) : Prop where
  noted : ∃ u, Alike s u ∧ v = manifestNoted u i g
  standing : Standing (v.ctx i) g.total.toNat (ManifestSegment.expected g)
  filled : Filled v r i g.total.toNat (ManifestSegment.expected g) ms
  retires : Retires v r i (v.ctx i) (v.pieceStaged i)
  checked : w = r.completionCheck i

theorem recordManifest_recorded {s u : State} {i : Nat} {g : ManifestSegment} (alike : Alike s u) (safe : ExtentsSafe s)
    (total : (s.ctx i).total = .absent ∨ (s.ctx i).total = .implied g.total.toNat)
    (high : highMark (s.ctx i).retired (s.ctx i).extents ≤ g.total.toNat) :
    ∃ r ms, Recorded s (manifestNoted u i g) r (u.recordManifest i g) i g ms := by
  have standing := manifestNoted_standing (alike.extentsSafe safe) (i := i) (g := g)
    (by rw [alike.ctx]; exact total) (by rw [alike.ctx]; exact high)
  obtain ⟨r, ms, filled, retires, checked⟩ := evaluate_and_check standing
  exact ⟨r, ms, ⟨u, alike, rfl⟩, standing, filled, retires, (recordManifest_eq u i g).trans checked⟩

section
variable {s v r w : State} {i : Nat} {g : ManifestSegment} {ms : List Nat}

theorem Recorded.notedRecord (h : Recorded s v r w i g ms) : v.ctx i =
    { revived (s.ctx i) with
      total := .manifest g.total.toNat (ManifestSegment.expected g)
      area0 := (v.ctx i).area0, area1 := (v.ctx i).area1, owed := (v.ctx i).owed } := by
  obtain ⟨u, alike, rfl⟩ := h.noted
  have record := manifestNoted_record u i g
  rw [alike.ctx] at record
  exact record

theorem Recorded.checkable (h : Recorded s v r w i g ms) :
    (r.ctx i).total = .manifest g.total.toNat (ManifestSegment.expected g) ∧ (r.ctx i).receiving = true :=
  ⟨h.filled.standing.recorded, h.filled.standing.running⟩

/-- The record at the end. -/
theorem Recorded.record (h : Recorded s v r w i g ms) : ∃ state timer cause staged blocks owed, w.ctx i =
    { s.ctx i with
      total := .manifest g.total.toNat (ManifestSegment.expected g), damaged := 0
      retired := (r.ctx i).retired, extents := (r.ctx i).extents, area0 := (r.ctx i).area0, area1 := (r.ctx i).area1
      state := state, timer := timer, cause := cause, staged := staged, blocksHeld := blocks, owed := owed } := by
  obtain ⟨recorded, running⟩ := h.checkable
  obtain ⟨state, timer, cause, staged, blocks, owed, record⟩ := completionCheck_record recorded running
  have before := h.filled.record
  have noted := h.notedRecord
  rw [← h.checked] at record
  generalize r.ctx i = b at record before ⊢
  generalize v.ctx i = a at before noted
  refine ⟨state, timer, cause, staged, blocks, owed, ?_⟩
  rw [record, before, noted]
  rfl

theorem Recorded.area (h : Recorded s v r w i g ms) (p : Nat) : (w.ctx i).area p = (r.ctx i).area p := by
  obtain ⟨_, _, _, _, _, _, record⟩ := h.record
  rw [record]
  rfl

theorem Recorded.edge (h : Recorded s v r w i g ms) : (w.ctx i).edge = (s.ctx i).edge := by
  obtain ⟨_, _, _, _, _, _, record⟩ := h.record
  have kept := h.filled.keeps
  rw [h.notedRecord] at kept
  rw [record]
  exact kept

theorem Recorded.sameWindows (h : Recorded s v r w i g ms) : (v.ctx i).w = (s.ctx i).w := by rw [h.notedRecord]; rfl

theorem Recorded.retired (h : Recorded s v r w i g ms) :
    (v.ctx i).retired = (s.ctx i).retired ∧ (w.ctx i).retired = (r.ctx i).retired := by
  obtain ⟨_, _, _, _, _, _, record⟩ := h.record
  refine ⟨by rw [h.notedRecord]; rfl, by rw [record]⟩

theorem Recorded.tellsNoted (h : Recorded s v r w i g ms) : Tells (isNoted i) s v := by
  obtain ⟨u, alike, rfl⟩ := h.noted
  exact alike.tells.trans (manifestNoted_tells u i g)

theorem Recorded.tellsChecked (h : Recorded s v r w i g ms) : Tells isEnding r w := by
  obtain ⟨recorded, running⟩ := h.checkable
  rw [h.checked]
  exact completionCheck_tells recorded running

theorem Recorded.resumed (h : Recorded s v r w i g ms) (stalled : (s.ctx i).state = .stalled)
    (asked : (s.effMask i).resumed = true) : Charged w i .resumed (.resumed i) := by
  have tells := h.filled.tells
  have later := h.tellsChecked
  obtain ⟨u, alike, rfl⟩ := h.noted
  exact later.charged (tells.charged
    (manifestNoted_resumed u i g (by rw [alike.ctx]; exact stalled) (by rw [alike.effMask]; exact asked)))

/-- An area before retirement: cut by a first total, and as it stood otherwise. -/
theorem Recorded.cut (h : Recorded s v r w i g ms) (safe : ExtentsSafe s) (first : (s.ctx i).total = .absent) {p : Nat}
    (low : p < 2) : CutBy s v i g.total.toNat p := by
  obtain ⟨u, alike, rfl⟩ := h.noted
  refine (manifestNoted_cut u i g ?_ (by rw [alike.ctx]; exact safe.parity i) low).of_alike alike
  rw [alike.ctx, isNone_iff_absent, first]
  rfl

theorem Recorded.uncut (h : Recorded s v r w i g ms) (later : (s.ctx i).total ≠ .absent) (p : Nat) :
    (v.ctx i).area p = (s.ctx i).area p := by
  obtain ⟨u, alike, rfl⟩ := h.noted
  rw [manifestNoted_area u i g (by rw [alike.ctx, isNone_iff_absent]; simpa using later), alike.ctx]

theorem Recorded.areaDigest (h : Recorded s v r w i g ms) (safe : ExtentsSafe s) (p : Nat) :
    ((v.ctx i).area p).digest = ((s.ctx i).area p).digest := by
  by_cases first : (s.ctx i).total = .absent
  · have cut := (h.cut safe first (Nat.mod_lt p (by decide : 2 > 0))).area
    rw [area_even _ (Nat.mod_mod p 2), area_even (s.ctx i) (Nat.mod_mod p 2)] at cut
    rw [cut, cutArea_digest]
  · rw [h.uncut first]

theorem Recorded.areaCut (h : Recorded s v r w i g ms) (safe : ExtentsSafe s) (first : (s.ctx i).total = .absent) {p : Nat}
    (low : p < 2) : AreaCut s w i g.total.toNat p := by
  have cut := h.cut safe first low
  obtain ⟨before, after⟩ := h.retired
  refine ⟨?_, fun n window set unset asked => h.tellsChecked.charged (h.filled.tells.charged
    (cut.charged n window set unset asked))⟩
  have cases_ := h.filled.area_cases h.standing.parity p
  rw [cut.area, before, ← after, ← h.area] at cases_
  exact cases_

theorem Recorded.areaKept (h : Recorded s v r w i g ms) (later : (s.ctx i).total ≠ .absent) (p : Nat) :
    (w.ctx i).area p = (s.ctx i).area p ∨
      ((w.ctx i).area p = { (s.ctx i).area p with state := .filled } ∧ (s.ctx i).retired < (w.ctx i).retired) := by
  obtain ⟨before, after⟩ := h.retired
  have cases_ := h.filled.area_cases h.standing.parity p
  rw [h.uncut later, before, ← after, ← h.area] at cases_
  exact cases_.imp_right fun ⟨area, _, rises⟩ => ⟨area, rises⟩

/-- The window at the retired edge retired: its notice. -/
theorem Recorded.windowTold (h : Recorded s v r w i g ms) (safe : ExtentsSafe s) {n : Nat}
    (start : (s.ctx i).retired = n * windowSize (s.ctx i).windowSelect) (rises : (w.ctx i).retired ≠ (s.ctx i).retired) :
    Charged w i .windowFilled (.windowFilled i (n % 2) n
      (min (windowSize (s.ctx i).windowSelect) (g.total.toNat - (s.ctx i).retired)) ((s.ctx i).area n).digest) := by
  obtain ⟨before, after⟩ := h.retired
  have up := h.filled.rises
  have bound := h.filled.standing.bound
  have size : (v.ctx i).w = windowSize (s.ctx i).windowSelect := h.sameWindows
  have low : n * (v.ctx i).w < g.total.toNat := by rw [size]; omega
  have mem : n ∈ ms := (h.filled.range n).2 ⟨by rw [size]; omega, by rw [size]; omega⟩
  have told := h.tellsChecked.charged (h.filled.told n mem)
  have next : (n + 1) * (v.ctx i).w = n * (v.ctx i).w + (v.ctx i).w := Nat.succ_mul ..
  have length : (v.ctx i).windowLength n =
      min (windowSize (s.ctx i).windowSelect) (g.total.toNat - (s.ctx i).retired) := by
    rw [windowLength_eq h.standing.totalBytes low, windowEnd_eq h.standing.totalBytes, next, size, start]
    omega
  unfold filledNotice at told
  rw [length, h.areaDigest safe] at told
  exact told

/-- A notice that a manifest sends before the completion check. -/
def isProgress (i : Nat) (n : Notice) : Prop := isNoted i n ∨ ∃ p m length d, n = .windowFilled i p m length d

theorem Recorded.tellsRetired (h : Recorded s v r w i g ms) : Tells (isProgress i) s r := by
  refine (h.tellsNoted.mono fun n => .inl).trans (h.filled.tells.mono ?_)
  rintro n ⟨m, _, rfl⟩
  exact .inr ⟨_, _, _, _, rfl⟩

/-- No notice of a group goes out before the completion check. -/
theorem Recorded.groupsQuiet (h : Recorded s v r w i g ms) {n : Notice} (mem : n ∈ r.notice.queue)
    (ofGroup : (∃ leader k m, n = .groupDone leader k m) ∨ ∃ leader k why m, n = .groupFailed leader k why m) :
    n ∈ s.notice.queue := by
  refine (h.tellsRetired.new mem).resolve_right fun told => ?_
  rcases ofGroup with ⟨_, _, _, rfl⟩ | ⟨_, _, _, _, rfl⟩ <;>
    rcases told with (e | ⟨_, _, _, e⟩) | ⟨_, _, _, _, e⟩ <;> exact Notice.noConfusion e

theorem Recorded.groups (h : Recorded s v r w i g ms) : r.groups = s.groups := by
  obtain ⟨u, alike, noted⟩ := h.noted
  obtain ⟨_, _, _, _, groups, _⟩ := manifestNoted_frame u i g
  rw [← noted] at groups
  exact (h.filled.rest.groups.trans groups).trans alike.groups

theorem Recorded.holdFields (h : Recorded s v r w i g ms) (j : Nat) : holdFields (r.ctx j) = holdFields (s.ctx j) := by
  have filled := h.filled
  obtain ⟨u, alike, noted⟩ := h.noted
  have before : Contexts.holdFields (v.ctx j) = Contexts.holdFields (s.ctx j) := by
    rw [noted, manifestNoted_holdFields, alike.ctx]
  rw [← before]
  by_cases own : j = i
  · rw [own, filled.record]; rfl
  · rw [filled.others j own]

/-- The records before the completion check. -/
theorem Recorded.staged (h : Recorded s v r w i g ms) (q : Nat) :
    r.staged q = (s.staged q).map (v.judgedAgain fun k => k == i && (s.ctx i).total == .absent) := by
  have same : r.staged q = v.staged q := by unfold State.staged; rw [h.filled.rest.staging]
  obtain ⟨u, alike, rfl⟩ := h.noted
  rw [same, manifestNoted_staged, alike.staged, alike.ctx, isNone_iff_absent]

/-- Retirement leads to where a failure of the completion check begins. -/
theorem Recorded.leadsTo (h : Recorded s v r w i g ms) : LeadsTo s r i where
  groups := h.groups
  actions := by
    obtain ⟨u, alike, noted⟩ := h.noted
    obtain ⟨_, _, _, actions, _⟩ := manifestNoted_frame u i g
    rw [← noted] at actions
    exact (h.filled.rest.actions.trans actions).trans alike.actions
  holdFields := h.holdFields
  staged q rec at_ := by
    obtain ⟨st, judged, same, unwritten⟩ :=
      judgedAgain_cases v (fun k => k == i && (s.ctx i).total == .absent) rec
    refine ⟨st, ?_, fun other => same (by simp [other]), unwritten⟩
    rw [h.staged, at_, Option.map_some, judged]
  constrained := by
    rw [h.filled.rest.staging]
    obtain ⟨u, alike, rfl⟩ := h.noted
    rw [manifestNoted_constrained, alike.staging]
  queue leader k why member mem := h.groupsQuiet mem (.inr ⟨_, _, _, _, rfl⟩)

/-- How the completion check ends the context (R22 to R24). -/
theorem Recorded.ends (h : Recorded s v r w i g ms) (conserved : StagingConserved s) :
    if (w.ctx i).retired = g.total.toNat then
      (if (s.ctx i).digest = ManifestSegment.expected g then Completed s w i else Failed s w i .digestMismatch)
    else (w.ctx i).state = .active ∧ (w.ctx i).timer = fullStall (s.ctx i).stallSelect ∧ w.groups = s.groups := by
  obtain ⟨recorded, running⟩ := h.checkable
  obtain ⟨_, after⟩ := h.retired
  have digest : (r.ctx i).digest = (s.ctx i).digest := by
    rw [h.filled.record, h.notedRecord]; rfl
  have sorted : Table.sorted r.staging.pool := by
    rw [h.filled.rest.staging]
    obtain ⟨u, alike, rfl⟩ := h.noted
    exact manifestNoted_sorted u i g (by rw [alike.staging]; exact conserved.sorted)
  rw [after, ← digest]
  cases completionCheck_cases recorded running with
  | short below same =>
    have unchanged : w = r := h.checked.trans same
    rw [if_neg below, unchanged]
    have state : (r.ctx i).state = .active ∧ (r.ctx i).timer = fullStall (s.ctx i).stallSelect := by
      rw [h.filled.record, h.notedRecord]; exact ⟨rfl, rfl⟩
    exact ⟨state.1, state.2, h.groups⟩
  | done reached equal ends =>
    have completed := done_completed (s := r) (i := i) (recorded.trans (by rw [equal])) reached
    rw [if_pos reached, if_pos equal, h.checked, ends]
    exact completed_of h.groups (congrArg Prod.fst (h.holdFields i) :)
      (fun leader k n mem => h.groupsQuiet mem (.inl ⟨_, _, _, rfl⟩)) completed
  | failed reached differs ends =>
    rw [if_pos reached, if_neg differs, h.checked, ends]
    exact h.leadsTo.failed (fail_failed running sorted .digestMismatch)

/-- Records are judged again where the manifest's is a first total, when nothing retires and nothing fails. -/
theorem Recorded.rejudged (h : Recorded s v r w i g ms) (unfailed : (w.ctx i).state ≠ .failed)
    (still : (w.ctx i).retired = (s.ctx i).retired) : Rejudged s w fun j => j == i && (s.ctx i).total == .absent := by
  obtain ⟨recorded, running⟩ := h.checkable
  obtain ⟨before, after⟩ := h.retired
  have filled := h.filled
  have judges : ∀ j, JudgesAlike v w j ∧ w.staging = r.staging := fun j => by
    rw [h.checked] at unfailed ⊢
    obtain ⟨later, staging⟩ := completionCheck_judgesAlike recorded running unfailed j
    refine ⟨JudgesAlike.trans ⟨fun n => ?_, ?_, ?_⟩ later, staging⟩
    · by_cases own : j = i
      · rw [own, (filled.area_cases h.standing.parity n).resolve_right fun moved => by
          obtain ⟨_, _, rises⟩ := moved
          omega]
        exact ⟨rfl, rfl⟩
      · rw [filled.others j own]; exact ⟨rfl, rfl⟩
    · refine effHold_congr filled.rest.groups filled.rest.actions (fun k => ?_) j
      by_cases own : k = i
      · rw [own, filled.record]; rfl
      · rw [filled.others k own]
    · by_cases own : j = i
      · rw [own, filled.record]
      · rw [filled.others j own]
  intro q
  have same : w.staged q = r.staged q := by unfold State.staged; rw [(judges i).2]
  rw [same, h.staged]
  exact congrArg (fun f => Option.map f (s.staged q)) (funext fun rec => ((judges rec.owner).1.judgedAgain _).symm)

/-- What R104 to R106 say, from before the manifest to after the completion check. -/
theorem Recorded.retiresAll (h : Recorded s v r w i g ms) (safe : ExtentsSafe s) (running : (s.ctx i).receiving = true) :
    Retires s w i
      { s.ctx i with
        total := .manifest g.total.toNat (ManifestSegment.expected g)
        area0 := if (s.ctx i).total = .absent then (s.ctx i).cutArea g.total.toNat (s.ctx i).area0 else (s.ctx i).area0
        area1 := if (s.ctx i).total = .absent then (s.ctx i).cutArea g.total.toNat (s.ctx i).area1 else (s.ctx i).area1 }
      (s.pieceLeft i fun _ => false) := by
  have left : s.pieceLeft i (fun _ => false) = v.pieceStaged i := by
    obtain ⟨u, alike, rfl⟩ := h.noted
    rw [pieceLeft_eq, manifestNoted_pieceStaged, alike.pieceStaged]
  have area : ∀ p, p < 2 → (v.ctx i).area p =
      if (s.ctx i).total = .absent then (s.ctx i).cutArea g.total.toNat ((s.ctx i).area p) else (s.ctx i).area p :=
    fun p low => by
      split
      · next first => exact (h.cut safe first low).area
      · next later => exact h.uncut later p
  obtain ⟨_, _, _, _, _, _, record⟩ := h.record
  have area0 := area 0 (by decide)
  have area1 := area 1 (by decide)
  have noted := h.notedRecord
  rw [left]
  refine retires_of h.retires ⟨fullStall (s.ctx i).stallSelect, 0, (v.ctx i).owed, ?_⟩ running h.tellsNoted ?_
    h.tellsChecked (fun n => id) h.retired.2 (by rw [record]) h.area
  · generalize v.ctx i = c at noted area0 area1 ⊢
    have first : c.area0 = _ := area0
    have second : c.area1 = _ := area1
    rw [noted, first, second]
    rfl
  · rintro n (rfl | ⟨_, _, _, rfl⟩) j p m length d e <;> exact Notice.noConfusion e

theorem Recorded.frame (h : Recorded s v r w i g ms) : w.intake = s.intake ∧ w.map = s.map ∧ w.verify = s.verify ∧
    w.command = s.command ∧ w.delivery = s.delivery ∧ w.hostSettings = s.hostSettings := by
  have rest := h.filled.rest
  have later := h.tellsChecked.ring
  have before := h.tellsRetired.ring
  have checked := h.checked
  obtain ⟨u, alike, noted⟩ := h.noted
  obtain ⟨intake, map, delivery, actions, _, verify, command, resets⟩ := manifestNoted_frame u i g
  obtain ⟨intake', map', delivery', actions', verify', command', resets', _⟩ := completionCheck_frame r i
  rw [← noted] at intake map delivery actions verify command resets
  rw [← checked] at intake' map' delivery' actions' verify' command' resets'
  have intakeAll := ((intake'.trans rest.intake).trans intake).trans alike.intake
  have deliveryAll := ((delivery'.trans rest.delivery).trans delivery).trans alike.delivery
  have commandAll := ((command'.trans rest.command).trans command).trans alike.command
  have actionsAll := ((actions'.trans rest.actions).trans actions).trans alike.actions
  have resetsAll := ((resets'.trans rest.resets).trans resets).trans alike.resets
  obtain ⟨base, size, consumer⟩ := before
  obtain ⟨base', size', consumer'⟩ := later
  refine ⟨intakeAll, ((map'.trans rest.map).trans map).trans alike.map,
    ((verify'.trans rest.verify).trans verify).trans alike.verify, commandAll, deliveryAll, ?_⟩
  unfold State.hostSettings
  rw [intakeAll, deliveryAll, commandAll, actionsAll, resetsAll, base', base, size', size, consumer', consumer]

end

/-- Settles O34: the manifest is noted, up to two windows retire, and the completion check ends the context or leaves it
ACTIVE. -/
theorem manifestIsRecorded : Obligations.ManifestIsRecorded := by
  intro s g i taking safe conserved shape found running level total high
  obtain ⟨alike, _⟩ := signalStage_alike level
  obtain ⟨r, ms, h⟩ := recordManifest_recorded alike safe total high
  have accepted : s.takeManifest g = ((s.signalStage i g.signal).1.recordManifest i g).answer i .accepted := by
    rw [takeManifest_of_found taking shape found, manifestStages_of_receiving running,
      manifestStage_of_accepted (by rw [alike.ctx]; exact total) (by rw [alike.ctx]; exact high)]
  have exec := (exec_manifest_idle taking g).trans (by rw [accepted])
  generalize (s.signalStage i g.signal).1.recordManifest i g = w at h exec
  generalize manifestNoted (s.signalStage i g.signal).1 i g = v at h
  obtain ⟨_, _, _, _, _, _, record⟩ := h.record
  obtain ⟨intake, map, verify, command, delivery, settings⟩ := h.frame
  have rises := h.filled.rises
  rw [h.retired.1, ← h.retired.2] at rises
  have ends := h.ends conserved
  refine ⟨(w.answer i .accepted).returned g.link g.handle 2, exec, ?_, ?_, ?_, ?_, ?_, h.edge, rises, h.resumed,
    fun first p low => h.areaCut safe first low, fun later p _ => h.areaKept later p, fun n => h.windowTold safe,
    retires_returned (a := w.answer i .accepted) (h.retiresAll safe running) .., ?_, h.rejudged, ?_, ?_, ?_, map, verify,
    command, delivery, settings⟩
  · rw [← h.edge]; exact returned_lane ..
  · rw [← h.edge]; exact returned_intake _ _ _ _ intake
  · exact (congrArg Ctx.total record :)
  · exact (congrArg Ctx.digest record :)
  · exact (congrArg Ctx.damaged record :)
  · by_cases reached : (w.ctx i).retired = g.total.toNat
    · rw [if_pos reached] at ends
      refine (if_pos reached).mpr ?_
      by_cases equal : (s.ctx i).digest = ManifestSegment.expected g
      · rw [if_pos equal] at ends
        exact (if_pos equal).mpr (completed_returned (a := w.answer i .accepted) ends ..)
      · rw [if_neg equal] at ends
        exact (if_neg equal).mpr (failed_returned (a := w.answer i .accepted) ends ..)
    · rw [if_neg reached] at ends
      exact (if_neg reached).mpr ends
  · exact (congrArg Ctx.key record :)
  · exact (congrArg Ctx.signal record :)
  · exact (congrArg Ctx.generation record :)

end Sys2Proof.SegmentIntake
end

section
/-! The signal stage of a context that is not exclusive (R34, R135): the level, the notice, the hold. -/

namespace Sys2Proof.SegmentIntake

open Sys2Proof Sys2Proof.Machine Sys2Proof.Laws Sys2Proof.Contexts

/-! ## Re-evaluation where the effective hold changed -/

/-- A re-evaluation by the hold, seen from the state before (R134). -/
theorem rejudgeHolds_rejudged {s t : State} (before : t.staging = s.staging) : Rejudged s (t.rejudgeHolds s)
    (s.holdChanged (t.rejudgeHolds s)) := fun r => by
  have same : t.staged r = s.staged r := by unfold State.staged; rw [before]
  unfold State.rejudgeHolds
  rw [staged_rejudge, same]
  refine congrArg (fun f => Option.map f (s.staged r)) (funext fun rec => ?_)
  rw [judgedAgain_eq t (fun k => s.effHold k != t.effHold k) rec]
  exact judgedAgain_congr rfl rfl (bne_comm (a := s.effHold rec.owner))

/-! ## The level recorded -/

/-- The level rises. -/
def rises (s : State) (i : Nat) (level : Bool) : Bool := level && !(s.ctx i).signal

theorem rises_iff {s : State} {i : Nat} {level : Bool} :
    rises s i level = true ↔ level = true ∧ (s.ctx i).signal = false := by simp [rises]

/-- The level stands in the record. -/
def leveled (s : State) (i : Nat) (level : Bool) : State := s.modCtx i fun c => { c with signal := level }

/-- A rise has told of itself where the action set has NOTIFY. -/
def signalTold (s : State) (i : Nat) (level : Bool) : State :=
  if rises s i level && s.actions.notify then
    (leveled s i level).notifyMasked i NoticeMask.senderSignal .senderSignal (.senderSignal i)
  else leveled s i level

/-- The signal stage but for its restart. -/
def signalled (s : State) (i : Nat) (level : Bool) : State := (signalTold s i level).rejudgeHolds s

/-- A rise restarts the context. -/
def restartAsked (s : State) (i : Nat) (level : Bool) : Bool :=
  rises s i level && (s.actions.restart && !(s.ctx i).areaFaulted)

theorem restartAsked_iff {s : State} {i : Nat} {level : Bool} : restartAsked s i level = true ↔
    level = true ∧ (s.ctx i).signal = false ∧ s.actions.restart = true ∧ (s.ctx i).area0.faulted = false ∧
      (s.ctx i).area1.faulted = false := by
  simp [restartAsked, rises, Ctx.areaFaulted, and_assoc]

theorem signalStage_eq {s : State} {i : Nat} (shared : (s.ctx i).exclusive = false) (level : Bool) :
    s.signalStage i level =
      if restartAsked s i level then ((signalled s i level).restart i, true) else (signalled s i level, false) := by
  have told : rises s i level = true → signalTold s i level =
      if s.actions.notify then
        (leveled s i level).notifyMasked i NoticeMask.senderSignal .senderSignal (.senderSignal i)
      else leveled s i level := fun up => by
    unfold signalTold
    rw [up, Bool.true_and]
  unfold State.signalStage
  dsimp only
  rw [if_neg (by simp [shared])]
  by_cases up : rises s i level = true
  · have asked : restartAsked s i level = (s.actions.restart && !(s.ctx i).areaFaulted) := by
      unfold restartAsked; rw [up, Bool.true_and]
    unfold signalled
    rw [told up, asked]
    exact if_pos up
  · have none : restartAsked s i level = false := by unfold restartAsked; simp [up]
    have quiet : signalTold s i level = leveled s i level := if_neg (by simp [up])
    rw [none]
    unfold signalled
    rw [quiet]
    exact if_neg up

section
variable (s : State) (i : Nat) (level : Bool)

theorem leveled_ctx (j : Nat) : (leveled s i level).ctx j =
    if j = i then { s.ctx i with signal := level } else s.ctx j := ctx_modCtx ..

theorem leveled_mask : (leveled s i level).effMask i = s.effMask i :=
  modCtx_effMask s i (f := fun c => { c with signal := level }) (fun _ => ⟨rfl, rfl⟩) i

theorem signalTold_owedOnly : OwedOnly (leveled s i level) (signalTold s i level) := by
  unfold signalTold
  split
  · exact owedOnly_notifyMasked ..
  · exact owedOnly_of_same fun _ => rfl

theorem signalTold_frame : RecordsOnly s (signalTold s i level) := by
  unfold signalTold
  split <;> constructor <;> simp [leveled]

/-- What the stage but for its restart writes. -/
theorem signalled_record : (signalled s i level).ctx i =
    { s.ctx i with signal := level, owed := ((signalled s i level).ctx i).owed } := by
  have record := (signalTold_owedOnly s i level).record i
  rw [leveled_ctx, if_pos rfl] at record
  exact record

theorem signalled_others {j : Nat} (other : j ≠ i) : (signalled s i level).ctx j = s.ctx j := by
  have same : (signalTold s i level).ctx j = s.ctx j := by
    unfold signalTold
    split
    · rcases notifyMasked_cases (leveled s i level) i NoticeMask.senderSignal .senderSignal (.senderSignal i) with
        ⟨eq, _⟩ | ⟨eq, _⟩ <;> rw [eq]
      · rw [leveled_ctx, if_neg other]
      · rw [notify_ctx_other _ _ _ _ other, leveled_ctx, if_neg other]
    · rw [leveled_ctx, if_neg other]
  exact same

theorem signalled_frame : (signalled s i level).intake = s.intake ∧ (signalled s i level).map = s.map ∧
    (signalled s i level).delivery = s.delivery ∧ (signalled s i level).actions = s.actions ∧
    (signalled s i level).groups = s.groups ∧ (signalled s i level).verify = s.verify ∧
    (signalled s i level).command = s.command ∧ (signalled s i level).resets = s.resets := by
  have frame := signalTold_frame s i level
  exact ⟨frame.intake, frame.map, frame.delivery, frame.actions, frame.groups, frame.verify, frame.command, frame.resets⟩

theorem signalled_room : SameRoom s (signalled s i level) :=
  SameRoom.trans (t := signalTold s i level) (sameRoom_of_same (signalTold_frame s i level).staging)
    (sameRoom_rejudge (signalTold s i level) fun k => s.effHold k != (signalTold s i level).effHold k)

theorem signalled_rejudged : Rejudged s (signalled s i level) (s.holdChanged (signalled s i level)) :=
  rejudgeHolds_rejudged (signalTold_frame s i level).staging

theorem signalled_sorted (sorted : Table.sorted s.staging.pool) : Table.sorted (signalled s i level).staging.pool := by
  refine sorted_map _ (fun e => ?_) (by rw [(signalTold_frame s i level).staging]; exact sorted)
  split <;> rfl

/-- SENDER_SIGNAL goes out of a rise, where the action set and the mask hold it (R135, R155). -/
theorem signalled_told :
    if level = true ∧ (s.ctx i).signal = false ∧ s.actions.notify = true ∧ (s.effMask i).senderSignal = true then
      NoticeGiven s (signalled s i level) i .senderSignal (.senderSignal i)
    else NoNotice s (signalled s i level) i := by
  have owed : ((leveled s i level).ctx i).owed = (s.ctx i).owed := by rw [leveled_ctx, if_pos rfl]
  have quiet : ∀ t : State, t = leveled s i level → NoNotice s t i := by
    rintro t rfl
    exact ⟨rfl, owed⟩
  show if _ then NoticeGiven s (signalTold s i level) i _ _ else NoNotice s (signalTold s i level) i
  unfold signalTold
  by_cases notifies : (rises s i level && s.actions.notify) = true
  · obtain ⟨up, notify⟩ := Bool.and_eq_true_iff.1 notifies
    obtain ⟨one, zero⟩ := rises_iff.1 up
    rw [if_pos notifies]
    rcases notifyMasked_cases (leveled s i level) i NoticeMask.senderSignal .senderSignal (.senderSignal i) with
      ⟨eq, masked⟩ | ⟨eq, holds⟩ <;> rw [eq]
    · rw [leveled_mask] at masked
      rw [if_neg (by simp [masked])]
      exact quiet _ rfl
    · rw [leveled_mask] at holds
      rw [if_pos ⟨one, zero, notify, holds⟩]
      have given := notify_given (leveled s i level) i .senderSignal (.senderSignal i)
      unfold NoticeGiven at given ⊢
      rw [owed] at given
      exact given
  · rw [if_neg notifies, if_neg fun h => notifies (by
      rw [Bool.and_eq_true_iff, rises_iff]
      exact ⟨⟨h.1, h.2.1⟩, h.2.2.1⟩)]
    exact quiet _ rfl

/-- The signal holds its own context only. -/
theorem signalled_effHold {j : Nat} (other : j ≠ i) : (signalled s i level).effHold j = s.effHold j := by
  obtain ⟨_, _, _, actions, groups, _⟩ := signalled_frame s i level
  have host : ∀ k, ((signalled s i level).ctx k).hostHold = (s.ctx k).hostHold := fun k => by
    by_cases own : k = i
    · rw [own, signalled_record]
    · rw [signalled_others s i level own]
  unfold State.effHold State.groupHold State.governor
  simp only [host, group_of_groups groups, actions, signalled_others s i level other]

theorem signalled_mask (j : Nat) : (signalled s i level).effMask j = s.effMask j := by
  obtain ⟨_, _, _, _, groups, _⟩ := signalled_frame s i level
  refine effMask_congr groups (fun k => ?_) j
  by_cases own : k = i
  · rw [own, signalled_record]; exact ⟨rfl, rfl⟩
  · rw [signalled_others s i level own]; exact ⟨rfl, rfl⟩

end

end Sys2Proof.SegmentIntake
end

section
/-! The abort of a restarted context's verify requests (R166). -/

namespace Sys2Proof.SegmentIntake

open Sys2Proof Sys2Proof.Machine Sys2Proof.Laws Sys2Proof.Contexts

/-! ## What verify requests change -/

/-- A notice of an ended verify request. -/
def isVerifyResult (n : Notice) : Prop := ∃ j p w o, n = .verifyResult j p w o

/-- Between two states verify requests went on: of the areas only their verify status changed, and VERIFY_RESULTs went
out. -/
structure VerifyOnly (s t : State) : Prop where
  areas : ∀ j p, (t.ctx j).area p = { (s.ctx j).area p with verify := ((t.ctx j).area p).verify }
  tells : Tells isVerifyResult s t

/-- An area that shows ABORTED goes on showing it. -/
def StaysAborted (i : Nat) (s t : State) : Prop :=
  ∀ p, ((s.ctx i).area p).verify = .aborted → ((t.ctx i).area p).verify = .aborted

section
variable {s t u : State} {i : Nat}

theorem verifyOnly_of_same (records : ∀ j, t.ctx j = s.ctx j) (notice : t.notice = s.notice) : VerifyOnly s t where
  areas j p := by rw [records]
  tells := tells_of_same notice fun j => by rw [records]

theorem VerifyOnly.trans (h : VerifyOnly s t) (g : VerifyOnly t u) : VerifyOnly s u where
  areas j p := by
    have first := h.areas j p
    have second := g.areas j p
    generalize (t.ctx j).area p = a at first second
    rw [second, first]
  tells := h.tells.trans g.tells

theorem StaysAborted.trans (h : StaysAborted i s t) (g : StaysAborted i t u) : StaysAborted i s u :=
  fun p aborted => g p (h p aborted)

theorem staysAborted_of_same (records : ∀ j, t.ctx j = s.ctx j) : StaysAborted i s t := fun p h => by rw [records]; exact h

theorem OwedOnly.area (h : OwedOnly s t) (j p : Nat) : (t.ctx j).area p = (s.ctx j).area p := by rw [h.record]; rfl

theorem OwedOnly.staysAborted (h : OwedOnly s t) : StaysAborted i s t := fun p aborted => by rw [h.area]; exact aborted

end

section
variable (s : State) (i p : Nat) (v : VerifyStatus)

theorem setVerify_area (j q : Nat) : ((s.setVerify i p v).ctx j).area q =
    if j = i ∧ q % 2 = p % 2 then { (s.ctx i).area p with verify := v } else (s.ctx j).area q := by
  unfold State.setVerify
  rw [ctx_modCtx]
  by_cases own : j = i
  · rw [if_pos own, area_setArea, own]
    by_cases even : q % 2 = p % 2
    · rw [if_pos even, if_pos ⟨rfl, even⟩]
    · rw [if_neg even, if_neg fun h => even h.2]
  · rw [if_neg own, if_neg fun h => own h.1]

theorem verifyOnly_setVerify : VerifyOnly s (s.setVerify i p v) where
  areas j q := by
    rw [setVerify_area]
    split
    · next h => rw [h.1, area_even (s.ctx i) h.2]
    · rfl
  tells := tells_of_same rfl (setVerify_owed s i p v)

theorem setVerify_aborted : (((s.setVerify i p .aborted).ctx i).area p).verify = .aborted := by
  rw [setVerify_area, if_pos ⟨rfl, rfl⟩]

theorem staysAborted_setVerify (own : Nat) (h : own ≠ i ∨ v = .aborted) : StaysAborted own s (s.setVerify i p v) :=
  fun q aborted => by
    rw [setVerify_area]
    split
    · next same => exact h.resolve_left fun ne => ne same.1
    · exact aborted

end

section
variable (s : State) (r : VerifyRequest) (o : VerifyOutcome)

theorem verifyNotice_owedOnly : OwedOnly s (s.verifyNotice r o) := by
  unfold State.verifyNotice
  dsimp only
  split
  · exact owedOnly_of_same fun j => pushOrDrop_ctx ..
  · exact owedOnly_notify ..

theorem verifyNotice_tells : Tells isVerifyResult s (s.verifyNotice r o) := by
  unfold State.verifyNotice
  dsimp only
  split
  · rcases pushOrDrop_cases s (.verifyResult r.context r.area r.window o) with ⟨eq, _⟩ | ⟨eq, _⟩ <;> rw [eq]
    · exact tells_of_same rfl fun _ => rfl
    · exact ⟨⟨[_], rfl, fun n mem => ⟨_, _, _, _, List.mem_singleton.1 mem⟩⟩, fun _ _ h => h, rfl, rfl, rfl⟩
  · exact (tells_notify ..).mono fun n h => ⟨_, _, _, _, h⟩

theorem verifyOnly_verifyNotice : VerifyOnly s (s.verifyNotice r o) where
  areas j p := by rw [(verifyNotice_owedOnly s r o).area]
  tells := verifyNotice_tells s r o

theorem verifyOnly_verifyOutcome : VerifyOnly s (s.verifyOutcome r o) := by
  unfold State.verifyOutcome
  split
  · exact verifyOnly_verifyNotice ..
  · exact (verifyOnly_setVerify ..).trans (verifyOnly_verifyNotice ..)

theorem staysAborted_verifyOutcome (i : Nat) (h : i ≠ r.context ∨ o.status = .aborted) :
    StaysAborted i s (s.verifyOutcome r o) := by
  unfold State.verifyOutcome
  split
  · exact (verifyNotice_owedOnly ..).staysAborted
  · exact (staysAborted_setVerify _ _ _ _ i h).trans (verifyNotice_owedOnly ..).staysAborted

/-- A request not aborted before that ends shows its outcome. -/
theorem verifyOutcome_shows (fresh : r.aborted = false) :
    (((s.verifyOutcome r .aborted).ctx r.context).area r.area).verify = .aborted := by
  unfold State.verifyOutcome
  rw [if_neg (by simp [fresh]), (verifyNotice_owedOnly ..).area]
  exact setVerify_aborted ..

theorem verifyOutcome_charged (kept : r.byClose = false) : Charged (s.verifyOutcome r o) r.context .verifyResult
    (.verifyResult r.context r.area r.window o) := by
  unfold State.verifyOutcome State.verifyNotice
  dsimp only
  rw [if_neg (by simp [kept])]
  exact charged_of_given (notify_given ..)

end

theorem verifyOnly_startVerify (l : List VerifyRequest) (s : State) : VerifyOnly s (startVerify l s) := by
  induction l generalizing s with
  | nil => exact verifyOnly_of_same (fun _ => rfl) rfl
  | cons r l ih =>
    have active := verifyOnly_setVerify s r.context r.area .active
    unfold startVerify
    dsimp only
    split
    · exact active.trans (verifyOnly_of_same (fun _ => rfl) rfl)
    · exact (active.trans (verifyOnly_verifyOutcome ..)).trans (ih _)

theorem staysAborted_startVerify {i : Nat} (l : List VerifyRequest) (s : State) (others : ∀ r ∈ l, i ≠ r.context) :
    StaysAborted i s (startVerify l s) := by
  induction l generalizing s with
  | nil => exact staysAborted_of_same fun _ => rfl
  | cons r l ih =>
    have other := others r List.mem_cons_self
    have active := staysAborted_setVerify s r.context r.area .active i (.inl other)
    unfold startVerify
    dsimp only
    split
    · exact active.trans (staysAborted_of_same fun _ => rfl)
    · exact (active.trans (staysAborted_verifyOutcome _ _ _ i (.inl other))).trans
        (ih _ fun q hq => others q (List.mem_cons_of_mem _ hq))

theorem verifyOnly_nextVerify (s : State) (l : List VerifyRequest) : VerifyOnly s (s.nextVerify l) := by
  unfold State.nextVerify
  split
  · exact verifyOnly_of_same (fun _ => rfl) rfl
  · exact verifyOnly_startVerify l s

theorem staysAborted_nextVerify {i : Nat} (s : State) (l : List VerifyRequest) (others : ∀ r ∈ l, i ≠ r.context) :
    StaysAborted i s (s.nextVerify l) := by
  unfold State.nextVerify
  split
  · exact staysAborted_of_same fun _ => rfl
  · exact staysAborted_startVerify l s others

theorem verifyOnly_foldAbort (l : List VerifyRequest) (s : State) :
    VerifyOnly s (l.foldl (State.abortQueued false) s) := by
  induction l generalizing s with
  | nil => exact verifyOnly_of_same (fun _ => rfl) rfl
  | cons r l ih => rw [List.foldl_cons]; exact (verifyOnly_verifyOutcome ..).trans (ih _)

theorem staysAborted_foldAbort {i : Nat} (l : List VerifyRequest) (s : State) :
    StaysAborted i s (l.foldl (State.abortQueued false) s) := by
  induction l generalizing s with
  | nil => exact staysAborted_of_same fun _ => rfl
  | cons r l ih => rw [List.foldl_cons]; exact (staysAborted_verifyOutcome _ _ _ i (.inr rfl)).trans (ih _)

/-- A queued request of a restarted context: told of, and shown ABORTED unless a restart had marked it before (R166). -/
structure QueuedAborted (t : State) (q : VerifyRequest) : Prop where
  charged : Charged t q.context .verifyResult (.verifyResult q.context q.area q.window .aborted)
  shown : q.aborted = false → ((t.ctx q.context).area q.area).verify = .aborted

theorem QueuedAborted.later {s t : State} {q : VerifyRequest} (h : QueuedAborted s q) (only : VerifyOnly s t)
    (stays : StaysAborted q.context s t) : QueuedAborted t q where
  charged := only.tells.charged h.charged
  shown fresh := stays q.area (h.shown fresh)

theorem foldAbort_queuedAborted (l : List VerifyRequest) (s : State) :
    ∀ q ∈ l, QueuedAborted (l.foldl (State.abortQueued false) s) q := by
  induction l generalizing s with
  | nil => nofun
  | cons r l ih =>
    intro q mem
    rw [List.foldl_cons]
    rcases List.mem_cons.1 mem with rfl | mem
    · have now : QueuedAborted (State.abortQueued false s q) q :=
        ⟨verifyOutcome_charged s { q with byClose := false } .aborted rfl, verifyOutcome_shows s { q with byClose := false }⟩
      exact now.later (verifyOnly_foldAbort ..) (staysAborted_foldAbort l _)
    · exact ih _ q mem

/-! ## The abort (R166) -/

/-- What the abort of a restarted context's requests does (R166). -/
structure AbortedByRestart (s t : State) (i : Nat) : Prop where
  only : VerifyOnly s t
  queued : ∀ q ∈ s.verify.tail, q.context = i → QueuedAborted t q
  reading : ∀ a rest, s.verify = a :: rest → a.context = i → a.readOutstanding = true →
    t.verify = { a with aborted := true, byClose := a.aborted && a.byClose } :: othersOf i rest ∧
      (a.aborted = false → ((t.ctx i).area a.area).verify = .aborted)
  other : ∀ a rest, s.verify = a :: rest → a.context ≠ i → t.verify = a :: othersOf i rest

/-- The queued requests of a restarted context, behind the active one, aborted. -/
def restartAborted (s : State) (i : Nat) (act : VerifyRequest) (rest : List VerifyRequest) : State :=
  (rest.filter fun q => q.context == i).foldl (State.abortQueued false) { s with verify := act :: othersOf i rest }

section
variable {s v : State} {i : Nat} {act : VerifyRequest} {rest : List VerifyRequest}

theorem verifyOnly_restartAborted (s : State) (i : Nat) (act : VerifyRequest) (rest : List VerifyRequest) :
    VerifyOnly s (restartAborted s i act rest) :=
  VerifyOnly.trans (t := { s with verify := act :: othersOf i rest }) (verifyOnly_of_same (fun _ => rfl) rfl)
    (verifyOnly_foldAbort ..)

theorem restartAborted_verify (s : State) (i : Nat) (act : VerifyRequest) (rest : List VerifyRequest) :
    (restartAborted s i act rest).verify = act :: othersOf i rest := by
  unfold restartAborted
  simp only [foldAbort_frame]

/-- What goes on from the queued aborts with other requests keeps them. -/
theorem abortedByRestart_of (queue : s.verify = act :: rest) (only : VerifyOnly (restartAborted s i act rest) v)
    (stays : StaysAborted i (restartAborted s i act rest) v)
    (reading : act.context = i → act.readOutstanding = true →
      v.verify = { act with aborted := true, byClose := act.aborted && act.byClose } :: othersOf i rest ∧
        (act.aborted = false → ((v.ctx i).area act.area).verify = .aborted))
    (other : act.context ≠ i → v.verify = act :: othersOf i rest) : AbortedByRestart s v i where
  only := (verifyOnly_restartAborted s i act rest).trans only
  queued q mem own := by
    rw [queue] at mem
    have aborted := foldAbort_queuedAborted (rest.filter fun q => q.context == i)
      { s with verify := act :: othersOf i rest } q (List.mem_filter.2 ⟨mem, by simpa using own⟩)
    exact aborted.later only (own ▸ stays)
  reading a rest' h own reads := by
    obtain ⟨rfl, rfl⟩ := List.cons.inj (queue.symm.trans h)
    exact reading own reads
  other a rest' h ne := by
    obtain ⟨rfl, rfl⟩ := List.cons.inj (queue.symm.trans h)
    exact other ne

end

theorem abortVerify_byRestart (s : State) (i : Nat) : AbortedByRestart s (s.abortVerify i false) i := by
  unfold State.abortVerify
  split
  · next empty =>
    exact
      { only := verifyOnly_of_same (fun _ => rfl) rfl
        queued := fun q hq => by rw [empty] at hq; cases hq
        reading := fun a rest h => by rw [empty] at h; cases h
        other := fun a rest h => by rw [empty] at h; cases h }
  · next act rest queue =>
    dsimp only
    change AbortedByRestart s (if act.context != i then restartAborted s i act rest else _) i
    have behind : ∀ q ∈ othersOf i rest, i ≠ q.context := fun q mem => (othersOf_context mem).symm
    split
    · next ne =>
      have ne : act.context ≠ i := by simpa using ne
      exact abortedByRestart_of queue (verifyOnly_of_same (fun _ => rfl) rfl) (staysAborted_of_same fun _ => rfl)
        (fun own => absurd own ne) fun _ => restartAborted_verify ..
    · next eq =>
      have own : act.context = i := by simpa using eq
      split
      · next aborted =>
        refine abortedByRestart_of queue (verifyOnly_of_same (fun _ => rfl) rfl) (staysAborted_of_same fun _ => rfl)
          (fun _ _ => ⟨?_, fun fresh => absurd (aborted.symm.trans fresh) (by decide)⟩) fun ne => absurd own ne
        have marked : ({ act with byClose := act.byClose || false } : VerifyRequest) =
            { act with aborted := true, byClose := act.aborted && act.byClose } := by
          rw [Bool.or_false, aborted, Bool.true_and]
        exact congrArg (· :: othersOf i rest) marked
      · next fresh =>
        have fresh : act.aborted = false := by simpa using fresh
        have shown := setVerify_aborted (restartAborted s i act rest) i act.area
        have only := verifyOnly_setVerify (restartAborted s i act rest) i act.area .aborted
        have stays := staysAborted_setVerify (restartAborted s i act rest) i act.area .aborted i (.inr rfl)
        split
        · refine abortedByRestart_of queue (only.trans (verifyOnly_of_same (fun _ => rfl) rfl))
            (stays.trans (staysAborted_of_same fun _ => rfl)) (fun _ _ => ⟨?_, fun _ => shown⟩) fun ne => absurd own ne
          rw [fresh, Bool.false_and]
          rfl
        · next idle =>
          exact abortedByRestart_of queue
            ((only.trans (verifyOnly_verifyOutcome _ { act with aborted := true, byClose := false } .aborted)).trans
              (verifyOnly_nextVerify _ (othersOf i rest)))
            ((stays.trans (staysAborted_verifyOutcome _ _ _ i (.inr rfl))).trans (staysAborted_nextVerify _ _ behind))
            (fun _ reads => absurd reads idle) fun ne => absurd own ne

end Sys2Proof.SegmentIntake
end

section
/-! The restart of a context (R146). -/

namespace Sys2Proof.SegmentIntake

open Sys2Proof Sys2Proof.Machine Sys2Proof.Laws Sys2Proof.Contexts

/-- A record is its core, its areas and what it is owed. -/
theorem record_of_core {c d : Ctx} (h : Contexts.core d = Contexts.core c) :
    d = { c with area0 := d.area0, area1 := d.area1, owed := d.owed } := by
  cases c
  cases d
  simp only [Contexts.core, Ctx.mk.injEq] at h ⊢
  simp only [h, and_self]

/-! ## The group's account of a recovery (R156) -/

section
variable (s : State) (i : Nat)

theorem rejudged_self : Rejudged s s (s.holdChanged s) := fun r => by
  have stays : s.judgedAgain (s.holdChanged s) = id := by
    funext rec
    exact judgedAgain_of_not (by simp [State.holdChanged])
  rw [stays, Option.map_id_apply]

/-- The group with its failed count lowered. -/
def recoveryCounted (s : State) (g : Nat) : State := s.setGroup g { s.group g with failed := (s.group g).failed - 1 }

theorem memberRecovered_of_none {s : State} {i : Nat} (h : (s.ctx i).group = none) : s.memberRecovered i = s := by
  unfold State.memberRecovered
  rw [h]

theorem memberRecovered_of_some {s : State} {i g : Nat} (h : (s.ctx i).group = some g) :
    s.memberRecovered i = (recoveryCounted s g).rejudgeHolds s := by
  unfold State.memberRecovered
  rw [h]
  rfl

theorem memberRecovered_rejudged : Rejudged s (s.memberRecovered i) (s.holdChanged (s.memberRecovered i)) := by
  cases hg : (s.ctx i).group with
  | none => rw [memberRecovered_of_none hg]; exact rejudged_self s
  | some g => rw [memberRecovered_of_some hg]; exact rejudgeHolds_rejudged (t := recoveryCounted s g) rfl

theorem memberRecovered_room : SameRoom s (s.memberRecovered i) := by
  cases hg : (s.ctx i).group with
  | none => rw [memberRecovered_of_none hg]; exact sameRoom_of_same rfl
  | some g =>
    rw [memberRecovered_of_some hg]
    exact SameRoom.trans (t := recoveryCounted s g) (sameRoom_of_same rfl)
      (sameRoom_rejudge (recoveryCounted s g) fun k => s.effHold k != (recoveryCounted s g).effHold k)

theorem memberRecovered_group (h : Nat) : (s.memberRecovered i).group h =
    if (s.ctx i).group = some h then { s.group h with failed := (s.group h).failed - 1 } else s.group h := by
  cases hg : (s.ctx i).group with
  | none => rw [memberRecovered_of_none hg, if_neg (by simp)]
  | some g =>
    have groups : ((recoveryCounted s g).rejudgeHolds s).groups = (recoveryCounted s g).groups := rfl
    have counted : (recoveryCounted s g).group h =
        if h = g then { s.group g with failed := (s.group g).failed - 1 } else s.group h := group_setGroup ..
    rw [memberRecovered_of_some hg, group_of_groups groups, counted]
    by_cases e : h = g
    · rw [if_pos e, if_pos (by rw [e]), e]
    · rw [if_neg e, if_neg fun g' => e (Option.some.inj g').symm]

end

/-- The window that a restart gives area 1, as the statements write it (R100). -/
theorem restartWindow1_kept {b c : Ctx} (total : b.total = c.total.kept) (size : b.windowSelect = c.windowSelect) :
    b.restartWindow1 = c.secondWindow := by
  unfold Ctx.restartWindow1 Ctx.secondWindow Ctx.w
  rw [total, size]
  cases c.total <;> rfl

/-! ## The restart, step by step -/

section
variable (v : State) (i : Nat)

/-- Steps 1 to 6: the unwritten records freed, the jobs marked, the context's own fields. -/
def restartBegun (v : State) (i : Nat) : State := ((v.releaseUnwritten i).markOlder i).modCtx i Ctx.restarted

/-- The verify requests aborted. -/
def restartAbortedAll (v : State) (i : Nat) : State := (restartBegun v i).abortVerify i false

/-- A record with fresh areas, as a restart of a context that stood as `before` leaves it. -/
def freshened (before c : Ctx) : Ctx :=
  { c with
    area0 := c.area0.restarted (some 0) before.area0.verifying
    area1 := c.area1.restarted c.restartWindow1 before.area1.verifying
    state := .active
    timer := fullStall c.stallSelect }

/-- The areas fresh and the context ACTIVE. -/
def restartFreshened (v : State) (i : Nat) : State := (restartAbortedAll v i).modCtx i (freshened (v.ctx i))

/-- RESTARTED has gone out. -/
def restartTold (v : State) (i : Nat) : State :=
  ((restartFreshened v i).rejudgeCtx i).notifyMasked i NoticeMask.restarted .restarted
    (.restarted i ((restartFreshened v i).ctx i).generation)

theorem restart_eq : v.restart i =
    if (v.ctx i).state = .failed then (restartTold v i).memberRecovered i else restartTold v i := rfl

theorem restart_ctx (j : Nat) : (v.restart i).ctx j = (restartTold v i).ctx j := by
  rw [restart_eq]
  split
  · exact memberRecovered_ctx ..
  · rfl

theorem restartBegun_ctx : ∃ staged blocks, ∀ j, (restartBegun v i).ctx j =
    if j = i then Ctx.restarted { v.ctx i with staged := staged, blocksHeld := blocks } else v.ctx j := by
  obtain ⟨staged, blocks, released⟩ := releaseUnwritten_ctx v i
  refine ⟨staged, blocks, fun j => ?_⟩
  unfold restartBegun
  rw [ctx_modCtx, markOlder_ctx, markOlder_ctx, released, released, if_pos rfl]
  split <;> rfl

theorem restartAbortedAll_core (j : Nat) :
    Contexts.core ((restartAbortedAll v i).ctx j) = Contexts.core ((restartBegun v i).ctx j) := core_abortVerify ..

theorem restartFreshened_ctx (j : Nat) : (restartFreshened v i).ctx j =
    if j = i then freshened (v.ctx i) ((restartAbortedAll v i).ctx i) else (restartAbortedAll v i).ctx j :=
  ctx_modCtx _ i j (freshened (v.ctx i))

theorem restartTold_owedOnly : OwedOnly (restartFreshened v i) (restartTold v i) :=
  OwedOnly.trans (t := (restartFreshened v i).rejudgeCtx i) (owedOnly_of_same fun _ => rfl) (owedOnly_notifyMasked ..)

/-- An area before it is made fresh: as it stood, but for its verify status. -/
theorem restartAbortedAll_area (p : Nat) : ((restartAbortedAll v i).ctx i).area p =
    { (v.ctx i).area p with verify := (((restartAbortedAll v i).ctx i).area p).verify } := by
  have areas := (abortVerify_byRestart (restartBegun v i) i).only.areas i p
  obtain ⟨staged, blocks, begun⟩ := restartBegun_ctx v i
  have same : ((restartBegun v i).ctx i).area p = (v.ctx i).area p := by rw [begun, if_pos rfl]; rfl
  rw [same] at areas
  exact areas

/-- The record of a restarted context. -/
theorem restart_record : ∃ staged blocks owed, (v.restart i).ctx i =
    { v.ctx i with
      older := (v.ctx i).older + (v.ctx i).current, current := 0
      fence := decide (0 < (v.ctx i).older + (v.ctx i).current), generation := (v.ctx i).generation + 1
      retired := 0, extents := [], digest := ⟨0, 0⟩, total := (v.ctx i).total.kept, cause := none, damaged := 0
      state := .active, timer := fullStall (v.ctx i).stallSelect
      area0 := (((restartAbortedAll v i).ctx i).area 0).restarted (some 0) (v.ctx i).area0.verifying
      area1 := (((restartAbortedAll v i).ctx i).area 1).restarted (v.ctx i).secondWindow (v.ctx i).area1.verifying
      staged := staged, blocksHeld := blocks, owed := owed } := by
  obtain ⟨staged, blocks, begun⟩ := restartBegun_ctx v i
  have core := restartAbortedAll_core v i i
  rw [begun, if_pos rfl] at core
  have aborted := record_of_core core
  have record := (restartTold_owedOnly v i).record i
  rw [restartFreshened_ctx, if_pos rfl] at record
  refine ⟨staged, blocks, ((restartTold v i).ctx i).owed, ?_⟩
  rw [restart_ctx, record]
  generalize (restartAbortedAll v i).ctx i = c at aborted ⊢
  have window : c.restartWindow1 = (v.ctx i).secondWindow :=
    restartWindow1_kept (by rw [aborted]; rfl) (by rw [aborted]; rfl)
  unfold freshened
  rw [window, aborted]
  rfl

/-- Other contexts keep all but their areas' verify status and what they are owed. -/
theorem restart_core_other {j : Nat} (other : j ≠ i) : Contexts.core ((v.restart i).ctx j) = Contexts.core (v.ctx j) := by
  obtain ⟨staged, blocks, begun⟩ := restartBegun_ctx v i
  rw [restart_ctx, (restartTold_owedOnly v i).record, restartFreshened_ctx, if_neg other]
  exact (restartAbortedAll_core v i j).trans (by rw [begun, if_neg other])

theorem restartTold_holdFields (j : Nat) : holdFields ((restartTold v i).ctx j) = holdFields (v.ctx j) := by
  rw [← restart_ctx]
  by_cases own : j = i
  · obtain ⟨_, _, _, record⟩ := restart_record v i
    rw [own, record]
    rfl
  · exact holdFields_of_core (restart_core_other v i own)

/-- What the restart keeps before the group's account. -/
theorem restartTold_frame : (restartTold v i).groups = v.groups ∧ (restartTold v i).actions = v.actions ∧
    (restartTold v i).map = v.map ∧ (restartTold v i).intake = v.intake ∧ (restartTold v i).command = v.command ∧
    (restartTold v i).resets = v.resets ∧ (restartTold v i).delivery = (v.markOlder i).delivery ∧
    (restartTold v i).verify = (restartAbortedAll v i).verify := by
  refine ⟨?_, ?_, ?_, ?_, ?_, ?_, ?_, ?_⟩
  case refine_8 => simp [restartTold, restartFreshened]
  case refine_7 =>
    simp only [restartTold, restartFreshened, restartAbortedAll, restartBegun, notifyMasked_frame, rejudgeCtx_frame,
      modCtx_delivery, abortVerify_frame]
    rfl
  all_goals simp [restartTold, restartFreshened, restartAbortedAll, restartBegun]

theorem restartTold_effHold (j : Nat) : (restartTold v i).effHold j = v.effHold j := by
  obtain ⟨groups, actions, _⟩ := restartTold_frame v i
  exact effHold_congr groups actions (restartTold_holdFields v i) j

theorem restart_tells : Tells (fun _ => True) v (v.restart i) := by
  obtain ⟨staged, blocks, begun⟩ := restartBegun_ctx v i
  have first : Tells (fun _ => True) v (restartBegun v i) := tells_of_same rfl fun j => by
    rw [begun]
    split
    · next e => rw [e]; rfl
    · rfl
  have second : Tells (fun _ => True) (restartBegun v i) (restartAbortedAll v i) :=
    (abortVerify_byRestart (restartBegun v i) i).only.tells.mono fun _ _ => trivial
  have third : Tells (fun _ => True) (restartAbortedAll v i) (restartFreshened v i) :=
    tells_modCtx _ i (f := freshened (v.ctx i)) fun _ => rfl
  have fourth : Tells (fun _ => True) (restartFreshened v i) (restartTold v i) :=
    Tells.trans (t := (restartFreshened v i).rejudgeCtx i) (tells_of_same rfl fun _ => rfl)
      ((tells_notifyMasked ..).mono fun _ _ => trivial)
  have all := ((first.trans second).trans third).trans fourth
  have notice : (v.restart i).notice = (restartTold v i).notice := by
    rw [restart_eq]
    split <;> simp
  exact all.trans (tells_of_same notice fun j => by rw [restart_ctx])

/-- What the aborts told stays told. -/
theorem restart_tellsAborts : Tells (fun _ => True) (restartAbortedAll v i) (v.restart i) := by
  have third : Tells (fun _ => True) (restartAbortedAll v i) (restartFreshened v i) :=
    tells_modCtx _ i (f := freshened (v.ctx i)) fun _ => rfl
  have fourth : Tells (fun _ => True) (restartFreshened v i) (restartTold v i) :=
    Tells.trans (t := (restartFreshened v i).rejudgeCtx i) (tells_of_same rfl fun _ => rfl)
      ((tells_notifyMasked ..).mono fun _ _ => trivial)
  have notice : (v.restart i).notice = (restartTold v i).notice := by
    rw [restart_eq]
    split <;> simp
  exact (third.trans fourth).trans (tells_of_same notice fun j => by rw [restart_ctx])

end

end Sys2Proof.SegmentIntake
end

section
/-! What a restart says of the context, its records, its group and the others (R146). -/

namespace Sys2Proof.SegmentIntake

open Sys2Proof Sys2Proof.Machine Sys2Proof.Laws Sys2Proof.Contexts

section
variable (v : State) (i : Nat)

/-! ## Records in staging -/

theorem restartTold_staging : (restartTold v i).staging =
    ((restartFreshened v i).rejudgeCtx i).staging ∧ (restartFreshened v i).staging = (v.releaseUnwritten i).staging := by
  refine ⟨by simp [restartTold], ?_⟩
  simp only [restartFreshened, restartAbortedAll, restartBegun, modCtx_staging, abortVerify_frame, markOlder_frame]

theorem restartTold_staged {v : State} (sorted : Table.sorted v.staging.pool) (i r : Nat) :
    (restartTold v i).staged r = (v.staged r).filter fun rec => !(rec.owner == i && rec.state != .writing) := by
  obtain ⟨told, freshened⟩ := restartTold_staging v i
  have judged : (restartTold v i).staged r = ((restartFreshened v i).rejudge (· == i)).staged r := by
    unfold State.staged; rw [told]; rfl
  have before : (restartFreshened v i).staged r = (v.releaseUnwritten i).staged r := by unfold State.staged; rw [freshened]
  rw [judged, staged_rejudge, before, releaseUnwritten_staged sorted]
  cases v.staged r with
  | none => rfl
  | some rec =>
    by_cases own : rec.owner = i ∧ rec.state ≠ .writing
    · have gone : (some rec).filter (fun rec => !(rec.owner == i && rec.state != .writing)) = none := by
        rw [Option.filter_some, if_neg (by simp [own])]
      rw [gone, Option.map_none]
    · have kept : (some rec).filter (fun rec => !(rec.owner == i && rec.state != .writing)) = some rec := by
        rw [Option.filter_some, if_pos (by simpa [Decidable.imp_iff_not_or] using own)]
      rw [kept, Option.map_some, judgedAgain_eq (restartFreshened v i) (fun k => k == i) rec]
      by_cases writing : rec.state = .writing
      · rw [judgedAgain_of_writing writing]
      · rw [judgedAgain_of_not (by simpa using fun e => own ⟨e, writing⟩)]

/-- A restart frees the context's unwritten records, and has those judged again whose effective hold it changed (R92,
R134, R158). -/
theorem restart_staged {v : State} (sorted : Table.sorted v.staging.pool) (i r : Nat) : (v.restart i).staged r =
    ((v.staged r).filter fun rec => !(rec.owner == i && rec.state != .writing)).map
      ((v.restart i).judgedAgain (v.holdChanged (v.restart i))) := by
  have holds : ∀ t, (restartTold v i).holdChanged t = v.holdChanged t := fun t => by
    funext k
    unfold State.holdChanged
    rw [restartTold_effHold]
  rw [restart_eq, ← restartTold_staged sorted]
  split
  · rw [← holds]
    exact memberRecovered_rejudged (restartTold v i) i r
  · rw [← holds]
    exact rejudged_self (restartTold v i) r

theorem restart_mode : ModeSet v (v.restart i) := by
  obtain ⟨told, freshened⟩ := restartTold_staging v i
  have room : SameRoom (v.releaseUnwritten i) (restartTold v i) :=
    (SameRoom.trans (t := restartFreshened v i) (sameRoom_of_same freshened)
      (sameRoom_rejudge (restartFreshened v i) (· == i))).trans (sameRoom_of_same told)
  have all : SameRoom (v.releaseUnwritten i) (v.restart i) := by
    rw [restart_eq]
    split
    · exact room.trans (memberRecovered_room ..)
    · exact room
  have mode := releaseUnwritten_mode v i
  unfold ModeSet at mode ⊢
  rw [all.constrained, all.freeBlocks]
  exact mode

/-! ## Groups, jobs and requests -/

theorem restart_group (h : Nat) : (v.restart i).group h =
    if (v.ctx i).group = some h then
      { v.group h with
        failed := if (v.ctx i).state = .failed then (v.group h).failed - 1 else (v.group h).failed }
    else v.group h := by
  obtain ⟨groups, _⟩ := restartTold_frame v i
  have member : ((restartTold v i).ctx i).group = (v.ctx i).group :=
    (congrArg Prod.fst (restartTold_holdFields v i i) :)
  rw [restart_eq]
  split
  · rw [memberRecovered_group, member, group_of_groups groups]
  · rw [group_of_groups groups, ite_self]

/-- What a restart keeps of the part. -/
theorem restart_rest : (v.restart i).map = v.map ∧ (v.restart i).intake = v.intake ∧ (v.restart i).actions = v.actions ∧
    (v.restart i).command = v.command ∧ (v.restart i).resets = v.resets ∧
    (v.restart i).delivery = (v.markOlder i).delivery ∧ (v.restart i).verify = (restartAbortedAll v i).verify := by
  obtain ⟨_, actions, map, intake, command, resets, delivery, verify⟩ := restartTold_frame v i
  rw [restart_eq]
  split <;> simp [actions, map, intake, command, resets, delivery, verify]

theorem restart_job (r : Nat) (j : Job) (at_ : v.job r = some j) :
    (v.restart i).job r = some (if j.owner = i then { j with older := true } else j) := by
  obtain ⟨_, _, _, _, _, delivery, _⟩ := restart_rest v i
  have marked : (v.restart i).job r = (v.markOlder i).job r := by unfold State.job; rw [delivery]
  have found : (v.markOlder i).job r = (v.delivery.jobs.find? fun e => e.1 == r).map fun e =>
      if e.2.owner == i then { e.2 with older := true } else e.2 := by
    refine (lookup_mapEntries _ (fun e => ?_) _ r).trans ?_
    · split <;> rfl
    · refine congrArg (fun f => Option.map f _) (funext fun e => ?_)
      split <;> rfl
  unfold State.job Table.lookup at at_
  obtain ⟨e, first, rfl⟩ := Option.map_eq_some_iff.1 at_
  rw [marked, found, first]
  simp

/-! ## Areas -/

/-- The verify status a restart leaves an area. -/
theorem restart_verify (p : Nat) : (((v.restart i).ctx i).area p).verify =
    if ((v.ctx i).area p).verifying then (((restartAbortedAll v i).ctx i).area p).verify else .none := by
  obtain ⟨_, _, _, record⟩ := restart_record v i
  rw [record]
  unfold Ctx.area
  split <;> rfl

/-- An area of a restarted context, not faulted, is fresh but for its verify status (R100). -/
theorem restarted_fresh {a b : Area} (same : b = { a with verify := b.verify }) (unfaulted : a.faulted = false)
    (window : Option Nat) (verifying : Bool) : b.restarted window verifying =
      Area.fresh a.base window (b.restarted window verifying).verify := by
  rw [same]
  unfold Area.restarted Area.fresh
  rw [unfaulted]
  rfl

/-- RESTARTED goes out of a restart where the mask holds it (R146). -/
theorem restart_told {v : State} {i : Nat} (asked : (v.effMask i).restarted = true) :
    Charged (v.restart i) i .restarted (.restarted i ((v.ctx i).generation + 1)) := by
  obtain ⟨staged, blocks, owed, record⟩ := restart_record v i
  have mask : ((restartFreshened v i).rejudgeCtx i).effMask i = v.effMask i := by
    obtain ⟨groups, _⟩ := restartTold_frame v i
    have same : ∀ k, ((restartTold v i).ctx k).group = (v.ctx k).group ∧
        ((restartTold v i).ctx k).mask = (v.ctx k).mask := fun k => by
      rw [← restart_ctx]
      by_cases own : k = i
      · rw [own, record]; exact ⟨rfl, rfl⟩
      · have core := restart_core_other v i own
        exact ⟨(congrArg Ctx.group core :), (congrArg Ctx.mask core :)⟩
    have owed := restartTold_owedOnly v i
    refine effMask_congr (s := v) (t := (restartFreshened v i).rejudgeCtx i) ?_ (fun k => ?_) i
    · simp [restartFreshened, restartAbortedAll, restartBegun]
    · have fields := same k
      rw [owed.record] at fields
      exact fields
  have generation : ((restartFreshened v i).ctx i).generation = (v.ctx i).generation + 1 := by
    have same := (restartTold_owedOnly v i).record i
    rw [← restart_ctx, record] at same
    exact (congrArg Ctx.generation same :).symm
  have charged : Charged (restartTold v i) i .restarted (.restarted i ((v.ctx i).generation + 1)) := by
    unfold restartTold
    rw [generation]
    rcases notifyMasked_cases ((restartFreshened v i).rejudgeCtx i) i NoticeMask.restarted .restarted
      (.restarted i ((v.ctx i).generation + 1)) with ⟨_, masked⟩ | ⟨eq, _⟩
    · rw [mask, asked] at masked
      exact absurd masked (by decide)
    · rw [eq]
      exact charged_of_given (notify_given ..)
  have notice : (v.restart i).notice = (restartTold v i).notice := by
    rw [restart_eq]
    split <;> simp
  unfold Charged at charged ⊢
  rwa [notice, restart_ctx]

/-! ## The restart, in the words of the statements -/

/-- A context of which no area is faulted is restarted (R146). -/
theorem restart_restarted {v : State} {i : Nat} (sorted : Table.sorted v.staging.pool)
    (unfaulted0 : (v.ctx i).area0.faulted = false) (unfaulted1 : (v.ctx i).area1.faulted = false) :
    Restarted v (v.restart i) i := by
  obtain ⟨staged, blocks, owed, record⟩ := restart_record v i
  have aborts := abortVerify_byRestart (restartBegun v i) i
  have queue : (restartBegun v i).verify = v.verify := rfl
  have tells := restart_tellsAborts v i
  obtain ⟨map, intake, actions, _, resets, _, verify⟩ := restart_rest v i
  have shown : ∀ p, ((v.ctx i).area p).verifying = true → (((restartAbortedAll v i).ctx i).area p).verify = .aborted →
      (((v.restart i).ctx i).area p).verify = .aborted := fun p verifying aborted => by
    rw [restart_verify, if_pos verifying, aborted]
  have first := restart_verify v i 0
  have second := restart_verify v i 1
  exact
    { active := by rw [record]; exact ⟨rfl, rfl, rfl, rfl⟩
      generation := by rw [record]
      progress := by rw [record]; exact ⟨rfl, rfl, rfl⟩
      total := by
        rw [record]
        show (v.ctx i).total.kept = _
        unfold Total.kept
        cases (v.ctx i).total <;> rfl
      jobs := by rw [record]; exact ⟨rfl, rfl, rfl⟩
      older := restart_job v i
      area0 := by
        rw [record]
        exact restarted_fresh (restartAbortedAll_area v i 0) unfaulted0 _ _
      area1 := by
        rw [record]
        exact restarted_fresh (restartAbortedAll_area v i 1) unfaulted1 _ _
      unverified := fun p _ queued active => by
        rw [restart_verify, if_neg]
        simp [Area.verifying, queued, active]
      queuedAborted := fun q mem own => by
        have aborted := aborts.queued q (by rw [queue]; exact mem) own
        obtain ⟨charged, seen⟩ := aborted
        rw [own] at charged seen
        refine ⟨tells.charged charged, fun fresh queued => shown q.area ?_ (seen fresh)⟩
        simp [Area.verifying, queued]
      activeMarked := fun a rest at_ own reads => by
        obtain ⟨marked, seen⟩ := aborts.reading a rest (by rw [queue]; exact at_) own reads
        refine ⟨verify.trans marked, fun fresh active => shown a.area ?_ (seen fresh)⟩
        simp [Area.verifying, active]
      activeOther := fun a rest at_ other => verify.trans (aborts.other a rest (by rw [queue]; exact at_) other)
      settings := by rw [record]; simp
      told := restart_told
      freed := fun r rec at_ own => by
        rw [restart_staged sorted, at_]
        by_cases writing : rec.state = .writing
        · simp [own, writing, judgedAgain_of_writing writing]
        · simp [own, writing]
      mode := restart_mode v i
      others := fun r rec at_ other => by
        rw [restart_staged sorted, at_]
        simp [other]
      group := fun g at_ => by rw [restart_group, if_pos at_]
      otherGroups := fun h other => by rw [restart_group, if_neg other]
      otherContexts := fun j other => by
        have core := restart_core_other v i other
        exact ⟨(congrArg Ctx.state core :), (congrArg Ctx.key core :), (congrArg Ctx.digest core :),
          (congrArg Ctx.total core :), (congrArg Ctx.retired core :), (congrArg Ctx.extents core :),
          (congrArg Ctx.staged core :), (congrArg Ctx.timer core :)⟩
      rest := ⟨map, intake, actions, resets⟩ }

end

end Sys2Proof.SegmentIntake
end

section
/-! The signal stage in the words of the statements (R135, R136). -/

namespace Sys2Proof.SegmentIntake

open Sys2Proof Sys2Proof.Machine Sys2Proof.Laws Sys2Proof.Contexts

section
variable {s t : State} {i : Nat} {level : Bool}

/-! ## A restart behind the signal's own changes -/

theorem signalled_job (s : State) (i : Nat) (level : Bool) (r : Nat) : (signalled s i level).job r = s.job r := by
  obtain ⟨_, _, delivery, _⟩ := signalled_frame s i level
  unfold State.job
  rw [delivery]

/-- The records that the signal's hold has judged again: the context's own alone, and no WRITING one. -/
theorem signalled_staged {r : Nat} {rec : StagedRecord} (at_ : s.staged r = some rec) (i : Nat) (level : Bool) :
    ∃ st, (signalled s i level).staged r = some { rec with state := st } ∧ (rec.owner ≠ i → st = rec.state) ∧
      (st = .writing ↔ rec.state = .writing) := by
  obtain ⟨st, judged, same, unwritten⟩ :=
    judgedAgain_cases (signalled s i level) (s.holdChanged (signalled s i level)) rec
  have writing : rec.state = .writing → st = .writing := fun writing => by
    rw [judgedAgain_of_writing writing] at judged
    exact (congrArg StagedRecord.state judged).symm.trans writing
  refine ⟨st, ?_, fun other => same ?_, fun h => ?_, writing⟩
  · rw [signalled_rejudged, at_, Option.map_some, judged]
  · unfold State.holdChanged
    rw [signalled_effHold s i level other, bne_self_eq_false]
  · exact Decidable.byContradiction fun ne => unwritten ne h

/-- A restart of the context with its new level is one of the context as it stood. -/
theorem restarted_of_signalled (h : Restarted (signalled s i level) t i) : Restarted s t i := by
  have record := signalled_record s i level
  have same : ∀ j, j ≠ i → (signalled s i level).ctx j = s.ctx j := fun j => signalled_others s i level
  obtain ⟨intake, map, _, actions, groups, verify, _, resets⟩ := signalled_frame s i level
  have group := group_of_groups groups
  have job := signalled_job s i level
  have mask := signalled_mask s i level i
  have room := signalled_room s i level
  have staged := fun r rec at_ => signalled_staged (s := s) (r := r) (rec := rec) at_ i level
  have hold := fun j => signalled_effHold s i level (j := j)
  generalize signalled s i level = v at *
  have area : ∀ p, (v.ctx i).area p = (s.ctx i).area p := fun p => by rw [record]; rfl
  obtain ⟨active, generation, progress, total, jobs, older, area0, area1, unverified, queuedAborted, activeMarked,
    activeOther, settings, told, freed, mode, others, ofGroup, otherGroups, otherContexts, rest⟩ := h
  simp only [area, verify, job, mask, group] at *
  have own : (v.ctx i).generation = (s.ctx i).generation ∧ (v.ctx i).group = (s.ctx i).group ∧
      (v.ctx i).state = (s.ctx i).state := by rw [record]; exact ⟨rfl, rfl, rfl⟩
  obtain ⟨ownGeneration, ownGroup, ownState⟩ := own
  rw [ownGeneration] at generation told
  rw [ownGroup] at otherGroups ofGroup
  rw [ownState] at ofGroup
  exact
    { active := by rw [record] at active; exact active
      generation := generation
      progress := progress
      total := by rw [record] at total; exact total
      jobs := by rw [record] at jobs; exact jobs
      older := older
      area0 := by rw [record] at area0; exact area0
      area1 := by rw [record] at area1; exact area1
      unverified := unverified
      queuedAborted := queuedAborted
      activeMarked := activeMarked
      activeOther := activeOther
      settings := by rw [record] at settings; exact settings
      told := told
      freed := fun r rec at_ owner => by
        obtain ⟨st, judged, _, writing⟩ := staged r rec at_
        have after := freed r _ judged owner
        by_cases h : rec.state = .writing
        · rw [if_pos h]
          rw [if_pos (writing.2 h)] at after
          rw [after, writing.2 h, ← h]
        · rw [if_neg h]
          rw [if_neg (fun e => h (writing.1 e))] at after
          exact after
      mode := by
        unfold ModeSet at mode ⊢
        rw [room.constrained] at mode
        exact mode
      others := fun r rec at_ other => by
        obtain ⟨st, judged, kept, _⟩ := staged r rec at_
        rw [kept other] at judged
        rw [others r rec judged other]
        refine congrArg some (judgedAgain_congr rfl rfl ?_)
        unfold State.holdChanged
        rw [hold rec.owner other]
      group := ofGroup
      otherGroups := otherGroups
      otherContexts := fun j other => by
        have fields := otherContexts j other
        rw [same j other] at fields
        exact fields
      rest := by
        obtain ⟨map', intake', actions', resets'⟩ := rest
        exact ⟨map'.trans map, intake'.trans intake, actions'.trans actions, resets'.trans resets⟩ }

/-! ## The stage -/

theorem signalled_senderSignal (rises : level = true ∧ (s.ctx i).signal = false) (notify : s.actions.notify = true)
    (asked : (s.effMask i).senderSignal = true) :
    Charged (signalled s i level) i .senderSignal (.senderSignal i) := by
  have told := signalled_told s i level
  rw [if_pos ⟨rises.1, rises.2, notify, asked⟩] at told
  exact charged_of_given told

theorem restart_signal (v : State) (i : Nat) : ((v.restart i).ctx i).signal = (v.ctx i).signal := by
  obtain ⟨_, _, _, record⟩ := restart_record v i
  rw [record]

theorem signalled_recorded (s : State) (i : Nat) (level : Bool) : ((signalled s i level).ctx i).signal = level := by
  rw [signalled_record]

theorem signalled_faulted (s : State) (i : Nat) (level : Bool) :
    ((signalled s i level).ctx i).area0.faulted = (s.ctx i).area0.faulted ∧
      ((signalled s i level).ctx i).area1.faulted = (s.ctx i).area1.faulted := by
  rw [signalled_record]
  exact ⟨rfl, rfl⟩

/-- The signal stage of a context that is not exclusive does what the statements say of it. -/
theorem signalStage_signalled (shared : (s.ctx i).exclusive = false) (sorted : Table.sorted s.staging.pool)
    (level : Bool) : Signalled s (s.signalStage i level).1 i level := by
  obtain ⟨intake, map, delivery, actions, groups, verify, command, resets⟩ := signalled_frame s i level
  have room := signalled_room s i level
  rw [signalStage_eq shared]
  by_cases asked : restartAsked s i level = true
  · obtain ⟨one, zero, restart, unfaulted0, unfaulted1⟩ := restartAsked_iff.1 asked
    obtain ⟨faulted0, faulted1⟩ := signalled_faulted s i level
    obtain ⟨map', intake', actions', command', resets', _⟩ := restart_rest (signalled s i level) i
    have restarted := restart_restarted (signalled_sorted s i level sorted) (faulted0.trans unfaulted0)
      (faulted1.trans unfaulted1)
    rw [if_pos asked]
    exact
      { recorded := (restart_signal ..).trans (signalled_recorded ..)
        restarts := fun _ _ _ _ _ => ⟨restarted_of_signalled restarted, fun notify mask =>
          (restart_tells _ i).charged (signalled_senderSignal ⟨one, zero⟩ notify mask)⟩
        stays := fun none => absurd (restartAsked_iff.1 asked) none
        rest := ⟨map'.trans map, intake'.trans intake, actions'.trans actions, command'.trans command,
          resets'.trans resets⟩ }
  · rw [if_neg asked]
    exact
      { recorded := signalled_recorded ..
        restarts := fun one zero restart unfaulted0 unfaulted1 =>
          absurd (restartAsked_iff.2 ⟨one, zero, restart, unfaulted0, unfaulted1⟩) asked
        stays := fun _ => ⟨signalled_record .., fun j => signalled_others s i level, signalled_told ..,
          signalled_rejudged s i level, room.payload, room.freeBlocks, groups, verify, delivery⟩
        rest := ⟨map, intake, actions, command, resets⟩ }

end

end Sys2Proof.SegmentIntake
end

section
/-! A signal stage that finds the level recorded changes nothing (R34): the tables in canonical form are equal data. -/

namespace Sys2Proof.SegmentIntake

open Sys2Proof Sys2Proof.Machine Sys2Proof.Laws Sys2Proof.Contexts

/-! ## Tables in canonical form -/

/-- In rising order an entry inserted again is where it stands. -/
theorem insert_of_lookup {α : Type} {t : Table α} {i : Nat} {v : α} (sorted : Table.sorted t)
    (at_ : Table.lookup t i = some v) : Table.insert i v t = t := by
  induction t with
  | nil => exact absurd at_ (by simp [Table.lookup])
  | cons e t ih =>
    obtain ⟨above, rest⟩ := List.pairwise_cons.1 sorted
    have mem := (lookup_eq_some sorted).1 at_
    unfold Table.insert
    rcases List.mem_cons.1 mem with rfl | mem
    · simp
    · have high := above _ mem
      rw [if_neg (by omega), if_neg (by omega), ih rest ((lookup_eq_some rest).2 mem)]

/-- What is not listed is not there to be taken off. -/
theorem erase_of_lookup {α : Type} {t : Table α} {i : Nat} (sorted : Table.sorted t)
    (none : Table.lookup t i = none) : Table.erase t i = t := by
  refine List.filter_eq_self.2 fun e mem => ?_
  rw [bne_iff_ne]
  rintro rfl
  exact Option.some_ne_none e.2 (((lookup_eq_some sorted).2 mem).symm.trans none)

/-- In canonical form a write of what a number holds changes nothing. -/
theorem set_get {α : Type} [DecidableEq α] {d : α} {t : Table α} (wf : Table.wf d t) (i : Nat) :
    Table.set d t i (Table.get d t i) = t := by
  unfold Table.set Table.get
  cases at_ : Table.lookup t i with
  | none => rw [Option.getD_none, if_pos rfl, erase_of_lookup wf.1 at_]
  | some v =>
    rw [Option.getD_some, if_neg (wf.2 _ ((lookup_eq_some wf.1).1 at_)), insert_of_lookup wf.1 at_]

/-! ## The list of context records stays in canonical form -/

/-- The list of context records is in canonical form. -/
def RecordsListed (s : State) : Prop := Table.wf Ctx.free s.contexts

section
variable {s : State}

theorem listed_modCtx (h : RecordsListed s) (i : Nat) (f : Ctx → Ctx) : RecordsListed (s.modCtx i f) := wf_set _ _ h

theorem listed_setVerify (h : RecordsListed s) (i p : Nat) (v : VerifyStatus) : RecordsListed (s.setVerify i p v) :=
  listed_modCtx h i _

theorem listed_notify (h : RecordsListed s) (i : Nat) (k : OwedKind) (n : Notice) : RecordsListed (s.notify i k n) := by
  rcases notify_cases s i k n with ⟨eq, _⟩ | ⟨eq, _⟩ <;> rw [eq]
  · exact listed_modCtx h i fun c => { c with owed := owe k c.owed }
  · exact h

theorem listed_notifyMasked (h : RecordsListed s) (i : Nat) (holds : NoticeMask → Bool) (k : OwedKind) (n : Notice) :
    RecordsListed (s.notifyMasked i holds k n) := by
  rcases notifyMasked_cases s i holds k n with ⟨eq, _⟩ | ⟨eq, _⟩ <;> rw [eq]
  · exact h
  · exact listed_notify h i k n

theorem listed_verifyNotice (h : RecordsListed s) (r : VerifyRequest) (o : VerifyOutcome) :
    RecordsListed (s.verifyNotice r o) := by
  unfold State.verifyNotice
  dsimp only
  split
  · rcases pushOrDrop_cases s (.verifyResult r.context r.area r.window o) with ⟨eq, _⟩ | ⟨eq, _⟩ <;> rw [eq] <;> exact h
  · exact listed_notify h ..

theorem listed_verifyOutcome (h : RecordsListed s) (r : VerifyRequest) (o : VerifyOutcome) :
    RecordsListed (s.verifyOutcome r o) := by
  unfold State.verifyOutcome
  split
  · exact listed_verifyNotice h r o
  · exact listed_verifyNotice (listed_setVerify h r.context r.area o.status) r o

theorem listed_startVerify (l : List VerifyRequest) {s : State} (h : RecordsListed s) : RecordsListed (startVerify l s) := by
  induction l generalizing s with
  | nil => exact h
  | cons r l ih =>
    have active : RecordsListed (s.setVerify r.context r.area .active) := listed_setVerify h ..
    unfold startVerify
    dsimp only
    split
    · exact active
    · exact ih (listed_verifyOutcome active ..)

theorem listed_nextVerify (h : RecordsListed s) (l : List VerifyRequest) : RecordsListed (s.nextVerify l) := by
  unfold State.nextVerify
  split
  · exact h
  · exact listed_startVerify l h

theorem listed_foldAbort (byClose : Bool) (l : List VerifyRequest) {s : State} (h : RecordsListed s) :
    RecordsListed (l.foldl (State.abortQueued byClose) s) := by
  induction l generalizing s with
  | nil => exact h
  | cons r l ih => exact ih (listed_verifyOutcome h ..)

theorem listed_abortVerify (h : RecordsListed s) (i : Nat) (byClose : Bool) : RecordsListed (s.abortVerify i byClose) := by
  unfold State.abortVerify
  split
  · exact h
  · next act rest _ =>
    have queued : ∀ q, RecordsListed ((rest.filter fun r => r.context == i).foldl (State.abortQueued byClose)
        { s with verify := q }) := fun q => listed_foldAbort byClose _ (s := { s with verify := q }) h
    dsimp only
    split
    · exact queued _
    · split
      · exact queued _
      · split
        · exact listed_setVerify (queued _) i act.area .aborted
        · exact listed_nextVerify (listed_verifyOutcome (listed_setVerify (queued _) i act.area .aborted) ..) _

theorem listed_memberRecovered (h : RecordsListed s) (i : Nat) : RecordsListed (s.memberRecovered i) := by
  unfold State.memberRecovered
  split <;> exact h

theorem listed_restart (h : RecordsListed s) (i : Nat) : RecordsListed (s.restart i) := by
  have begun : RecordsListed (restartBegun s i) := listed_modCtx (s := (s.releaseUnwritten i).markOlder i) (wf_set _ _ h) _ _
  have told : RecordsListed (restartTold s i) :=
    listed_notifyMasked (s := (restartFreshened s i).rejudgeCtx i)
      (listed_modCtx (s := restartAbortedAll s i) (listed_abortVerify begun i false) i (freshened (s.ctx i))) ..
  rw [restart_eq]
  split
  · exact listed_memberRecovered told i
  · exact told

theorem listed_signalStage (h : RecordsListed s) {i : Nat} (shared : (s.ctx i).exclusive = false) (level : Bool) :
    RecordsListed (s.signalStage i level).1 := by
  have leveled_ : RecordsListed (leveled s i level) := listed_modCtx h i fun c => { c with signal := level }
  have signalled_ : RecordsListed (signalled s i level) := by
    show RecordsListed (signalTold s i level)
    unfold signalTold
    split
    · exact listed_notifyMasked leveled_ ..
    · exact leveled_
  rw [signalStage_eq shared]
  split
  · exact listed_restart signalled_ i
  · exact signalled_

/-! ## The stage at a level recorded already -/

theorem rejudge_none (s : State) : s.rejudge (fun _ => false) = s := by
  have same : s.staging.pool.map (fun e => if (fun _ => false) e.2.owner = true then (e.1, { e.2 with state := s.judged e.2 })
      else e) = s.staging.pool := List.map_id _
  unfold State.rejudge
  rw [same]

/-- A signal stage that finds its level recorded leaves the state as it is. -/
theorem signalStage_idle (listed : RecordsListed s) {i : Nat} (shared : (s.ctx i).exclusive = false) :
    s.signalStage i (s.ctx i).signal = (s, false) := by
  have quiet : rises s i (s.ctx i).signal = false := by simp [rises]
  have same : leveled s i (s.ctx i).signal = s := by
    have contexts : Table.set Ctx.free s.contexts i (s.ctx i) = s.contexts := set_get listed i
    show { s with contexts := Table.set Ctx.free s.contexts i (s.ctx i) } = s
    rw [contexts]
  have told : signalTold s i (s.ctx i).signal = s := by
    unfold signalTold
    rw [quiet, same]
    rfl
  have holds : (fun k => s.effHold k != s.effHold k) = fun _ => false := funext fun k => bne_self_eq_false _
  rw [signalStage_eq shared, if_neg (by unfold restartAsked; rw [quiet]; simp)]
  unfold signalled State.rejudgeHolds
  rw [told, holds, rejudge_none]

end

end Sys2Proof.SegmentIntake
end

section
/-! The stages behind the signal stage, taken in the state that it leaves (R32, R34, R41). -/

namespace Sys2Proof.SegmentIntake

open Sys2Proof Sys2Proof.Machine Sys2Proof.Laws Sys2Proof.Contexts

section
variable {s : State} {i : Nat} {level : Bool}

/-- Behind the signal stage a context receives when it did before or was restarted. -/
theorem signalStage_receiving (shared : (s.ctx i).exclusive = false) :
    ((s.signalStage i level).1.ctx i).receiving = ((s.ctx i).receiving || (s.signalStage i level).2) := by
  rw [signalStage_eq shared]
  split
  · obtain ⟨_, _, _, record⟩ := restart_record (signalled s i level) i
    rw [record, Bool.or_true]
    rfl
  · rw [signalled_record, Bool.or_false]
    rfl

/-- The signal stage makes no context exclusive. -/
theorem signalStage_exclusive (shared : (s.ctx i).exclusive = false) :
    ((s.signalStage i level).1.ctx i).exclusive = false := by
  rw [signalStage_eq shared]
  split
  · obtain ⟨_, _, _, record⟩ := restart_record (signalled s i level) i
    rw [record, signalled_record]
    exact shared
  · rw [signalled_record]
    exact shared

theorem not_receiving_of_failed {c : Ctx} (failed : c.state = .failed) : c.receiving = false := by
  unfold Ctx.receiving
  rw [failed]
  rfl

/-- The stages of a DATA segment that has a signal stage, by what that leaves (R32, R34). -/
theorem dataStages_of_signalled {g : DataSegment} (shared : (s.ctx i).exclusive = false)
    (open_ : (s.ctx i).receiving = true ∨ (s.ctx i).state = .failed) (tally : DataSegment.tallyMatches g = true) :
    s.dataStages i g =
      if ((s.signalStage i g.signal).1.ctx i).receiving then (s.signalStage i g.signal).1.rangeStage i g
      else (s.signalStage i g.signal).1.answer i .closed := by
  rw [signalStage_receiving shared]
  rcases open_ with running | failed
  · rw [dataStages_of_matching running tally, running, Bool.true_or, if_pos rfl]
  · rw [not_receiving_of_failed failed, Bool.false_or]
    unfold State.dataStages
    simp [failed, tally]

/-- The stages of a MANIFEST that has a signal stage, by what that leaves (R41). -/
theorem manifestStages_of_signalled {g : ManifestSegment} (shared : (s.ctx i).exclusive = false)
    (open_ : (s.ctx i).receiving = true ∨ (s.ctx i).state = .failed) :
    s.manifestStages i g =
      if ((s.signalStage i g.signal).1.ctx i).receiving then (s.signalStage i g.signal).1.manifestStage i g
      else (s.signalStage i g.signal).1.answer i .closed := by
  rw [signalStage_receiving shared]
  rcases open_ with running | failed
  · rw [manifestStages_of_receiving running, running, Bool.true_or, if_pos rfl]
  · rw [not_receiving_of_failed failed, Bool.false_or]
    unfold State.manifestStages
    simp [failed]

/-! ## The segment taken in that state -/

section
variable {u : State}

/-- What is read before the stages of a context stays over its signal stage. -/
theorem taking_of_signalled (h : Signalled s u i level) (taking : Taking s) : Taking u := by
  obtain ⟨_, intake, _, _, resets⟩ := h.rest
  unfold Taking Admitting at taking ⊢
  rw [intake, resets]
  exact taking

theorem lookup_of_signalled (h : Signalled s u i level) (k : Key) : u.lookup k = s.lookup k := by
  obtain ⟨map, _⟩ := h.rest
  unfold State.lookup State.bucket
  rw [map]

end

/-- A second signal stage at the same level changes nothing. -/
theorem signalStage_twice (shared : (s.ctx i).exclusive = false) (canonical : CanonicalForm s) :
    (s.signalStage i level).1.signalStage i level = ((s.signalStage i level).1, false) := by
  have idle := signalStage_idle (listed_signalStage canonical.contexts shared level) (signalStage_exclusive shared)
  rwa [(signalStage_signalled shared canonical.pool level).recorded] at idle

/-- A DATA segment goes on from the state that its signal stage leaves as it would in that state. -/
theorem data_goesOn {g : DataSegment} (taking : Taking s) (shared : (s.ctx i).exclusive = false)
    (open_ : (s.ctx i).receiving = true ∨ (s.ctx i).state = .failed) (shape : DataSegment.wellShaped g = true)
    (found : s.lookup ⟨g.peer, g.tag⟩ = some i) (tally : DataSegment.tallyMatches g = true) (canonical : CanonicalForm s) :
    let u := (s.signalStage i g.signal).1
    let t := (s.dataStages i g).returned g.link g.handle 1
    Signalled s u i g.signal ∧
      (if (u.ctx i).receiving then exec (.data ⟨g, .idle⟩) u = .next t
      else t = u.answered g.link g.handle 1 .closed (u.ctx i).edge) := by
  have signalled_ := signalStage_signalled shared canonical.pool g.signal
  have twice := signalStage_twice (level := g.signal) shared canonical
  dsimp only
  rw [dataStages_of_signalled shared open_ tally]
  generalize (s.signalStage i g.signal).1 = u at signalled_ twice ⊢
  refine ⟨signalled_, ?_⟩
  by_cases running : (u.ctx i).receiving = true
  · rw [if_pos running, if_pos running, exec_data_idle (taking_of_signalled signalled_ taking),
      takeData_of_found (taking_of_signalled signalled_ taking) shape ((lookup_of_signalled signalled_ _).trans found),
      dataStages_of_matching running tally, twice]
  · rw [if_neg running, if_neg running]
    rfl

/-- A MANIFEST goes on from the state that its signal stage leaves as it would in that state. -/
theorem manifest_goesOn {g : ManifestSegment} (taking : Taking s) (shared : (s.ctx i).exclusive = false)
    (open_ : (s.ctx i).receiving = true ∨ (s.ctx i).state = .failed) (shape : ManifestSegment.wellShaped g = true)
    (found : s.lookup ⟨g.peer, g.tag⟩ = some i) (canonical : CanonicalForm s) :
    let u := (s.signalStage i g.signal).1
    let t := (s.manifestStages i g).returned g.link g.handle 2
    Signalled s u i g.signal ∧
      (if (u.ctx i).receiving then exec (.manifest ⟨g, .idle⟩) u = .next t
      else t = u.answered g.link g.handle 2 .closed (u.ctx i).edge) := by
  have signalled_ := signalStage_signalled shared canonical.pool g.signal
  have twice := signalStage_twice (level := g.signal) shared canonical
  dsimp only
  rw [manifestStages_of_signalled shared open_]
  generalize (s.signalStage i g.signal).1 = u at signalled_ twice ⊢
  refine ⟨signalled_, ?_⟩
  by_cases running : (u.ctx i).receiving = true
  · rw [if_pos running, if_pos running, exec_manifest_idle (taking_of_signalled signalled_ taking),
      takeManifest_of_found (taking_of_signalled signalled_ taking) shape ((lookup_of_signalled signalled_ _).trans found),
      manifestStages_of_receiving running, twice]
  · rw [if_neg running, if_neg running]
    rfl

end

end Sys2Proof.SegmentIntake
end

section
/-! What the stages behind the signal stage keep of the signal, the hold and the generation (R35 to R43). -/

namespace Sys2Proof.SegmentIntake

open Sys2Proof Sys2Proof.Machine Sys2Proof.Laws Sys2Proof.Contexts

/-! ## The hold of a signal -/

/-- The fields of the signal and of the generation's jobs. -/
def lasting (c : Ctx) : Bool × Bool × BitVec 8 × Nat × Nat × Bool :=
  (c.signal, c.exclusive, c.generation, c.current, c.older, c.fence)

/-- The signal holds the context (R133, R135). -/
def signalHold (s : State) (i : Nat) : Bool := (s.ctx i).signal && !(s.ctx i).exclusive && s.actions.hold

/-- A record of the context is ELIGIBLE. -/
def HasEligible (s : State) (i : Nat) : Prop := ∃ e ∈ s.staging.pool, e.2.owner = i ∧ e.2.state = .eligible

section
variable {s t : State} {i : Nat}

theorem signalHold_congr (kept : lasting (t.ctx i) = lasting (s.ctx i)) (actions : t.actions = s.actions) :
    signalHold t i = signalHold s i := by
  have signal : (t.ctx i).signal = (s.ctx i).signal := (congrArg (fun f => f.1) kept :)
  have exclusive : (t.ctx i).exclusive = (s.ctx i).exclusive := (congrArg (fun f => f.2.1) kept :)
  unfold signalHold
  rw [signal, exclusive, actions]

theorem effHold_of_signalHold (h : signalHold s i = true) : s.effHold i = true := by
  simp only [signalHold, Bool.and_eq_true, Bool.not_eq_true'] at h
  obtain ⟨⟨signal, shared⟩, hold⟩ := h
  unfold State.effHold
  simp [signal, shared, hold]

/-- A record judged in a held context is not ELIGIBLE (R83). -/
theorem eligible_of_held (held : s.effHold i = true) (pieces : List Piece) : s.eligible i pieces = false := by
  unfold State.eligible
  simp [held]

theorem judged_of_held {rec : StagedRecord} (held : s.effHold rec.owner = true) : s.judged rec ≠ .eligible := by
  have unfit := eligible_of_held held rec.pieces
  unfold State.judged
  cases rec.state <;> simp [unfit]

/-- A re-evaluation makes no record of a held context ELIGIBLE (R84). -/
theorem hasEligible_rejudge (held : s.effHold i = true) {pick : Nat → Bool} (h : HasEligible (s.rejudge pick) i) :
    HasEligible s i := by
  obtain ⟨e, mem, own, eligible⟩ := h
  obtain ⟨f, listed, rfl⟩ := List.mem_map.1 mem
  by_cases picked : pick f.2.owner = true
  · rw [if_pos picked] at own eligible
    exact absurd eligible (judged_of_held (by rw [show f.2.owner = i from own]; exact held))
  · rw [if_neg picked] at own eligible
    exact ⟨f, listed, own, eligible⟩

theorem hasEligible_of_staging (same : t.staging = s.staging) (h : HasEligible t i) : HasEligible s i := by
  unfold HasEligible at h ⊢
  rwa [same] at h

theorem hasEligible_release {k : Nat} {gone : Nat × StagedRecord → Bool} (h : HasEligible (s.release k gone) i) :
    HasEligible s i := by
  obtain ⟨e, mem, rest⟩ := h
  exact ⟨e, (List.mem_filter.1 mem).1, rest⟩

/-- A record staged in a held context is PARKED (R81). -/
theorem hasEligible_stage (held : s.effHold i = true) {offset : Nat} {payload : List Byte} {pieces : List Piece}
    (h : HasEligible (s.stage i offset payload pieces) i) : HasEligible s i := by
  obtain ⟨e, mem, own, eligible⟩ := h
  have listed : e ∈ Table.insert s.staging.lowestRecord (stagedRecord s i offset payload pieces) s.staging.pool := mem
  rcases mem_insert listed with rfl | old
  · unfold stagedRecord at eligible
    rw [eligible_of_held held] at eligible
    exact RecordState.noConfusion eligible
  · exact ⟨e, old, own, eligible⟩

end

/-! ## Stages that go on -/

/-- From one state to another a segment's stages went on: the signal, the generation, its jobs and fence stay; the cause
stays while the context has not failed; and no record of a context that the signal holds became ELIGIBLE. -/
structure Onward (i : Nat) (s t : State) : Prop where
  kept : lasting (t.ctx i) = lasting (s.ctx i)
  actions : t.actions = s.actions
  unfailed : (t.ctx i).state ≠ .failed → (s.ctx i).state ≠ .failed ∧ (t.ctx i).cause = (s.ctx i).cause
  tells : Tells (fun _ => True) s t
  parked : signalHold t i = true → HasEligible t i → HasEligible s i

section
variable {s t u : State} {i : Nat}

theorem onward_refl (i : Nat) (s : State) : Onward i s s where
  kept := rfl
  actions := rfl
  unfailed h := ⟨h, rfl⟩
  tells := tells_of_same rfl fun _ => rfl
  parked _ h := h

theorem Onward.trans (h : Onward i s t) (g : Onward i t u) : Onward i s u where
  kept := g.kept.trans h.kept
  actions := g.actions.trans h.actions
  unfailed alive := by
    obtain ⟨before, cause⟩ := g.unfailed alive
    obtain ⟨first, cause'⟩ := h.unfailed before
    exact ⟨first, cause.trans cause'⟩
  tells := h.tells.trans g.tells
  parked hold has := h.parked ((signalHold_congr g.kept g.actions).symm.trans hold) (g.parked hold has)

theorem onward_modCtx (s : State) (i : Nat) {f : Ctx → Ctx} (kept : ∀ c, lasting (f c) = lasting c ∧ (f c).owed = c.owed)
    (unfailed : (f (s.ctx i)).state ≠ .failed → (s.ctx i).state ≠ .failed ∧ (f (s.ctx i)).cause = (s.ctx i).cause) :
    Onward i s (s.modCtx i f) where
  kept := by rw [ctx_modCtx_same]; exact (kept _).1
  actions := rfl
  unfailed := by rw [ctx_modCtx_same]; exact unfailed
  tells := tells_modCtx s i fun c => (kept c).2
  parked _ h := h

/-- Notices and the group table change nothing of this. -/
theorem onward_owedOnly (records : OwedOnly s t) (actions : t.actions = s.actions) (staging : t.staging = s.staging)
    {P : Notice → Prop} (tells : Tells P s t) : Onward i s t where
  kept := by rw [records.record]; rfl
  actions := actions
  unfailed h := by rw [records.record] at h ⊢; exact ⟨h, rfl⟩
  tells := tells.mono fun _ _ => trivial
  parked _ := hasEligible_of_staging staging

theorem onward_notify (i : Nat) (s : State) (j : Nat) (k : OwedKind) (n : Notice) : Onward i s (s.notify j k n) :=
  onward_owedOnly (owedOnly_notify ..) (by simp) (by simp) (tells_notify ..)

theorem onward_notifyMasked (i : Nat) (s : State) (j : Nat) (holds : NoticeMask → Bool) (k : OwedKind) (n : Notice) :
    Onward i s (s.notifyMasked j holds k n) :=
  onward_owedOnly (owedOnly_notifyMasked ..) (by simp) (by simp) (tells_notifyMasked ..)

theorem onward_rejudge (i : Nat) (s : State) (pick : Nat → Bool) : Onward i s (s.rejudge pick) where
  kept := rfl
  actions := rfl
  unfailed h := ⟨h, rfl⟩
  tells := tells_of_same rfl fun _ => rfl
  parked hold := hasEligible_rejudge (effHold_of_signalHold (s := s) hold)

theorem onward_stage (s : State) (i offset : Nat) (payload : List Byte) (pieces : List Piece) :
    Onward i s (s.stage i offset payload pieces) := by
  have record := (stage_ctx s i offset payload pieces i).trans (if_pos rfl)
  have kept : lasting ((s.stage i offset payload pieces).ctx i) = lasting (s.ctx i) := by rw [record]; rfl
  exact
    { kept := kept
      actions := rfl
      unfailed := fun h => by rw [record] at h ⊢; exact ⟨h, rfl⟩
      tells := tells_of_same rfl fun j => by
        rw [stage_ctx]
        split
        · next e => rw [e]
        · rfl
      parked := fun hold => hasEligible_stage (effHold_of_signalHold ((signalHold_congr kept rfl).symm.trans hold)) }

theorem running_not_failed {c : Ctx} (running : c.receiving = true) : c.state ≠ .failed := fun failed => by
  rw [not_receiving_of_failed failed] at running
  exact Bool.noConfusion running

theorem onward_revive (running : (s.ctx i).receiving = true) : Onward i s (s.revive i) := by
  have first : Onward i s (s.modCtx i revived) :=
    onward_modCtx s i (fun c => ⟨rfl, rfl⟩) fun _ => ⟨running_not_failed running, rfl⟩
  rw [revive_eq]
  split
  · exact first.trans (onward_notifyMasked ..)
  · exact first

/-! ## Failing and completing -/

theorem onward_memberFailed (s : State) (i : Nat) (cause : FailCause) : Onward i s (s.memberFailed i cause) := by
  cases hg : (s.ctx i).group with
  | none => rw [memberFailed_of_none hg]; exact onward_refl i s
  | some g =>
    have counted : Onward i s (failureCounted s g) :=
      onward_owedOnly (owedOnly_of_same fun _ => rfl) rfl rfl (P := fun _ => True) (tells_of_same rfl fun _ => rfl)
    have told : Onward i s (failureTold s i g cause) := by
      unfold failureTold
      split
      · exact counted.trans (onward_notify ..)
      · exact counted
    rw [memberFailed_of_some hg]
    exact told.trans (onward_rejudge ..)

theorem onward_fail (s : State) (i : Nat) (cause : FailCause) : Onward i s (s.fail i cause) := by
  by_cases running : (s.ctx i).receiving = true
  · obtain ⟨staged, blocks, owed, record⟩ := fail_record running cause
    have kept : lasting ((s.fail i cause).ctx i) = lasting (s.ctx i) := by rw [record]; rfl
    have actions : (s.fail i cause).actions = s.actions := by simp
    exact
      { kept := kept
        actions := actions
        unfailed := fun h => absurd (congrArg Ctx.state record) h
        tells := (fail_tells running).mono fun _ _ => trivial
        parked := fun hold has => by
          rw [fail_eq running] at hold has
          have staging : (failTold s i cause).staging = (failReleased s i cause).staging := by
            simp [failTold, failEntered]
          have before := (onward_memberFailed (failTold s i cause) i cause).parked hold has
          exact hasEligible_release (s := s.modCtx i fun c => { c with cause := some cause })
            (hasEligible_of_staging staging before) }
  · have same : s.fail i cause = s := if_neg running
    rw [same]
    exact onward_refl i s

theorem onward_memberDone (s : State) (i : Nat) : Onward i s (s.memberDone i) :=
  onward_owedOnly (memberDone_owedOnly s i) (by simp) (by simp) (memberDone_tells s i)

theorem onward_completionCheck (s : State) (i : Nat) : Onward i s (s.completionCheck i) := by
  cases running : (s.ctx i).receiving with
  | false => rw [completionCheck_of_ended running]; exact onward_refl i s
  | true =>
    cases total : (s.ctx i).total with
    | absent | implied _ =>
      have same : s.completionCheck i = s := by unfold State.completionCheck; dsimp only; rw [total]
      rw [same]
      exact onward_refl i s
    | manifest n d =>
      by_cases reached : (s.ctx i).retired = n
      · rw [completionCheck_of_reached total running reached]
        split
        · have entered : Onward i s (doneEntered s i) :=
            onward_modCtx s i (fun c => ⟨rfl, rfl⟩) fun _ => ⟨running_not_failed running, rfl⟩
          exact (entered.trans (onward_notify ..)).trans (onward_memberDone (doneTold s i n) i)
        · exact onward_fail ..
      · rw [completionCheck_of_short total reached]
        exact onward_refl i s

/-! ## Areas -/

theorem lasting_setArea (c : Ctx) (n : Nat) (a : Area) : lasting (c.setArea n a) = lasting c := by
  unfold Ctx.setArea
  split <;> rfl

theorem onward_halfTest (s : State) (i n : Nat) : Onward i s (s.halfTest i n) := by
  rw [halfTest_eq]
  split
  · have set : Onward i s (halfSet s i n) :=
      onward_modCtx s i (fun c => ⟨lasting_setArea .., setArea_owed ..⟩) fun h => by
        rw [setArea_state] at h
        exact ⟨h, setArea_cause ..⟩
    exact set.trans (onward_notifyMasked ..)
  · exact onward_refl i s

theorem onward_cutHalfTest (s : State) (i p : Nat) : Onward i s (s.cutHalfTest i p) := by
  rcases cutHalfTest_cases s i p with ⟨eq, _⟩ | ⟨n, eq, _⟩ <;> rw [eq]
  · exact onward_refl i s
  · exact onward_halfTest s i n

theorem onward_trimAreas (s : State) (i : Nat) : Onward i s (s.trimAreas i) := by
  have cut : Onward i s (s.modCtx i areasTrimmed) := onward_modCtx s i (fun _ => ⟨rfl, rfl⟩) fun h => ⟨h, rfl⟩
  have trim : Onward i s (trimmed s i) := cut.trans (onward_rejudge i (s.modCtx i areasTrimmed) (· == i))
  rw [trimAreas_eq]
  exact (trim.trans (onward_cutHalfTest ..)).trans (onward_cutHalfTest ..)

theorem onward_retireWindow (s : State) (i n : Nat) : Onward i s (s.retireWindow i n) := by
  have retired : Onward i s (windowRetired s i n) :=
    onward_modCtx s i (fun c => ⟨lasting_setArea .., setArea_owed ..⟩) fun h => by
      have state : (advanced (s.ctx i) n).state = (s.ctx i).state := setArea_state ..
      rw [state] at h
      exact ⟨h, setArea_cause ..⟩
  rw [retireWindow_eq]
  exact retired.trans (onward_notify ..)

theorem onward_evaluateOnce (s : State) (i : Nat) : Onward i s (s.evaluateOnce i) := by
  unfold State.evaluateOnce
  dsimp only
  split
  · split
    · exact (onward_retireWindow ..).trans (onward_completionCheck ..)
    · exact onward_retireWindow ..
  · exact onward_refl i s

/-! ## The stages -/

theorem onward_gatheredWhole (s : State) (i : Nat) (g : DataSegment) : Onward i s (gatheredWhole s i g) := by
  have ranges : Onward i s (gathered s i g) := onward_modCtx s i (fun _ => ⟨rfl, rfl⟩) fun h => ⟨h, rfl⟩
  have total : Onward i (gathered s i g) (totalled s i g) :=
    onward_modCtx (gathered s i g) i (fun _ => ⟨rfl, rfl⟩) fun h => ⟨h, rfl⟩
  rw [gatheredWhole_eq]
  split
  · exact (ranges.trans total).trans (onward_trimAreas ..)
  · exact ranges

theorem onward_commit (running : (s.ctx i).receiving = true) (g : DataSegment) : Onward i s (s.commit i g) := by
  have staged := (onward_gatheredWhole s i g).trans
    (onward_stage (gatheredWhole s i g) i (DataSegment.start g) g.payload ((s.ctx i).piecesFor g))
  rw [commit_eq]
  refine staged.trans (onward_revive ?_)
  rw [stage_ctx, if_pos rfl, gatheredWhole_record]
  exact running

theorem onward_recordManifest (running : (s.ctx i).receiving = true) (g : ManifestSegment) :
    Onward i s (s.recordManifest i g) := by
  have total : Onward i s (announced s i g) := onward_modCtx s i (fun _ => ⟨rfl, rfl⟩) fun h => ⟨h, rfl⟩
  have alive : Onward i s ((announced s i g).revive i) := total.trans (onward_revive (by
    rw [announced_ctx, if_pos rfl]
    exact running))
  have noted : Onward i s (manifestNoted s i g) := by
    unfold manifestNoted
    split
    · exact alive.trans (onward_trimAreas ..)
    · exact alive
  rw [recordManifest_eq]
  exact ((noted.trans (onward_evaluateOnce ..)).trans (onward_evaluateOnce ..)).trans (onward_completionCheck ..)

theorem onward_rangeStage (running : (s.ctx i).receiving = true) (g : DataSegment) :
    Onward i s (s.rangeStage i g).state := by
  unfold State.rangeStage
  split
  · exact onward_fail ..
  · exact onward_refl i s
  · unfold State.trimStage
    dsimp only
    split
    · exact onward_revive running
    · split
      · exact onward_refl i s
      · split
        · exact onward_refl i s
        · exact onward_commit running g

theorem onward_manifestStage (running : (s.ctx i).receiving = true) (g : ManifestSegment) :
    Onward i s (s.manifestStage i g).state := by
  unfold State.manifestStage
  split
  · exact onward_revive running
  · exact onward_recordManifest running g
  · exact onward_fail ..

end

end Sys2Proof.SegmentIntake
end

section
/-! The sender signal (R34, R135 to R137): the statement O35. -/

namespace Sys2Proof.SegmentIntake

open Sys2Proof Sys2Proof.Machine Sys2Proof.Laws Sys2Proof.Contexts

/-! ## What the signal stage leaves -/

section
variable {s : State} {i : Nat} {level : Bool}

theorem signalStage_of_asked (shared : (s.ctx i).exclusive = false) (asked : restartAsked s i level = true) :
    (s.signalStage i level).1 = (signalled s i level).restart i := by rw [signalStage_eq shared, if_pos asked]

theorem signalStage_of_not_asked (shared : (s.ctx i).exclusive = false) (none : restartAsked s i level = false) :
    (s.signalStage i level).1 = signalled s i level := by rw [signalStage_eq shared, if_neg (by simp [none])]

/-- The signal, the generation, its jobs and the fence behind the stage (R135, R136, R146). -/
theorem signalStage_lasting (shared : (s.ctx i).exclusive = false) : lasting ((s.signalStage i level).1.ctx i) =
    if restartAsked s i level then
      (level, false, (s.ctx i).generation + 1, 0, (s.ctx i).older + (s.ctx i).current,
        decide (0 < (s.ctx i).older + (s.ctx i).current))
    else (level, false, (s.ctx i).generation, (s.ctx i).current, (s.ctx i).older, (s.ctx i).fence) := by
  have record := signalled_record s i level
  cases asked : restartAsked s i level with
  | true =>
    obtain ⟨_, _, _, restarted⟩ := restart_record (signalled s i level) i
    rw [signalStage_of_asked shared asked, restarted, record, if_pos rfl]
    unfold lasting
    dsimp only
    rw [shared]
  | false =>
    rw [signalStage_of_not_asked shared asked, record, if_neg (by decide)]
    unfold lasting
    dsimp only
    rw [shared]

theorem signalStage_actions (shared : (s.ctx i).exclusive = false) :
    (s.signalStage i level).1.actions = s.actions := by
  obtain ⟨_, _, _, actions, _⟩ := signalled_frame s i level
  cases asked : restartAsked s i level with
  | true =>
    obtain ⟨_, _, restarted, _⟩ := restart_rest (signalled s i level) i
    rw [signalStage_of_asked shared asked, restarted, actions]
  | false => rw [signalStage_of_not_asked shared asked, actions]

theorem signalStage_senderSignal (shared : (s.ctx i).exclusive = false) (rises : level = true ∧ (s.ctx i).signal = false)
    (notify : s.actions.notify = true) (mask : (s.effMask i).senderSignal = true) :
    Charged (s.signalStage i level).1 i .senderSignal (.senderSignal i) := by
  have charged := signalled_senderSignal rises notify mask
  cases asked : restartAsked s i level with
  | true => rw [signalStage_of_asked shared asked]; exact (restart_tells _ i).charged charged
  | false => rw [signalStage_of_not_asked shared asked]; exact charged

/-- A restart by the signal clears the cause, and RESTARTED goes out where the mask holds it (R136, R146). -/
theorem signalStage_restarted (shared : (s.ctx i).exclusive = false) (asked : restartAsked s i level = true) :
    ((s.signalStage i level).1.ctx i).cause = none ∧ ((s.effMask i).restarted = true →
      Charged (s.signalStage i level).1 i .restarted (.restarted i ((s.ctx i).generation + 1))) := by
  have record := signalled_record s i level
  rw [signalStage_of_asked shared asked]
  refine ⟨?_, fun mask => ?_⟩
  · obtain ⟨_, _, _, restarted⟩ := restart_record (signalled s i level) i
    rw [restarted]
  · have told := restart_told (v := signalled s i level) (i := i) (by rw [signalled_mask]; exact mask)
    rwa [record] at told

/-! ## No record stays ELIGIBLE (R134, R135) -/

/-- Every record of the context is WRITING. -/
def AllWriting (s : State) (i : Nat) : Prop := ∀ e ∈ s.staging.pool, e.2.owner = i → e.2.state = .writing

theorem allWriting_rejudge {pick : Nat → Bool} (h : AllWriting s i) : AllWriting (s.rejudge pick) i := by
  intro e mem own
  obtain ⟨f, listed, rfl⟩ := List.mem_map.1 mem
  by_cases picked : pick f.2.owner = true
  · rw [if_pos picked] at own ⊢
    have writing := h f listed own
    show s.judged f.2 = .writing
    unfold State.judged
    rw [writing]
  · rw [if_neg picked] at own ⊢
    exact h f listed own

theorem allWriting_of_staging {t : State} (same : t.staging = s.staging) (h : AllWriting s i) : AllWriting t i := by
  unfold AllWriting at h ⊢
  rwa [same]

theorem allWriting_releaseUnwritten (s : State) (i : Nat) : AllWriting (s.releaseUnwritten i) i := by
  intro e mem own
  have kept := (List.mem_filter.1 mem).2
  simpa [own] using kept

theorem allWriting_restart (s : State) (i : Nat) : AllWriting (s.restart i) i := by
  obtain ⟨told, freshened⟩ := restartTold_staging s i
  have all : AllWriting (restartTold s i) i := allWriting_of_staging told
    (allWriting_rejudge (s := restartFreshened s i) (allWriting_of_staging freshened (allWriting_releaseUnwritten s i)))
  rw [restart_eq]
  split
  · cases hg : ((restartTold s i).ctx i).group with
    | none => rw [memberRecovered_of_none hg]; exact all
    | some g =>
      rw [memberRecovered_of_some hg]
      exact allWriting_rejudge (s := recoveryCounted (restartTold s i) g) all
  · exact all

theorem not_hasEligible_of_allWriting (h : AllWriting s i) : ¬HasEligible s i := by
  rintro ⟨e, mem, own, eligible⟩
  exact RecordState.noConfusion ((h e mem own).symm.trans eligible)

/-- The hold that a signal begins has every record of the context judged again, and none is fit. -/
theorem not_hasEligible_signalled (shared : (s.ctx i).exclusive = false) (hold : s.actions.hold = true)
    (before : s.effHold i = false) : ¬HasEligible (signalled s i true) i := by
  have record := (signalTold_owedOnly s i true).record i
  rw [leveled_ctx, if_pos rfl] at record
  have held : (signalTold s i true).effHold i = true := effHold_of_signalHold (by
    unfold signalHold
    rw [record, (signalTold_frame s i true).actions, hold]
    simp [shared])
  rintro ⟨e, mem, own, eligible⟩
  obtain ⟨f, listed, rfl⟩ := List.mem_map.1 mem
  have owner : f.2.owner = i := by
    split at own <;> exact own
  have picked : (s.effHold f.2.owner != (signalTold s i true).effHold f.2.owner) = true := by
    rw [owner, before, held]
    rfl
  rw [if_pos picked] at eligible
  exact judged_of_held (by rw [owner]; exact held) eligible

theorem signalStage_parked (shared : (s.ctx i).exclusive = false) (hold : s.actions.hold = true)
    (before : s.effHold i = false) : ¬HasEligible (s.signalStage i true).1 i := by
  cases asked : restartAsked s i true with
  | true => rw [signalStage_of_asked shared asked]; exact not_hasEligible_of_allWriting (allWriting_restart (signalled s i true) i)
  | false => rw [signalStage_of_not_asked shared asked]; exact not_hasEligible_signalled shared hold before

end

/-! ## What the segment leaves -/

/-- What the statements say of the level, the notice, the hold and the restart behind a segment with a signal level. -/
def SignalActed (s t : State) (i : Nat) (level : Bool) : Prop :=
  let c := s.ctx i
  let rises := level = true ∧ c.signal = false
  (t.ctx i).signal = level ∧
    (rises → s.actions.notify = true → (s.effMask i).senderSignal = true → Charged t i .senderSignal (.senderSignal i)) ∧
    (level = true → s.actions.hold = true → t.effHold i = true) ∧
    (rises → s.actions.hold = true → s.effHold i = false →
      ∀ r rec, t.staged r = some rec → rec.owner = i → rec.state ≠ .eligible) ∧
    (if rises ∧ s.actions.restart = true ∧ c.area0.faulted = false ∧ c.area1.faulted = false then
      (t.ctx i).generation = c.generation + 1 ∧ (t.ctx i).current = 0 ∧ (t.ctx i).older = c.older + c.current ∧
        (t.ctx i).fence = decide (0 < c.older + c.current) ∧ ((t.ctx i).state ≠ .failed → (t.ctx i).cause = none) ∧
        ((s.effMask i).restarted = true → Charged t i .restarted (.restarted i (c.generation + 1)))
    else (t.ctx i).generation = c.generation)

theorem mem_pool_of_staged {s : State} {r : Nat} {rec : StagedRecord} (h : s.staged r = some rec) :
    ∃ e ∈ s.staging.pool, e.2 = rec := by
  obtain ⟨e, found, same⟩ := Option.map_eq_some_iff.1 h
  exact ⟨e, List.mem_of_find?_eq_some found, same⟩

/-- Whatever the stages behind it do, a segment's signal has acted. -/
theorem signalActed_of_onward {s t : State} {i : Nat} {level : Bool} (shared : (s.ctx i).exclusive = false)
    (onward : Onward i (s.signalStage i level).1 t) : SignalActed s t i level := by
  have actions := onward.actions.trans (signalStage_actions shared)
  have kept := onward.kept.trans (signalStage_lasting shared)
  have signal : (t.ctx i).signal = level := by
    refine (congrArg (fun f => f.1) kept).trans ?_
    split <;> rfl
  have exclusive : (t.ctx i).exclusive = false := by
    refine (congrArg (fun f => f.2.1) kept).trans ?_
    split <;> rfl
  have holds : level = true → s.actions.hold = true → signalHold t i = true := fun one hold => by
    unfold signalHold
    rw [signal, exclusive, actions, one, hold]
    rfl
  refine ⟨signal, fun rises notify mask => onward.tells.charged (signalStage_senderSignal shared rises notify mask),
    fun one hold => effHold_of_signalHold (holds one hold), fun rises hold before r rec at_ own eligible => ?_, ?_⟩
  · obtain ⟨e, mem, rfl⟩ := mem_pool_of_staged at_
    have has := onward.parked (holds rises.1 hold) ⟨e, mem, own, eligible⟩
    rw [rises.1] at has
    exact signalStage_parked shared hold before has
  · have iff : restartAsked s i level = true ↔ (level = true ∧ (s.ctx i).signal = false) ∧ s.actions.restart = true ∧
        (s.ctx i).area0.faulted = false ∧ (s.ctx i).area1.faulted = false := restartAsked_iff.trans and_assoc.symm
    by_cases asked : restartAsked s i level = true
    · obtain ⟨cause, restarted⟩ := signalStage_restarted shared asked
      rw [if_pos asked] at kept
      obtain ⟨_, _, generation, current, older, fence⟩ : (t.ctx i).signal = level ∧ (t.ctx i).exclusive = false ∧
          (t.ctx i).generation = (s.ctx i).generation + 1 ∧ (t.ctx i).current = 0 ∧
          (t.ctx i).older = (s.ctx i).older + (s.ctx i).current ∧
          (t.ctx i).fence = decide (0 < (s.ctx i).older + (s.ctx i).current) := by
        simpa only [lasting, Prod.mk.injEq] using kept
      exact (if_pos (iff.1 asked)).mpr ⟨generation, current, older, fence,
        fun alive => (onward.unfailed alive).2.trans cause, fun mask => onward.tells.charged (restarted mask)⟩
    · rw [if_neg asked] at kept
      exact (if_neg fun h => asked (iff.2 h)).mpr (congrArg (fun f => f.2.2.1) kept)

theorem signalActed_returned {s : State} {a : Answer} {i : Nat} {level : Bool} (h : SignalActed s a.state i level)
    (link : BitVec 2) (handle : BitVec 16) (kind : BitVec 8) : SignalActed s (a.returned link handle kind) i level := h

theorem signalActed_data {s : State} {i : Nat} {g : DataSegment} (shared : (s.ctx i).exclusive = false)
    (open_ : (s.ctx i).receiving = true ∨ (s.ctx i).state = .failed) (tally : DataSegment.tallyMatches g = true) :
    SignalActed s (s.dataStages i g).state i g.signal := by
  refine signalActed_of_onward shared ?_
  rw [dataStages_of_signalled shared open_ tally]
  split
  · next running => exact onward_rangeStage running g
  · exact onward_refl i _

theorem signalActed_manifest {s : State} {i : Nat} {g : ManifestSegment} (shared : (s.ctx i).exclusive = false)
    (open_ : (s.ctx i).receiving = true ∨ (s.ctx i).state = .failed) :
    SignalActed s (s.manifestStages i g).state i g.signal := by
  refine signalActed_of_onward shared ?_
  rw [manifestStages_of_signalled shared open_]
  split
  · next running => exact onward_manifestStage running g
  · exact onward_refl i _

/-- Settles O35: the signal stage acts, the stages behind it keep what it did, and taken in the state that it leaves the
segment finds its level recorded. -/
theorem senderSignalActs : Obligations.SenderSignalActs := by
  intro s i taking shared open_
  refine ⟨fun g shape found tally => ?_, fun g shape found => ?_⟩
  · have acted := signalActed_data (g := g) shared open_ tally
    refine ⟨_, (exec_data_idle taking g).trans (by rw [takeData_of_found taking shape found]),
      signalActed_returned acted g.link g.handle 1, fun canonical _ => ?_⟩
    exact ⟨_, data_goesOn taking shared open_ shape found tally canonical⟩
  · have acted := signalActed_manifest (g := g) shared open_
    refine ⟨_, (exec_manifest_idle taking g).trans (by rw [takeManifest_of_found taking shape found]),
      signalActed_returned acted g.link g.handle 2, fun canonical _ => ?_⟩
    exact ⟨_, manifest_goesOn taking shared open_ shape found canonical⟩

end Sys2Proof.SegmentIntake
end

section
/-! Lists of ranges in order: what they cover, and the new ranges of a segment (R48, R51): the statement O20. -/

namespace Sys2Proof.Extents

open Sys2Proof Sys2Proof.Machine Sys2Proof.SegmentIntake

/-! ## Order and coverage -/

section
variable {e r : Extent} {es l : List Extent} {x lo hi : Nat}

theorem ordered_nil : Ordered [] := ⟨nofun, List.Pairwise.nil⟩

theorem ordered_cons : Ordered (e :: es) ↔ e.start < e.stop ∧ (∀ y ∈ es, e.stop < y.start) ∧ Ordered es := by
  unfold Ordered
  rw [List.forall_mem_cons, List.pairwise_cons]
  tauto

/-- An empty range in front of others adds nothing; one that is not empty has to end below them. -/
theorem ordered_maybe_cons (behind : ∀ y ∈ es, hi < y.start) (h : Ordered es) :
    Ordered ((if lo < hi then [⟨lo, hi⟩] else []) ++ es) := by
  split
  · next some_ => exact ordered_cons.2 ⟨some_, behind, h⟩
  · exact h

theorem not_covered_nil : ¬ Covered [] x := fun ⟨_, mem, _⟩ => nomatch mem

theorem covered_cons : Covered (e :: es) x ↔ (e.start ≤ x ∧ x < e.stop) ∨ Covered es x := by
  unfold Covered
  simp only [List.mem_cons, exists_eq_or_imp]

theorem covered_maybe_cons :
    Covered ((if lo < hi then [⟨lo, hi⟩] else []) ++ es) x ↔ (lo ≤ x ∧ x < hi) ∨ Covered es x := by
  split
  · exact covered_cons
  · exact ⟨.inr, fun h => h.resolve_left (by omega)⟩

/-- What the extents behind the first cover lies above its end. -/
theorem above_of_covered (h : Ordered (e :: es)) (covered : Covered es x) : e.stop < x := by
  obtain ⟨y, mem, low, _⟩ := covered
  exact (ordered_behind h mem).trans_le low

/-- Ranges lie within bounds exactly when the bytes they cover do. -/
theorem within_iff_covered (h : Ordered l) :
    (∀ y ∈ l, lo ≤ y.start ∧ y.stop ≤ hi) ↔ ∀ x, Covered l x → lo ≤ x ∧ x < hi := by
  constructor
  · rintro within x ⟨y, mem, low, high⟩
    have := within y mem
    omega
  · intro covers y mem
    have some_ := h.1 y mem
    have first := covers y.start ⟨y, mem, le_rfl, some_⟩
    have last := covers (y.stop - 1) ⟨y, mem, by omega, by omega⟩
    omega

end

/-! ## The parts that no extent covers -/

theorem gaps_cons (lo hi : Nat) (e : Extent) (es : List Extent) : gaps lo hi (e :: es) =
    (if lo < min e.start hi then [⟨lo, min e.start hi⟩] else []) ++ gaps (max lo e.stop) hi es := rfl

theorem covered_gaps_nil (lo hi x : Nat) : Covered (gaps lo hi []) x ↔ lo ≤ x ∧ x < hi := by
  have shape := covered_maybe_cons (lo := lo) (hi := hi) (es := []) (x := x)
  rw [List.append_nil, or_iff_left not_covered_nil] at shape
  exact shape

theorem covered_gaps {es : List Extent} (h : Ordered es) (lo hi x : Nat) :
    Covered (gaps lo hi es) x ↔ lo ≤ x ∧ x < hi ∧ ¬ Covered es x := by
  induction es generalizing lo with
  | nil =>
    rw [covered_gaps_nil, and_iff_left not_covered_nil]
  | cons e es ih =>
    have some_ : e.start < e.stop := (ordered_cons.1 h).1
    have above : Covered es x → e.stop < x := above_of_covered h
    rw [gaps_cons, covered_maybe_cons, ih (ordered_tail h), covered_cons]
    by_cases later : Covered es x
    · have := above later
      simp only [later, not_true, and_false, or_true, or_false, lt_min_iff, iff_false]
      omega
    · simp only [later, not_false_eq_true, and_true, or_false, lt_min_iff, max_le_iff]
      omega

/-- No gap starts below the bound. -/
theorem start_of_mem_gaps {es : List Extent} {lo hi : Nat} {g : Extent} (mem : g ∈ gaps lo hi es) : lo ≤ g.start := by
  induction es generalizing lo with
  | nil =>
    unfold gaps at mem
    split at mem
    · rw [List.mem_singleton.1 mem]
    · exact absurd mem (List.not_mem_nil)
  | cons e es ih =>
    rw [gaps_cons, List.mem_append] at mem
    rcases mem with first | later
    · split at first
      · rw [List.mem_singleton.1 first]
      · exact absurd first (List.not_mem_nil)
    · exact (le_max_left ..).trans (ih later)

theorem ordered_gaps {es : List Extent} (h : Ordered es) (lo hi : Nat) : Ordered (gaps lo hi es) := by
  induction es generalizing lo with
  | nil =>
    have shape := ordered_maybe_cons (lo := lo) (hi := hi) (es := []) nofun ordered_nil
    rwa [List.append_nil] at shape
  | cons e es ih =>
    rw [gaps_cons]
    refine ordered_maybe_cons (fun g mem => ?_) (ih (ordered_tail h) _)
    have some_ : e.start < e.stop := (ordered_cons.1 h).1
    have low := start_of_mem_gaps mem
    omega

theorem length_gaps (lo hi : Nat) (es : List Extent) : (gaps lo hi es).length ≤ es.length + 1 := by
  induction es generalizing lo with
  | nil => unfold gaps; split <;> simp
  | cons e es ih =>
    have later := ih (max lo e.stop)
    rw [gaps_cons, List.length_append, List.length_cons]
    split <;> simp only [List.length_cons, List.length_nil] <;> omega

theorem covered_newRanges {retired : Nat} {extents : List Extent} (h : Ordered extents) (start stop x : Nat) :
    Covered (newRanges retired extents start stop) x ↔ start ≤ x ∧ x < stop ∧ retired ≤ x ∧ ¬ Covered extents x := by
  unfold newRanges
  rw [covered_gaps h, max_le_iff]
  tauto

theorem ordered_newRanges {retired : Nat} {extents : List Extent} (h : Ordered extents) (start stop : Nat) :
    Ordered (newRanges retired extents start stop) := ordered_gaps h _ _

/-- Settles O20: the gaps between ordered extents, above the retired edge. -/
theorem newRangesAreTheUncoveredBytes : Obligations.NewRangesAreTheUncoveredBytes := by
  intro retired start stop extents ordered
  exact ⟨ordered_newRanges ordered start stop, length_gaps _ _ _, covered_newRanges ordered start stop⟩

end Sys2Proof.Extents
end

section
/-! The insertion of new ranges, and the count of the limit stage (R55, R57): the statement O21. -/

namespace Sys2Proof.Extents

open Sys2Proof Sys2Proof.Machine Sys2Proof.SegmentIntake

/-! ## One range inserted -/

section
variable {r e : Extent} {es : List Extent}

/-- A range that reaches an extent, and is reached by it, is merged with it. -/
def merged (r e : Extent) : Extent := ⟨min r.start e.start, max r.stop e.stop⟩

theorem insertExtent_before (below : r.stop < e.start) : insertExtent r (e :: es) = r :: e :: es := if_pos below

theorem insertExtent_behind (below : e.stop < r.start) (first : ¬ r.stop < e.start) :
    insertExtent r (e :: es) = e :: insertExtent r es := (if_neg first).trans (if_pos below)

theorem insertExtent_merged (first : ¬ r.stop < e.start) (below : ¬ e.stop < r.start) :
    insertExtent r (e :: es) = insertExtent (merged r e) es := (if_neg first).trans (if_neg below)

/-- Insertion adds the range's bytes, whatever it touches or overlaps. -/
theorem covered_insertExtent (r : Extent) (es : List Extent) (x : Nat) :
    Covered (insertExtent r es) x ↔ (r.start ≤ x ∧ x < r.stop) ∨ Covered es x := by
  induction es generalizing r with
  | nil => exact covered_cons
  | cons e es ih =>
    by_cases first : r.stop < e.start
    · rw [insertExtent_before first, covered_cons]
    by_cases below : e.stop < r.start
    · rw [insertExtent_behind below first, covered_cons, ih, covered_cons]
      tauto
    · have union : ((merged r e).start ≤ x ∧ x < (merged r e).stop) ↔
          (r.start ≤ x ∧ x < r.stop) ∨ (e.start ≤ x ∧ x < e.stop) := by
        simp only [merged]
        omega
      rw [insertExtent_merged first below, ih, union, covered_cons, or_assoc]

/-- Insertion brings nothing below a bound that the range and the extents keep. -/
theorem above_insertExtent {bound : Nat} (range : bound < r.start) (extents : ∀ y ∈ es, bound < y.start) :
    ∀ y ∈ insertExtent r es, bound < y.start := by
  induction es generalizing r with
  | nil => intro y mem; rw [List.mem_singleton.1 mem]; exact range
  | cons e es ih =>
    obtain ⟨head, tail⟩ := List.forall_mem_cons.1 extents
    by_cases first : r.stop < e.start
    · rw [insertExtent_before first]
      exact List.forall_mem_cons.2 ⟨range, extents⟩
    by_cases below : e.stop < r.start
    · rw [insertExtent_behind below first]
      exact List.forall_mem_cons.2 ⟨head, ih range tail⟩
    · rw [insertExtent_merged first below]
      exact ih (lt_min range head) tail

theorem ordered_insertExtent (range : r.start < r.stop) (h : Ordered es) : Ordered (insertExtent r es) := by
  induction es generalizing r with
  | nil => exact ordered_cons.2 ⟨range, nofun, ordered_nil⟩
  | cons e es ih =>
    obtain ⟨some_, behind, tail⟩ := ordered_cons.1 h
    by_cases first : r.stop < e.start
    · rw [insertExtent_before first]
      refine ordered_cons.2 ⟨range, List.forall_mem_cons.2 ⟨first, fun y mem => ?_⟩, h⟩
      have := behind y mem
      omega
    by_cases below : e.stop < r.start
    · rw [insertExtent_behind below first]
      exact ordered_cons.2 ⟨some_, above_insertExtent below behind, ih range tail⟩
    · rw [insertExtent_merged first below]
      refine ih ?_ tail
      simp only [merged]
      omega

/-! ## Touchings -/

/-- The range holds no byte that the extents cover. -/
def Fresh (r : Extent) (es : List Extent) : Prop := ∀ x, r.start ≤ x → x < r.stop → ¬ Covered es x

theorem Fresh.tail (fresh : Fresh r (e :: es)) : Fresh r es :=
  fun x low high covered => fresh x low high (covered_cons.2 (.inr covered))

/-- A range that holds none of an extent's bytes stands wholly on one side of it. -/
theorem Fresh.apart (fresh : Fresh r (e :: es)) (range : r.start < r.stop) (some_ : e.start < e.stop) :
    r.stop ≤ e.start ∨ e.stop ≤ r.start := by
  by_contra overlap
  exact fresh (max r.start e.start) (le_max_left ..) (by omega) (covered_cons.2 (.inl (by omega)))

theorem touchings_cons (e : Extent) (es : List Extent) (r : Extent) : touchings (e :: es) r =
    (if e.start = r.stop ∨ e.stop = r.start then 1 else 0) + touchings es r := by
  unfold touchings
  rw [List.filter_cons]
  by_cases touches : e.start = r.stop ∨ e.stop = r.start
  · simp [touches, Nat.add_comm]
  · simp [touches]

open Classical in
/-- A fresh range touches an extent on its right exactly when the byte at its end is covered, and on its left exactly when
the byte before its start is. -/
theorem touchings_eq (range : r.start < r.stop) (h : Ordered es) (fresh : Fresh r es) : touchings es r =
    (if Covered es r.stop then 1 else 0) + (if 0 < r.start ∧ Covered es (r.start - 1) then 1 else 0) := by
  induction es with
  | nil => simp [touchings, not_covered_nil]
  | cons e es ih =>
    have some_ := (ordered_cons.1 h).1
    have apart := fresh.apart range some_
    have above : ∀ x, Covered es x → e.stop < x := fun x => above_of_covered h
    rw [touchings_cons, ih (ordered_tail h) fresh.tail, covered_cons, covered_cons]
    by_cases onRight : e.start = r.stop
    · have noRight : ¬ Covered es r.stop := fun covered => by have := above _ covered; omega
      have noLeft : ¬ Covered es (r.start - 1) := fun covered => by have := above _ covered; omega
      simp only [if_pos (Or.inl onRight), noRight, noLeft, or_false, and_false, if_false]
      split_ifs <;> omega
    have notRight : ¬ (e.start ≤ r.stop ∧ r.stop < e.stop) := by omega
    by_cases onLeft : e.stop = r.start
    · have noLeft : ¬ Covered es (r.start - 1) := fun covered => by have := above _ covered; omega
      simp only [if_pos (Or.inr onLeft), notRight, false_or, noLeft, or_false, and_false, if_false]
      split_ifs <;> omega
    · have notLeft : ¬ (e.start ≤ r.start - 1 ∧ r.start - 1 < e.stop) := by omega
      simp only [onRight, onLeft, or_self, if_false, notRight, notLeft, false_or, Nat.zero_add]

/-- The touchings of a range depend on what the extents cover, and so not on a range inserted below it. -/
theorem touchings_insertExtent {q : Extent} (range : r.start < r.stop) (later : q.start < q.stop)
    (below : r.stop < q.start) (h : Ordered es) (fresh : Fresh q es) : touchings (insertExtent r es) q = touchings es q := by
  have still : Fresh q (insertExtent r es) := fun x low high covered =>
    ((covered_insertExtent r es x).1 covered).elim (by omega) (fresh x low high)
  have right : Covered (insertExtent r es) q.stop ↔ Covered es q.stop := by
    rw [covered_insertExtent]
    exact or_iff_right (by omega)
  have left : Covered (insertExtent r es) (q.start - 1) ↔ Covered es (q.start - 1) := by
    rw [covered_insertExtent]
    exact or_iff_right (by omega)
  rw [touchings_eq later (ordered_insertExtent range h) still, touchings_eq later h fresh]
  rw [propext right, propext left]

/-- Extents above a bound touch no range that ends there or below. -/
theorem touchings_of_above {bound : Nat} (reach : r.start ≤ bound ∧ r.stop ≤ bound) (some_ : ∀ y ∈ es, y.start < y.stop)
    (above : ∀ y ∈ es, bound < y.start) : touchings es r = 0 := by
  unfold touchings
  rw [List.length_eq_zero_iff, List.filter_eq_nil_iff]
  intro y mem
  have := some_ y mem
  have := above y mem
  simp only [Bool.or_eq_true, beq_iff_eq]
  omega

/-- Extents above the start of a range touch it at its end only. -/
theorem touchings_at_stop {q : Extent} (same : q.stop = r.stop) (some_ : ∀ y ∈ es, y.start < y.stop)
    (above : ∀ y ∈ es, r.start < y.start ∧ q.start < y.start) : touchings es q = touchings es r := by
  unfold touchings
  congr 1
  refine List.filter_congr fun y mem => ?_
  have := some_ y mem
  have := above y mem
  rw [same, beq_false_of_ne (a := y.stop) (b := q.start) (by omega),
    beq_false_of_ne (a := y.stop) (b := r.start) (by omega)]

/-- Each touching joins the range to an extent; a range that touches nothing is one extent more (R55, R57). -/
theorem length_insertExtent (range : r.start < r.stop) (h : Ordered es) (fresh : Fresh r es) :
    (insertExtent r es).length + touchings es r = es.length + 1 := by
  induction es generalizing r with
  | nil => rfl
  | cons e es ih =>
    obtain ⟨some_, behind, tail⟩ := ordered_cons.1 h
    by_cases first : r.stop < e.start
    · have none : touchings (e :: es) r = 0 := touchings_of_above (bound := r.stop) ⟨range.le, le_rfl⟩ h.1
        (List.forall_mem_cons.2 ⟨first, fun y mem => (first.trans some_).trans (behind y mem)⟩)
      rw [insertExtent_before first, none]
      rfl
    by_cases below : e.stop < r.start
    · have later := ih range tail fresh.tail
      rw [insertExtent_behind below first, touchings_cons, if_neg (by omega), List.length_cons, List.length_cons]
      omega
    · have touch : r.stop = e.start ∨ e.stop = r.start := by
        have := fresh.apart range some_
        omega
      have stillFresh : Fresh (merged r e) es := fun x low high covered => by
        have := above_of_covered h covered
        exact fresh.tail x (by simp only [merged] at low; omega) (by simp only [merged] at high; omega) covered
      have same : touchings es (merged r e) = touchings es r := by
        rcases touch with right | left
        · have reach : (merged r e).start ≤ e.stop ∧ (merged r e).stop ≤ e.stop := by simp only [merged]; omega
          rw [touchings_of_above reach tail.1 behind, touchings_of_above (by omega) tail.1 behind]
        · refine touchings_at_stop (by simp only [merged]; omega) tail.1 fun y mem => ?_
          have := behind y mem
          simp only [merged]
          omega
      have later := ih (r := merged r e) (by simp only [merged]; omega) tail stillFresh
      rw [insertExtent_merged first below, touchings_cons, if_pos (by omega), List.length_cons]
      omega

end

/-! ## All new ranges inserted -/

theorem insertExtents_cons (r : Extent) (rs es : List Extent) :
    insertExtents (r :: rs) es = insertExtents rs (insertExtent r es) := rfl

theorem covered_insertExtents (rs es : List Extent) (x : Nat) :
    Covered (insertExtents rs es) x ↔ Covered es x ∨ Covered rs x := by
  induction rs generalizing es with
  | nil => exact (or_iff_left not_covered_nil).symm
  | cons r rs ih =>
    rw [insertExtents_cons, ih, covered_insertExtent, covered_cons]
    tauto

theorem ordered_insertExtents {rs es : List Extent} (some_ : ∀ r ∈ rs, r.start < r.stop) (h : Ordered es) :
    Ordered (insertExtents rs es) := by
  induction rs generalizing es with
  | nil => exact h
  | cons r rs ih =>
    obtain ⟨range, ranges⟩ := List.forall_mem_cons.1 some_
    exact ih ranges (ordered_insertExtent range h)

theorem length_insertExtents {rs es : List Extent} (ranges : Ordered rs) (h : Ordered es)
    (fresh : ∀ x, Covered rs x → ¬ Covered es x) :
    (insertExtents rs es).length + (rs.map (touchings es)).sum = es.length + rs.length := by
  induction rs generalizing es with
  | nil => rfl
  | cons r rs ih =>
    obtain ⟨range, behind, tail⟩ := ordered_cons.1 ranges
    have first : Fresh r es := fun x low high => fresh x (covered_cons.2 (.inl ⟨low, high⟩))
    have others : ∀ x, Covered rs x → ¬ Covered es x := fun x covered => fresh x (covered_cons.2 (.inr covered))
    have othersStill : ∀ x, Covered rs x → ¬ Covered (insertExtent r es) x := fun x covered again => by
      have := above_of_covered ranges covered
      exact ((covered_insertExtent r es x).1 again).elim (by omega) (others x covered)
    have touch : rs.map (touchings (insertExtent r es)) = rs.map (touchings es) :=
      List.map_congr_left fun q mem => touchings_insertExtent range (tail.1 q mem) (behind q mem) h
        fun x low high => others x ⟨q, mem, low, high⟩
    have one := length_insertExtent range h first
    have rest := ih tail (ordered_insertExtent range h) othersStill
    rw [touch] at rest
    rw [insertExtents_cons, List.map_cons, List.sum_cons, List.length_cons]
    omega

theorem length_eq_countAfter {rs es : List Extent} (ranges : Ordered rs) (h : Ordered es)
    (fresh : ∀ x, Covered rs x → ¬ Covered es x) : (insertExtents rs es).length = countAfter es rs := by
  have balance := length_insertExtents ranges h fresh
  unfold countAfter
  omega

/-- Settles O21: range by range, each touching merging one range with one extent. -/
theorem insertionIsTheUnion : Obligations.InsertionIsTheUnion := by
  intro extents ranges ordered new fresh
  exact ⟨ordered_insertExtents new.1 ordered, covered_insertExtents ranges extents,
    length_eq_countAfter new ordered fresh⟩

end Sys2Proof.Extents
end

section
/-! The pieces of a segment (R53): the statement O22. -/

namespace Sys2Proof.Extents

open Sys2Proof Sys2Proof.Machine Sys2Proof.SegmentIntake

/-! ## A range split at a window boundary -/

section
variable {w : Nat} {r : Extent}

/-- The first window boundary above the start of a range. -/
def boundary (w : Nat) (r : Extent) : Nat := (r.start / w + 1) * w

theorem splitAtWindow_eq (w : Nat) (r : Extent) : splitAtWindow w r =
    if boundary w r < r.stop then [⟨r.start, boundary w r⟩, ⟨boundary w r, r.stop⟩] else [r] := rfl

theorem boundary_bounds (size : 0 < w) (r : Extent) :
    r.start / w * w ≤ r.start ∧ r.start < boundary w r ∧ boundary w r = r.start / w * w + w :=
  ⟨Nat.div_mul_le_self .., (Nat.div_lt_iff_lt_mul size).1 (Nat.lt_succ_self _), Nat.succ_mul ..⟩

theorem covered_splitAtWindow (size : 0 < w) (x : Nat) :
    Covered (splitAtWindow w r) x ↔ r.start ≤ x ∧ x < r.stop := by
  obtain ⟨_, above, _⟩ := boundary_bounds size r
  rw [splitAtWindow_eq]
  split
  · rw [covered_cons, covered_cons, or_iff_left not_covered_nil]
    dsimp only
    omega
  · rw [covered_cons, or_iff_left not_covered_nil]

theorem splitAtWindow_ascends : (splitAtWindow w r).Pairwise fun a b => a.stop ≤ b.start := by
  rw [splitAtWindow_eq]
  split <;> simp

/-- What a part of a split range is: not empty, within the range, and within the window it starts in. -/
structure PartOf (w : Nat) (r p : Extent) : Prop where
  some_ : p.start < p.stop
  low : r.start ≤ p.start
  high : p.stop ≤ r.stop
  window : p.stop ≤ (p.start / w + 1) * w

/-- A range no longer than a window crosses one boundary at most, so that both parts lie within a window. -/
theorem partOf_splitAtWindow (some_ : r.start < r.stop) (short : r.stop ≤ r.start + w) {p : Extent}
    (mem : p ∈ splitAtWindow w r) : PartOf w r p := by
  have size : 0 < w := by omega
  obtain ⟨below, above, next⟩ := boundary_bounds size r
  rw [splitAtWindow_eq] at mem
  split at mem
  · next crosses =>
    rcases List.mem_cons.1 mem with rfl | mem
    · exact ⟨above, le_rfl, crosses.le, le_rfl⟩
    · rw [List.mem_singleton.1 mem]
      have at_ : boundary w r / w = r.start / w + 1 := Nat.mul_div_cancel _ size
      refine ⟨crosses, above.le, le_rfl, ?_⟩
      show r.stop ≤ (boundary w r / w + 1) * w
      rw [at_, Nat.succ_mul]
      have : (r.start / w + 1) * w = boundary w r := rfl
      omega
  · next inside =>
    rw [List.mem_singleton.1 mem]
    exact ⟨some_, le_rfl, le_rfl, Nat.le_of_not_lt inside⟩

end

/-! ## The piece list -/

theorem windowSize_long (select : BitVec 3) : 16384 ≤ windowSize select := by
  have step : 1 ≤ 4 ^ select.toNat := Nat.one_le_pow _ _ (by decide)
  unfold windowSize
  omega

theorem mem_piecesOf {w offset : Nat} {payload : List Byte} {ranges : List Extent} {p : Piece} :
    p ∈ piecesOf w offset payload ranges ↔
      ∃ r ∈ ranges, ∃ q ∈ splitAtWindow w r, pieceOf w offset payload q = p := by
  unfold piecesOf
  simp only [List.mem_map, List.mem_flatMap]
  constructor
  · rintro ⟨q, ⟨r, range, part⟩, piece⟩
    exact ⟨r, range, q, part, piece⟩
  · rintro ⟨r, range, q, part, piece⟩
    exact ⟨q, ⟨r, range, part⟩, piece⟩

theorem covers_piecesOf {w : Nat} (size : 0 < w) (offset : Nat) (payload : List Byte) (ranges : List Extent) (x : Nat) :
    (∃ p ∈ piecesOf w offset payload ranges, p.start ≤ x ∧ x < p.stop) ↔
      ∃ r ∈ ranges, r.start ≤ x ∧ x < r.stop := by
  constructor
  · rintro ⟨p, mem, inside⟩
    obtain ⟨r, range, q, part, rfl⟩ := mem_piecesOf.1 mem
    exact ⟨r, range, (covered_splitAtWindow size x).1 ⟨q, part, inside⟩⟩
  · rintro ⟨r, range, inside⟩
    obtain ⟨q, part, inside⟩ := (covered_splitAtWindow size x).2 inside
    exact ⟨_, mem_piecesOf.2 ⟨r, range, q, part, rfl⟩, inside⟩

theorem piecesOf_ascend {w : Nat} (offset : Nat) (payload : List Byte) {ranges : List Extent}
    (parts : ∀ r ∈ ranges, ∀ q ∈ splitAtWindow w r, PartOf w r q)
    (ascend : ranges.Pairwise fun a b => a.stop ≤ b.start) :
    (piecesOf w offset payload ranges).Pairwise fun a b => a.stop ≤ b.start := by
  unfold piecesOf
  rw [List.pairwise_map, List.pairwise_flatMap]
  refine ⟨fun r _ => splitAtWindow_ascends, ascend.imp_of_mem fun first second before q part q' part' => ?_⟩
  exact ((parts _ first q part).high.trans before).trans (parts _ second q' part').low

/-- Settles O22: a new range is a segment's at most, and so crosses one window boundary at most. -/
theorem piecesPartitionTheNewRanges : Obligations.PiecesPartitionTheNewRanges := by
  intro select offset payload ranges segment
  have long := windowSize_long select
  have parts : ∀ r ∈ ranges, ∀ q ∈ splitAtWindow (windowSize select) r, PartOf (windowSize select) r q :=
    fun r range q part => by
      obtain ⟨some_, short⟩ := segment r range
      exact partOf_splitAtWindow some_ (by omega) part
  refine ⟨covers_piecesOf (by omega) offset payload ranges, piecesOf_ascend offset payload parts, fun p mem => ?_⟩
  obtain ⟨r, range, q, part, rfl⟩ := mem_piecesOf.1 mem
  have within := parts r range q part
  exact ⟨within.some_, ⟨r, range, within.low, within.high⟩, Nat.div_mul_le_self .., within.window, rfl, rfl⟩

end Sys2Proof.Extents
end

section
/-! The contiguous edge across a retirement (R50, R59): the statement O23. -/

namespace Sys2Proof.Extents

open Sys2Proof Sys2Proof.Machine Sys2Proof.SegmentIntake

theorem firstCovers_iff {extents : List Extent} {start stop : Nat} : firstCovers extents start stop = true ↔
    ∃ e es, extents = e :: es ∧ e.start = start ∧ stop ≤ e.stop := by
  cases extents with
  | nil => simp [firstCovers]
  | cons e es => simp [firstCovers]

theorem contiguousEdge_cons {e : Extent} {retired : Nat} (starts : e.start = retired) (es : List Extent) :
    contiguousEdge retired (e :: es) = e.stop := if_pos starts

/-- Settles O23: the first extent alone is cut, and its end stays the contiguous edge. -/
theorem retirementKeepsTheContiguousEdge : Obligations.RetirementKeepsTheContiguousEdge := by
  intro retired stop extents ordered above covers
  obtain ⟨e, es, rfl, starts, reaches⟩ := firstCovers_iff.1 covers
  refine ⟨?_, ordered_cutFirst ordered, covered_cutFirst ordered (by omega) reaches⟩
  rw [contiguousEdge_cons starts, edge_cutFirst ordered reaches]

end Sys2Proof.Extents
end

section
/-! What the extent invariant asks of each context's record on its own, and which writes of a record keep it (R47, R48, R98,
R99). -/

namespace Sys2Proof.Extents

open Sys2Proof Sys2Proof.Machine Sys2Proof.Laws Sys2Proof.Contexts Sys2Proof.SegmentIntake

/-! ## The invariant, record by record -/

/-- `ExtentsSafe` of one record. -/
structure RecordSafe (c : Ctx) : Prop where
  limit : c.extents.length ≤ Config.extentLimit
  ordered : Ordered c.extents
  within : ∀ e ∈ c.extents, c.retired ≤ e.start ∧ e.stop ≤ c.endBound
  edge : c.retired % c.w = 0 ∨ c.totalBytes = some c.retired
  bound : c.retired ≤ c.endBound
  holds : ∀ p, (c.area p).state = .idle ↔ (c.area p).window = none
  parity : ∀ p n, (c.area p).window = some n → n % 2 = p % 2

theorem extentsSafe_iff (s : State) : ExtentsSafe s ↔ ∀ i, RecordSafe (s.ctx i) :=
  ⟨fun h i => ⟨h.limit i, h.ordered i, h.within i, h.edge i, h.bound i, h.holds i, h.parity i⟩,
    fun h => ⟨fun i => (h i).limit, fun i => (h i).ordered, fun i => (h i).within, fun i => (h i).edge,
      fun i => (h i).bound, fun i => (h i).holds, fun i => (h i).parity⟩⟩

/-- Whether an area is in use, and with which window. -/
def held (a : Area) : AreaState × Option Nat := (a.state, a.window)

/-- What of a record the extent invariant speaks of. -/
structure Tracked where
  windowSelect : BitVec 3
  total : Total
  retired : Nat
  extents : List Extent
  held0 : AreaState × Option Nat
  held1 : AreaState × Option Nat

/-- What of this record the extent invariant speaks of. -/
def tracked (c : Ctx) : Tracked := ⟨c.windowSelect, c.total, c.retired, c.extents, held c.area0, held c.area1⟩

section
variable {c d : Ctx}

theorem tracked_of_core (same : Contexts.core d = Contexts.core c) (areas : ∀ p, held (d.area p) = held (c.area p)) :
    tracked d = tracked c :=
  calc tracked d
    _ = { tracked (Contexts.core d) with held0 := held (d.area 0), held1 := held (d.area 1) } := rfl
    _ = { tracked (Contexts.core c) with held0 := held (c.area 0), held1 := held (c.area 1) } := by
      rw [same, areas 0, areas 1]
    _ = tracked c := rfl

/-- A write of an area that stays in use, or out of use, with its window. -/
theorem tracked_setArea (c : Ctx) {n : Nat} {a : Area} (same : held a = held (c.area n)) :
    tracked (c.setArea n a) = tracked c := by
  refine tracked_of_core (core_setArea c n a) fun p => ?_
  rw [area_setArea]
  split
  · next even => rw [same, area_even c even]
  · rfl

theorem held_of_tracked (same : tracked d = tracked c) (p : Nat) : held (d.area p) = held (c.area p) := by
  unfold Ctx.area
  split
  · exact congrArg Tracked.held0 same
  · exact congrArg Tracked.held1 same

/-- The invariant speaks of nothing else. -/
theorem RecordSafe.of_tracked (safe : RecordSafe c) (same : tracked d = tracked c) : RecordSafe d := by
  have extents : d.extents = c.extents := congrArg Tracked.extents same
  have retired : d.retired = c.retired := congrArg Tracked.retired same
  have size : d.w = c.w := congrArg windowSize (congrArg Tracked.windowSelect same)
  have total : d.totalBytes = c.totalBytes := by
    have total : d.total = c.total := congrArg Tracked.total same
    unfold Ctx.totalBytes
    rw [total]
  have bound : d.endBound = c.endBound := congrArg (fun t => t.getD Config.maxOffset) total
  have states : ∀ p, (d.area p).state = (c.area p).state := fun p => congrArg Prod.fst (held_of_tracked same p)
  have windows : ∀ p, (d.area p).window = (c.area p).window := fun p => congrArg Prod.snd (held_of_tracked same p)
  exact
    { limit := by rw [extents]; exact safe.limit
      ordered := by rw [extents]; exact safe.ordered
      within := by rw [extents, retired, bound]; exact safe.within
      edge := by rw [retired, size, total]; exact safe.edge
      bound := by rw [retired, bound]; exact safe.bound
      holds := fun p => by rw [states, windows]; exact safe.holds p
      parity := fun p n => by rw [windows]; exact safe.parity p n }

end

/-! ## Areas -/

/-- An area that is in use exactly when it holds a window, one of the parity of `p`. -/
structure AreaSafe (a : Area) (p : Nat) : Prop where
  holds : a.state = .idle ↔ a.window = none
  parity : ∀ n, a.window = some n → n % 2 = p % 2

theorem areaSafe_idle {a : Area} (p : Nat) (idle : a.state = .idle) (none : a.window = none) : AreaSafe a p :=
  ⟨by rw [idle, none]; exact ⟨fun _ => rfl, fun _ => rfl⟩, fun n window => by rw [none] at window; exact nomatch window⟩

theorem areaSafe_holding {a : Area} {p n : Nat} (used : a.state ≠ .idle) (window : a.window = some n)
    (even : n % 2 = p % 2) : AreaSafe a p :=
  ⟨by rw [window]; exact ⟨fun idle => absurd idle used, nofun⟩,
    fun m window' => by rw [← Option.some.inj (window.symm.trans window')]; exact even⟩

section
variable {c d : Ctx}

theorem RecordSafe.area (safe : RecordSafe c) (p : Nat) : AreaSafe (c.area p) p := ⟨safe.holds p, safe.parity p⟩

/-- New areas in a record that is safe otherwise. -/
theorem RecordSafe.withAreas (safe : RecordSafe c) (same : Contexts.core d = Contexts.core c)
    (areas : ∀ p, AreaSafe (d.area p) p) : RecordSafe d := by
  have whole : RecordSafe { c with area0 := d.area0, area1 := d.area1 } :=
    ⟨safe.limit, safe.ordered, safe.within, safe.edge, safe.bound, fun p => (areas p).holds, fun p => (areas p).parity⟩
  exact whole.of_tracked (tracked_of_core same fun _ => rfl)

theorem RecordSafe.setArea (safe : RecordSafe c) {p : Nat} {a : Area} (area : AreaSafe a p) :
    RecordSafe (c.setArea p a) := by
  refine safe.withAreas (core_setArea c p a) fun q => ?_
  rw [area_setArea]
  split
  · next even => exact ⟨area.holds, fun n window => (area.parity n window).trans even.symm⟩
  · exact safe.area q

/-- The two areas by themselves. -/
theorem areas_safe (first : AreaSafe c.area0 0) (second : AreaSafe c.area1 1) (p : Nat) : AreaSafe (c.area p) p := by
  unfold Ctx.area
  rcases Nat.mod_two_eq_zero_or_one p with even | odd
  · rw [if_pos even]
    exact ⟨first.holds, fun n window => (first.parity n window).trans even.symm⟩
  · rw [if_neg (by omega)]
    exact ⟨second.holds, fun n window => (second.parity n window).trans odd.symm⟩

/-! ## Records at OPEN, in FREE and restarted -/

/-- A record that has received nothing. -/
theorem recordSafe_of_fresh (extents : c.extents = []) (retired : c.retired = 0) (areas : ∀ p, AreaSafe (c.area p) p) :
    RecordSafe c where
  limit := by rw [extents]; exact Nat.zero_le _
  ordered := by rw [extents]; exact ordered_nil
  within := by rw [extents]; exact nofun
  edge := .inl (by rw [retired]; exact Nat.zero_mod _)
  bound := by rw [retired]; exact Nat.zero_le _
  holds p := (areas p).holds
  parity p := (areas p).parity

theorem recordSafe_free : RecordSafe Ctx.free :=
  recordSafe_of_fresh rfl rfl (areas_safe (areaSafe_idle 0 rfl rfl) (areaSafe_idle 1 rfl rfl))

theorem recordSafe_opened (m : OpenCommand) : RecordSafe (OpenCommand.record m) :=
  recordSafe_of_fresh rfl rfl
    (areas_safe (areaSafe_holding (n := 0) nofun rfl rfl) (areaSafe_holding (n := 1) nofun rfl rfl))

theorem RecordSafe.restarted (safe : RecordSafe c) : RecordSafe c.restarted := recordSafe_of_fresh rfl rfl safe.area

/-- An area restarted with a window of its parity, or with none (R100). -/
theorem areaSafe_restarted (a : Area) (verifying : Bool) {window : Option Nat} {p : Nat}
    (parity : ∀ n, window = some n → n % 2 = p % 2) : AreaSafe (a.restarted window verifying) p := by
  cases window with
  | none => exact areaSafe_idle p rfl rfl
  | some n => exact areaSafe_holding (n := n) nofun rfl (parity n rfl)

theorem restartWindow1_cases (c : Ctx) : c.restartWindow1 = none ∨ c.restartWindow1 = some 1 := by
  unfold Ctx.restartWindow1
  split
  · split
    · exact .inl rfl
    · exact .inr rfl
  · exact .inr rfl
  · exact .inr rfl

theorem RecordSafe.freshened (safe : RecordSafe c) (before : Ctx) : RecordSafe (freshened before c) := by
  have second : ∀ n, c.restartWindow1 = some n → n % 2 = 1 % 2 := fun n window => by
    rcases restartWindow1_cases c with none | one
    · rw [none] at window; exact nomatch window
    · rw [← Option.some.inj (one.symm.trans window)]
  have areas : ∀ p, AreaSafe ((SegmentIntake.freshened before c).area p) p :=
    areas_safe (areaSafe_restarted _ _ fun n window => by rw [← Option.some.inj window]) (areaSafe_restarted _ _ second)
  exact ⟨safe.limit, safe.ordered, safe.within, safe.edge, safe.bound, fun p => (areas p).holds, fun p => (areas p).parity⟩

/-! ## Areas trimmed, refilled, filled -/

theorem AreaSafe.trimmed {a : Area} {p : Nat} (safe : AreaSafe a p) (w total : Nat) : AreaSafe (a.trimmed w total) p := by
  unfold Area.trimmed
  split
  · split
    · exact areaSafe_idle p rfl rfl
    · exact safe
  · exact safe

theorem RecordSafe.areasTrimmed (safe : RecordSafe c) : RecordSafe (areasTrimmed c) :=
  safe.withAreas rfl (areas_safe ((safe.area 0).trimmed _ _) ((safe.area 1).trimmed _ _))

/-- A refilled area goes on with the next window of its parity, or has none (R110). -/
theorem RecordSafe.refilled (safe : RecordSafe c) {p : Nat} (filled : (c.area p).state = .filled) (base : Nat) :
    RecordSafe (c.setArea p (c.refilled p base)) := by
  have window : (c.area p).window ≠ none := fun none => by
    rw [(safe.holds p).2 none] at filled
    exact nomatch filled
  obtain ⟨n, window⟩ := Option.ne_none_iff_exists'.1 window
  have even := safe.parity p n window
  refine safe.setArea ?_
  unfold Ctx.refilled
  rw [window]
  dsimp only [Option.getD_some]
  split
  · exact areaSafe_holding (n := n + 2) nofun rfl (by omega)
  · exact areaSafe_idle p rfl rfl

/-! ## A window retires (R106) -/

theorem length_cutFirst (extents : List Extent) (stop : Nat) : (cutFirst extents stop).length ≤ extents.length := by
  cases extents with
  | nil => exact le_rfl
  | cons e es =>
    rw [cutFirst_cons]
    split
    · exact Nat.le_succ _
    · exact le_rfl

theorem stop_of_mem_cutFirst {extents : List Extent} {stop : Nat} {x : Extent} (mem : x ∈ cutFirst extents stop) :
    ∃ y ∈ extents, y.stop = x.stop := by
  cases extents with
  | nil => exact absurd mem List.not_mem_nil
  | cons e es =>
    rw [cutFirst_cons] at mem
    split at mem
    · exact ⟨x, List.mem_cons_of_mem _ mem, rfl⟩
    · rcases List.mem_cons.1 mem with rfl | mem
      · exact ⟨e, List.mem_cons_self, rfl⟩
      · exact ⟨x, List.mem_cons_of_mem _ mem, rfl⟩

/-- A window ends at a multiple of W, or at the recorded total. -/
theorem windowEnd_cases (c : Ctx) (n : Nat) : c.windowEnd n = (n + 1) * c.w ∨ c.totalBytes = some (c.windowEnd n) := by
  unfold Ctx.windowEnd
  cases c.totalBytes with
  | none => exact .inl (min_self _)
  | some total =>
    rcases le_total ((n + 1) * c.w) total with low | high
    · exact .inl (min_eq_left low)
    · exact .inr (congrArg some (min_eq_right high).symm)

/-- The retired edge goes to the end of the window, which the first extent reaches. -/
theorem RecordSafe.advanced (safe : RecordSafe c) {n : Nat} (used : (c.area n).state ≠ .idle)
    (covers : ∃ e es, c.extents = e :: es ∧ c.windowEnd n ≤ e.stop) : RecordSafe (advanced c n) := by
  obtain ⟨e, es, extents, reaches⟩ := covers
  have filled : AreaSafe { c.area n with state := .filled } n := by
    refine ⟨⟨nofun, fun none => ?_⟩, safe.parity n⟩
    exact absurd ((safe.holds n).2 none) used
  have areas := (safe.setArea filled).area
  have bound : (SegmentIntake.advanced c n).endBound = c.endBound :=
    congrArg (fun t => t.getD Config.maxOffset) (advanced_totalBytes c n)
  have ordered := safe.ordered
  rw [extents] at ordered
  have cut : (SegmentIntake.advanced c n).extents = cutFirst (e :: es) (c.windowEnd n) := by rw [← extents]; rfl
  exact
    { limit := (length_cutFirst ..).trans safe.limit
      ordered := by rw [cut]; exact ordered_cutFirst ordered
      within := fun x mem => by
        rw [cut] at mem
        obtain ⟨y, listed, same⟩ := stop_of_mem_cutFirst mem
        rw [bound, ← same]
        exact ⟨above_cutFirst ordered reaches mem, (safe.within y (by rw [extents]; exact listed)).2⟩
      edge := by
        rw [advanced_w, advanced_totalBytes]
        exact (windowEnd_cases c n).imp_left fun multiple =>
          (congrArg (· % c.w) multiple).trans (Nat.mul_mod_left ..)
      bound := by
        rw [bound]
        exact reaches.trans (safe.within e (by rw [extents]; exact List.mem_cons_self)).2
      holds := fun p => (areas p).holds
      parity := fun p => (areas p).parity }

/-! ## New ranges, and a total recorded (R39, R43, R63) -/

theorem stop_le_highMark {l : List Extent} (h : Ordered l) (retired : Nat) {e : Extent} (mem : e ∈ l) :
    e.stop ≤ highMark retired l := by
  cases last : l.getLast? with
  | none => rw [List.getLast?_eq_none_iff.1 last] at mem; exact absurd mem List.not_mem_nil
  | some z =>
    have high : highMark retired l = z.stop := by unfold highMark; rw [last]
    obtain ⟨init, rfl⟩ := List.getLast?_eq_some_iff.1 last
    rw [high]
    rcases List.mem_append.1 mem with early | end_
    · have behind := (List.pairwise_append.1 h.2).2.2 e early z List.mem_cons_self
      exact behind.le.trans (h.1 z (List.mem_append_right _ List.mem_cons_self)).le
    · rw [List.mem_singleton.1 end_]

/-- A total may be recorded at or above everything received. -/
theorem RecordSafe.withTotal (safe : RecordSafe c) {total : Total} {n : Nat}
    (recorded : ({ c with total := total } : Ctx).totalBytes = some n)
    (before : c.totalBytes = none ∨ c.totalBytes = some n) (retired : c.retired ≤ n)
    (reach : ∀ e ∈ c.extents, e.stop ≤ n) : RecordSafe { c with total := total } := by
  have bound : ({ c with total := total } : Ctx).endBound = n := by unfold Ctx.endBound; rw [recorded]; rfl
  exact
    { limit := safe.limit
      ordered := safe.ordered
      within := fun e mem => ⟨(safe.within e mem).1, by rw [bound]; exact reach e mem⟩
      edge := safe.edge.imp_right fun ended => by
        rw [recorded]
        rcases before with none | same
        · rw [none] at ended; exact nomatch ended
        · exact same.symm.trans ended
      bound := by rw [bound]; exact retired
      holds := safe.holds
      parity := safe.parity }

section
variable {g : DataSegment}

/-- What the extents cover after a segment's new ranges are inserted. -/
theorem covered_received (safe : RecordSafe c) (pieces : List Piece) (x : Nat) :
    Covered (c.received (c.newRangesOf g) pieces).extents x ↔ Covered c.extents x ∨
      (DataSegment.start g ≤ x ∧ x < DataSegment.stop g ∧ c.retired ≤ x ∧ ¬ Covered c.extents x) := by
  show Covered (insertExtents (c.newRangesOf g) c.extents) x ↔ _
  rw [covered_insertExtents]
  exact or_congr_right (covered_newRanges safe.ordered _ _ _)

theorem ordered_received (safe : RecordSafe c) (pieces : List Piece) :
    Ordered (c.received (c.newRangesOf g) pieces).extents :=
  ordered_insertExtents (ordered_newRanges safe.ordered _ _).1 safe.ordered

/-- The commit leaves as many extents as the limit stage counted (R55, R57). -/
theorem length_received (safe : RecordSafe c) (pieces : List Piece) :
    (c.received (c.newRangesOf g) pieces).extents.length = countAfter c.extents (c.newRangesOf g) :=
  length_eq_countAfter (ordered_newRanges safe.ordered _ _) safe.ordered fun x covered =>
    ((covered_newRanges safe.ordered _ _ x).1 covered).2.2.2

/-- A segment that passed the range stage and the limit stage is received. -/
theorem RecordSafe.received (safe : RecordSafe c) (pieces : List Piece) (inside : DataSegment.stop g ≤ c.endBound)
    (count : countAfter c.extents (c.newRangesOf g) ≤ Config.extentLimit) :
    RecordSafe (c.received (c.newRangesOf g) pieces) where
  limit := (length_received safe pieces).trans_le count
  ordered := ordered_received safe pieces
  within := by
    have old := (within_iff_covered safe.ordered).1 safe.within
    refine (within_iff_covered (ordered_received safe pieces)).2 fun x covered => ?_
    rcases (covered_received safe pieces x).1 covered with before | ⟨_, high, low, _⟩
    · exact old x before
    · exact ⟨low, high.trans_le inside⟩
  edge := safe.edge
  bound := safe.bound
  holds := safe.holds
  parity := safe.parity

/-- An end segment that the range stage lets pass ends at or above what was received before (R35): the total it implies
stands above all extents. -/
theorem RecordSafe.implied (safe : RecordSafe c) (pieces : List Piece)
    (received : RecordSafe (c.received (c.newRangesOf g) pieces)) (absent : c.total = .absent)
    (high : highMark c.retired c.extents ≤ DataSegment.stop g) :
    RecordSafe { c.received (c.newRangesOf g) pieces with total := .implied (DataSegment.stop g) } := by
  have retired : c.retired ≤ DataSegment.stop g :=
    (retired_le_highMark safe.ordered fun e mem => (safe.within e mem).1).trans high
  refine received.withTotal rfl (.inl ?_) retired fun e mem => ?_
  · show c.totalBytes = none
    unfold Ctx.totalBytes
    rw [absent]
  · have old : ∀ x, Covered c.extents x → 0 ≤ x ∧ x < DataSegment.stop g :=
      (within_iff_covered safe.ordered).1 fun y listed =>
        ⟨Nat.zero_le _, (stop_le_highMark safe.ordered c.retired listed).trans high⟩
    refine ((within_iff_covered (lo := 0) received.ordered).2 (fun x covered => ?_) e mem).2
    rcases (covered_received safe pieces x).1 covered with before | ⟨_, below, _⟩
    · exact old x before
    · exact ⟨Nat.zero_le x, below⟩

end
end

end Sys2Proof.Extents
end

section
/-! The operations that leave alone what the extent invariant speaks of (R49), and the ones that write it. -/

namespace Sys2Proof.Extents

open Sys2Proof Sys2Proof.Machine Sys2Proof.Laws Sys2Proof.Contexts Sys2Proof.SegmentIntake

/-- Between two states no record changed in what the extent invariant speaks of. -/
structure Keeps (s t : State) : Prop where
  record : ∀ j, tracked (t.ctx j) = tracked (s.ctx j)

section
variable {s t u : State} {i : Nat}

theorem keeps_of_ctx (h : ∀ j, t.ctx j = s.ctx j) : Keeps s t := ⟨fun j => by rw [h]⟩

theorem keeps_of_contexts (h : t.contexts = s.contexts) : Keeps s t := keeps_of_ctx (ctx_of_contexts h)

theorem keeps_refl (s : State) : Keeps s s := ⟨fun _ => rfl⟩

theorem Keeps.trans (h : Keeps s t) (g : Keeps t u) : Keeps s u := ⟨fun j => (g.record j).trans (h.record j)⟩

/-- What comes behind without writing the records. -/
theorem Keeps.beside (h : Keeps s t) (same : u.contexts = t.contexts) : Keeps s u := h.trans (keeps_of_contexts same)

theorem keeps_of_owedOnly (h : OwedOnly s t) : Keeps s t := ⟨fun j => by rw [h.record]; rfl⟩

theorem keeps_of_set {c : Ctx} (h : t.contexts = Table.set Ctx.free s.contexts i c)
    (same : tracked c = tracked (s.ctx i)) : Keeps s t := ⟨fun j => by
  rw [ctx_of_set h]
  split
  · next own => rw [own, same]
  · rfl⟩

theorem keeps_modCtx (s : State) (i : Nat) {f : Ctx → Ctx} (same : ∀ c, tracked (f c) = tracked c) :
    Keeps s (s.modCtx i f) := keeps_of_set (i := i) rfl (same _)

theorem Keeps.safe (h : Keeps s t) (safe : ExtentsSafe s) : ExtentsSafe t :=
  (extentsSafe_iff t).2 fun j => ((extentsSafe_iff s).1 safe j).of_tracked (h.record j)

theorem safe_of_contexts (safe : ExtentsSafe s) (h : t.contexts = s.contexts) : ExtentsSafe t :=
  (keeps_of_contexts h).safe safe

theorem record_safe (safe : ExtentsSafe s) (i : Nat) : RecordSafe (s.ctx i) := (extentsSafe_iff s).1 safe i

/-- One record written, the others as they were. -/
theorem safe_of_set (safe : ExtentsSafe s) {c : Ctx} (h : t.contexts = Table.set Ctx.free s.contexts i c)
    (written : RecordSafe c) : ExtentsSafe t := (extentsSafe_iff t).2 fun j => by
  rw [ctx_of_set h]
  split
  · exact written
  · exact record_safe safe j

theorem safe_modCtx (safe : ExtentsSafe s) {f : Ctx → Ctx} (written : RecordSafe (f (s.ctx i))) :
    ExtentsSafe (s.modCtx i f) := safe_of_set (i := i) safe rfl written

end

/-! ## Notices, groups, verify requests -/

theorem keeps_notify (s : State) (i : Nat) (k : OwedKind) (n : Notice) : Keeps s (s.notify i k n) :=
  keeps_of_owedOnly (owedOnly_notify ..)

theorem keeps_notifyMasked (s : State) (i : Nat) (h : NoticeMask → Bool) (k : OwedKind) (n : Notice) :
    Keeps s (s.notifyMasked i h k n) := keeps_of_owedOnly (owedOnly_notifyMasked ..)

theorem keeps_groupDoneTest (s : State) (g : Nat) (before : Group) : Keeps s (s.groupDoneTest g before) := by
  unfold State.groupDoneTest
  dsimp only
  split
  · exact keeps_notify ..
  · exact keeps_refl s

theorem keeps_joinGroup (s : State) (i g : Nat) (hold : Bool) : Keeps s (s.joinGroup i g hold) :=
  keeps_of_set (i := i) rfl rfl

theorem keeps_leaveGroup (s : State) (i : Nat) : Keeps s (s.leaveGroup i) := by
  unfold State.leaveGroup
  split
  · exact keeps_refl s
  · next g _ =>
    have left : Keeps s
        ((s.setGroup g ((s.group g).without i (s.ctx i).state)).modCtx i fun c => { c with group := none }) :=
      keeps_of_set (i := i) rfl rfl
    exact (left.trans (keeps_groupDoneTest _ g (s.group g))).beside rfl

theorem keeps_queueRollup (s : State) : Keeps s s.queueRollup := by
  unfold State.queueRollup
  split
  · exact keeps_refl s
  · split
    · exact keeps_refl s
    · exact keeps_of_set rfl rfl

theorem keeps_of_verifyOnly {s t : State} (h : VerifyOnly s t)
    (same : ∀ j, Contexts.core (t.ctx j) = Contexts.core (s.ctx j)) : Keeps s t := ⟨fun j => tracked_of_core (same j) fun p => by rw [h.areas j p]; rfl⟩

theorem keeps_setVerify (s : State) (i p : Nat) (v : VerifyStatus) : Keeps s (s.setVerify i p v) :=
  keeps_of_verifyOnly (verifyOnly_setVerify ..) fun j => core_setVerify s i p j v

theorem keeps_verifyOutcome (s : State) (r : VerifyRequest) (o : VerifyOutcome) : Keeps s (s.verifyOutcome r o) :=
  keeps_of_verifyOnly (verifyOnly_verifyOutcome ..) (core_verifyOutcome s r o)

theorem keeps_startVerify (l : List VerifyRequest) (s : State) : Keeps s (startVerify l s) :=
  keeps_of_verifyOnly (verifyOnly_startVerify ..) (core_startVerify l s)

theorem keeps_nextVerify (s : State) (l : List VerifyRequest) : Keeps s (s.nextVerify l) :=
  keeps_of_verifyOnly (verifyOnly_nextVerify ..) (core_nextVerify s l)

theorem keeps_foldAbort (byClose : Bool) (l : List VerifyRequest) (s : State) :
    Keeps s (l.foldl (State.abortQueued byClose) s) := by
  induction l generalizing s with
  | nil => exact keeps_refl s
  | cons r l ih => exact (keeps_verifyOutcome s { r with byClose := byClose } .aborted).trans (ih _)

theorem keeps_abortVerify (s : State) (i : Nat) (byClose : Bool) : Keeps s (s.abortVerify i byClose) := by
  unfold State.abortVerify
  split
  · exact keeps_refl s
  · next act rest _ =>
    have queued : Keeps s ((rest.filter fun r => r.context == i).foldl (State.abortQueued byClose)
        { s with verify := act :: rest.filter fun r => r.context != i }) :=
      Keeps.trans (t := { s with verify := act :: rest.filter fun r => r.context != i }) (keeps_of_contexts rfl)
        (keeps_foldAbort ..)
    have shown := queued.trans (keeps_setVerify _ i act.area .aborted)
    dsimp only
    split
    · exact queued
    · split
      · exact queued.beside rfl
      · split
        · exact shown.beside rfl
        · exact (shown.trans (keeps_verifyOutcome ..)).trans (keeps_nextVerify ..)

theorem keeps_endVerify (s : State) (r : VerifyRequest) (rest : List VerifyRequest) (o : VerifyOutcome) :
    Keeps s (s.endVerify r rest o) :=
  Keeps.trans (t := { s with verify := rest }) (keeps_of_contexts rfl)
    ((keeps_verifyOutcome ..).trans (keeps_nextVerify ..))

theorem keeps_takeReadReturn (s : State) (ret : ReadReturn) : Keeps s (s.takeReadReturn ret) := by
  unfold State.takeReadReturn State.takeRead
  dsimp only
  split
  · exact keeps_refl s
  · split
    · split
      · exact keeps_endVerify ..
      · split
        · exact keeps_endVerify ..
        · cases ret with
          | fault => exact keeps_endVerify ..
          | ok data =>
            dsimp only
            split
            · exact keeps_endVerify ..
            · exact keeps_startVerify ..
    · exact keeps_refl s

theorem keeps_appendVerify (s : State) (i p : Nat) : Keeps s (s.appendVerify i p) := by
  unfold State.appendVerify
  dsimp only
  split
  · exact (keeps_setVerify ..).trans (keeps_startVerify ..)
  · exact (keeps_setVerify s i p .queued).beside rfl

/-! ## Staging and jobs -/

theorem keeps_release (s : State) (i : Nat) (gone : Nat × StagedRecord → Bool) : Keeps s (s.release i gone) :=
  keeps_of_set (i := i) rfl rfl

theorem keeps_stage (s : State) (i offset : Nat) (payload : List Byte) (pieces : List Piece) :
    Keeps s (s.stage i offset payload pieces) := keeps_of_set (i := i) rfl rfl

theorem keeps_lowerCounts (s : State) (i : Nat) (older : Bool) : Keeps s (s.lowerCounts i older) :=
  keeps_of_set (i := i) rfl (by cases older <;> rfl)

theorem keeps_clearFence (s : State) (i : Nat) (older : Bool) : Keeps s (s.clearFence i older) := by
  unfold State.clearFence
  split
  · have off : Keeps s (s.modCtx i fun c => { c with fence := false }) := keeps_modCtx s i fun _ => rfl
    exact off.beside rfl
  · exact keeps_refl s

theorem keeps_cleaned (s : State) (r : Nat) (j : Job) : Keeps s (cleaned s r j) := by
  unfold cleaned
  refine Keeps.trans ?_ (keeps_clearFence ..)
  exact (keeps_release s j.owner fun e => e.1 == r).beside rfl

theorem keeps_grantOne (s : State) : Keeps s s.grantOne := by
  have granted : ∀ i r rec, Keeps s (s.grant i r rec) := fun i r rec => keeps_of_set (i := i) rfl rfl
  unfold State.grantOne
  split
  · split
    · exact keeps_refl s
    · split
      · exact keeps_refl s
      · split
        · exact keeps_refl s
        · exact granted ..
  · exact keeps_refl s

/-! ## Failure, completion, revival, timers -/

theorem keeps_fail (s : State) (i : Nat) (cause : FailCause) : Keeps s (s.fail i cause) := by
  by_cases running : (s.ctx i).receiving = true
  · have released : Keeps s (failReleased s i cause) :=
      (keeps_modCtx s i (f := fun c => { c with cause := some cause }) fun _ => rfl).trans (keeps_release ..)
    have entered : Keeps s (failEntered s i cause) := released.trans (keeps_modCtx _ i fun _ => rfl)
    exact entered.trans (keeps_of_owedOnly (fail_ctx running cause))
  · exact keeps_of_ctx fun _ => by unfold State.fail; rw [if_neg running]

theorem keeps_completionCheck (s : State) (i : Nat) : Keeps s (s.completionCheck i) := by
  unfold State.completionCheck
  dsimp only
  split
  · split
    · split
      · have entered : Keeps s (doneEntered s i) := keeps_modCtx s i fun _ => rfl
        exact (entered.trans (keeps_notify ..)).trans (keeps_of_owedOnly (memberDone_owedOnly _ i))
      · exact keeps_fail ..
    · exact keeps_refl s
  · exact keeps_refl s
  · exact keeps_refl s

theorem keeps_revive (s : State) (i : Nat) : Keeps s (s.revive i) := by
  have written : Keeps s (s.modCtx i revived) := keeps_modCtx s i fun _ => rfl
  rw [revive_eq]
  split
  · exact written.trans (keeps_notifyMasked ..)
  · exact written

theorem keeps_countDamaged (s : State) (i : Nat) : Keeps s (s.countDamaged i) := by
  have counted : Keeps s (s.modCtx i fun c => { c with damaged := min 255 (c.damaged + 1) }) :=
    keeps_modCtx s i fun _ => rfl
  unfold State.countDamaged
  dsimp only
  split
  · exact counted.trans (keeps_fail ..)
  · exact counted

theorem keeps_stallExpire (s : State) (i : Nat) : Keeps s (s.stallExpire i) := by
  rcases stallExpire_cases s i with eq | ⟨_, _, eq⟩ <;> rw [eq]
  · exact keeps_refl s
  · have stalled : Keeps s (s.modCtx i fun c =>
        { c with state := .stalled, timer := fullAbandon c.stallSelect c.abandonMultiplier }) :=
      keeps_modCtx s i fun _ => rfl
    exact stalled.trans (keeps_notifyMasked ..)

theorem keeps_abandonExpire (s : State) (i : Nat) : Keeps s (s.abandonExpire i) := by
  rcases abandonExpire_cases s i with eq | ⟨_, _, eq⟩ <;> rw [eq]
  · exact keeps_refl s
  · exact keeps_fail ..

theorem keeps_tick (s : State) : Keeps s s.tick := ⟨fun j => by rw [ctx_tick]; rfl⟩

theorem keeps_adjustCtx (s : State) (i : Nat) (m : AdjustCommand) : Keeps s (s.adjustCtx i m) :=
  keeps_of_set (i := i) rfl rfl

/-! ## What delivery tells the areas -/

theorem keeps_halfTest (s : State) (i n : Nat) : Keeps s (s.halfTest i n) := by
  rw [halfTest_eq]
  split
  · have set : Keeps s (halfSet s i n) := keeps_modCtx s i fun c => tracked_setArea c rfl
    exact set.trans (keeps_notifyMasked ..)
  · exact keeps_refl s

theorem keeps_cutHalfTest (s : State) (i p : Nat) : Keeps s (s.cutHalfTest i p) := by
  rcases cutHalfTest_cases s i p with ⟨eq, _⟩ | ⟨n, eq, _⟩ <;> rw [eq]
  · exact keeps_refl s
  · exact keeps_halfTest ..

theorem tracked_gains (pieces : List Piece) (l : List Nat) (c : Ctx) :
    tracked (l.foldl (fun c n => c.gain pieces n) c) = tracked c := by
  induction l generalizing c with
  | nil => rfl
  | cons n l ih => rw [List.foldl_cons, ih]; exact tracked_setArea c rfl

theorem keeps_foldHalf (i : Nat) (l : List Nat) (s : State) : Keeps s (l.foldl (fun s n => s.halfTest i n) s) := by
  induction l generalizing s with
  | nil => exact keeps_refl s
  | cons n l ih => exact (keeps_halfTest s i n).trans (ih _)

theorem keeps_takePieces (s : State) (i : Nat) (pieces : List Piece) : Keeps s (s.takePieces i pieces) := by
  have gained := keeps_modCtx s i fun c => tracked_gains pieces (windowsOf pieces) c
  unfold State.takePieces
  dsimp only
  split
  · exact gained.trans (keeps_foldHalf ..)
  · exact gained

theorem tracked_faults (l : List PieceWrite) (c : Ctx) :
    tracked (l.foldl (fun c w => c.setArea w.window { c.area w.window with faulted := true }) c) = tracked c := by
  induction l generalizing c with
  | nil => rfl
  | cons w l ih => rw [List.foldl_cons, ih]; exact tracked_setArea c rfl

theorem keeps_markFaulted (s : State) (i : Nat) (j : Job) : Keeps s (s.markFaulted i j) :=
  keeps_modCtx s i fun c => tracked_faults _ c

theorem keeps_handleFault (s : State) (i : Nat) (j : Job) : Keeps s (s.handleFault i j) := by
  unfold State.handleFault
  dsimp only
  split
  · exact keeps_refl s
  · split
    · exact keeps_markFaulted ..
    · exact (keeps_markFaulted ..).trans (keeps_fail ..)

theorem keeps_handleOk (s : State) (i : Nat) (j : Job) (pieces : List Piece) : Keeps s (s.handleOk i j pieces) := by
  unfold State.handleOk
  split
  · exact keeps_refl s
  · exact keeps_takePieces ..

theorem keeps_outcome (s : State) (r : Nat) (j : Job) : Keeps s (outcome s r j) := by
  unfold outcome
  dsimp only
  split
  · exact (keeps_lowerCounts ..).trans (keeps_handleFault ..)
  · exact (keeps_lowerCounts ..).trans (keeps_handleOk ..)

/-! ## Operations that write it -/

section
variable {s : State} (safe : ExtentsSafe s) (i : Nat)
include safe

theorem safe_enterFree : ExtentsSafe (s.enterFree i) := safe_of_set (i := i) safe rfl recordSafe_free

theorem safe_freeIfIdle : ExtentsSafe (s.freeIfIdle i) := by
  rcases freeIfIdle_cases s i with ⟨eq, _⟩ | ⟨eq, _⟩ <;> rw [eq]
  · exact safe_enterFree safe i
  · exact safe

theorem safe_trimAreas : ExtentsSafe (s.trimAreas i) := by
  have trim : ExtentsSafe (trimmed s i) :=
    safe_of_set (i := i) safe rfl (record_safe safe i).areasTrimmed
  rw [trimAreas_eq]
  exact ((keeps_cutHalfTest ..).trans (keeps_cutHalfTest ..)).safe trim

theorem safe_retireWindow {n : Nat} (due : s.retirable i n = true) : ExtentsSafe (s.retireWindow i n) := by
  simp only [State.retirable, Bool.and_eq_true, beq_iff_eq] at due
  obtain ⟨⟨⟨⟨_, ready⟩, _⟩, covers⟩, _⟩ := due
  obtain ⟨e, es, extents, _, reaches⟩ := firstCovers_iff.1 covers
  have retired : ExtentsSafe (windowRetired s i n) :=
    safe_modCtx safe ((record_safe safe i).advanced (by rw [ready]; exact nofun) ⟨e, es, extents, reaches⟩)
  rw [retireWindow_eq]
  exact (keeps_notify ..).safe retired

theorem safe_evaluateOnce : ExtentsSafe (s.evaluateOnce i) := by
  unfold State.evaluateOnce
  dsimp only
  split
  · next due =>
    have retired := safe_retireWindow safe i (Bool.and_eq_true_iff.1 due).2
    split
    · exact (keeps_completionCheck ..).safe retired
    · exact retired
  · exact safe

theorem safe_evaluateRetirement : ExtentsSafe (s.evaluateRetirement i) := safe_evaluateOnce (safe_evaluateOnce safe i) i

theorem safe_restart : ExtentsSafe (s.restart i) := by
  have released : ExtentsSafe ((s.releaseUnwritten i).markOlder i) := 
    Keeps.safe ((keeps_release s i _).beside rfl) safe
  have begun : ExtentsSafe (restartBegun s i) := safe_modCtx released (record_safe released i).restarted
  have aborted : ExtentsSafe (restartAbortedAll s i) := (keeps_abortVerify ..).safe begun
  have fresh : ExtentsSafe (restartFreshened s i) := safe_modCtx aborted ((record_safe aborted i).freshened _)
  have told : ExtentsSafe (restartTold s i) := (keeps_of_owedOnly (restartTold_owedOnly s i)).safe fresh
  exact Keeps.safe (keeps_of_ctx (restart_ctx s i)) told

theorem safe_signalStage (level : Bool) : ExtentsSafe (s.signalStage i level).1 := by
  cases shared : (s.ctx i).exclusive with
  | true =>
    have same : s.signalStage i level = (s, false) := by unfold State.signalStage; exact if_pos shared
    rw [same]
    exact safe
  | false =>
    have leveled : Keeps s (leveled s i level) := keeps_modCtx s i fun _ => rfl
    have told : Keeps s (signalTold s i level) := by
      unfold signalTold
      split
      · exact leveled.trans (keeps_notifyMasked ..)
      · exact leveled
    have kept : Keeps s (signalled s i level) := told.beside rfl
    have signalled := kept.safe safe
    rw [signalStage_eq shared]
    split
    · exact safe_restart signalled i
    · exact signalled

theorem safe_completeJob (j : Job) (r : Nat) : ExtentsSafe (s.completeJob r j) := by
  have ended : ExtentsSafe (cleaned (outcome s r j) r j) := ((keeps_outcome ..).trans (keeps_cleaned ..)).safe safe
  have evaluated : ExtentsSafe (evaluated s r j) := by
    unfold Contexts.evaluated
    split
    · exact ended
    · exact safe_evaluateRetirement ended j.owner
  rw [completeJob_eq]
  split
  · exact safe_freeIfIdle evaluated j.owner
  · exact evaluated

end

end Sys2Proof.Extents
end

section
/-! A segment keeps the extent invariant (R35 to R39, R42, R43, R63). -/

namespace Sys2Proof.Extents

open Sys2Proof Sys2Proof.Machine Sys2Proof.Laws Sys2Proof.Contexts Sys2Proof.SegmentIntake

/-! ## What the checks let pass -/

/-- A DATA segment of the right shape ends at 2^40 at the most (R30). -/
theorem stop_le_of_wellShaped {g : DataSegment} (shape : DataSegment.wellShaped g = true) :
    DataSegment.stop g ≤ Config.maxOffset := by
  simp only [DataSegment.wellShaped, Bool.and_eq_true, decide_eq_true_eq] at shape
  obtain ⟨⟨⟨⟨_, small⟩, _⟩, _⟩, _⟩ := shape
  exact small

/-- A segment that the range stage lets pass ends within the end bound (R35, R36). -/
theorem stop_le_endBound {c : Ctx} {g : DataSegment} (passed : c.rangeRefusal g = none)
    (small : DataSegment.stop g ≤ Config.maxOffset) : DataSegment.stop g ≤ c.endBound := by
  unfold Ctx.rangeRefusal at passed
  unfold Ctx.endBound Ctx.totalBytes at *
  cases isEnd : DataSegment.isEnd g with
  | false => simpa [isEnd] using passed
  | true =>
    cases total : c.total with
    | absent => exact small
    | implied n =>
      have same : DataSegment.stop g = n := by simpa [isEnd, total] using passed
      exact same.le
    | manifest n d =>
      have same : DataSegment.stop g = n := by simpa [isEnd, total] using passed
      exact same.le

/-- An end segment that the range stage lets pass with no total recorded ends at the high mark or above (R35). -/
theorem highMark_le_stop {c : Ctx} {g : DataSegment} (passed : c.rangeRefusal g = none)
    (isEnd : DataSegment.isEnd g = true) (absent : c.total = .absent) :
    highMark c.retired c.extents ≤ DataSegment.stop g := by
  unfold Ctx.rangeRefusal at passed
  simpa [isEnd, absent] using passed

/-- A manifest accepted records a first total, or the total implied before, at the high mark or above (R42). -/
theorem compareManifest_accepted {c : Ctx} {g : ManifestSegment} (accepted : c.compareManifest g = .accepted) :
    (c.totalBytes = none ∨ c.totalBytes = some g.total.toNat) ∧ highMark c.retired c.extents ≤ g.total.toNat := by
  unfold Ctx.compareManifest at accepted
  unfold Ctx.totalBytes
  cases total : c.total with
  | absent =>
    rw [total] at accepted
    exact ⟨.inl rfl, by simpa using accepted⟩
  | implied n =>
    rw [total] at accepted
    dsimp only at accepted
    split at accepted
    · exact nomatch accepted
    · next same => exact ⟨.inr (congrArg some (not_not.1 same)), by simpa using accepted⟩
  | manifest n d =>
    rw [total] at accepted
    dsimp only at accepted
    split at accepted <;> exact nomatch accepted

/-! ## The stages -/

section
variable {s : State} (safe : ExtentsSafe s) {i : Nat}
include safe

theorem safe_commit {g : DataSegment} (passed : (s.ctx i).rangeRefusal g = none)
    (small : DataSegment.stop g ≤ Config.maxOffset)
    (count : countAfter (s.ctx i).extents ((s.ctx i).newRangesOf g) ≤ Config.extentLimit) :
    ExtentsSafe (s.commit i g) := by
  have record := record_safe safe i
  have received := record.received ((s.ctx i).piecesFor g) (stop_le_endBound passed small) count
  have gathered : ExtentsSafe (gatheredWhole s i g) := by
    rw [gatheredWhole_eq]
    split
    · next asked =>
      obtain ⟨isEnd, absent⟩ : DataSegment.isEnd g = true ∧ (s.ctx i).total = .absent := by
        rw [isEnd_iff]
        simpa [implies] using asked
      have totalled : ExtentsSafe (totalled s i g) := (extentsSafe_iff _).2 fun j => by
        rw [totalled_ctx]
        split
        · exact record.implied _ received absent (highMark_le_stop passed isEnd absent)
        · exact record_safe safe j
      exact safe_trimAreas totalled i
    · exact safe_modCtx safe received
  rw [commit_eq]
  exact ((keeps_stage ..).trans (keeps_revive ..)).safe gathered

theorem safe_rangeStage {g : DataSegment} (small : DataSegment.stop g ≤ Config.maxOffset) :
    ExtentsSafe (s.rangeStage i g).state := by
  unfold State.rangeStage
  split
  · exact (keeps_fail s i .manifestConflict).safe safe
  · exact safe
  · next passed =>
    unfold State.trimStage
    dsimp only
    split
    · exact (keeps_revive s i).safe safe
    · split
      · exact safe
      · next count =>
        split
        · exact safe
        · exact safe_commit safe passed small (Nat.le_of_not_lt count)

theorem safe_manifestStage (g : ManifestSegment) : ExtentsSafe (s.manifestStage i g).state := by
  unfold State.manifestStage
  split
  · exact (keeps_revive s i).safe safe
  · next accepted =>
    obtain ⟨before, high⟩ := compareManifest_accepted accepted
    have record := record_safe safe i
    have retired := (retired_le_highMark record.ordered fun e mem => (record.within e mem).1).trans high
    have announced : ExtentsSafe (announced s i g) := safe_modCtx safe (record.withTotal rfl before retired
      fun e mem => (stop_le_highMark record.ordered _ mem).trans high)
    have revived : ExtentsSafe ((SegmentIntake.announced s i g).revive i) := (keeps_revive ..).safe announced
    have noted : ExtentsSafe (manifestNoted s i g) := by
      unfold manifestNoted
      split
      · exact safe_trimAreas revived i
      · exact revived
    show ExtentsSafe (s.recordManifest i g)
    rw [recordManifest_eq]
    exact (keeps_completionCheck ..).safe (safe_evaluateRetirement noted i)
  · exact (keeps_fail s i .manifestConflict).safe safe

theorem safe_countUnmatched (link : BitVec 2) (key : Key) : ExtentsSafe (s.countUnmatched link key) :=
  (keeps_of_ctx (countUnmatched_ctx s link key)).safe safe

theorem safe_dataStages {g : DataSegment} (small : DataSegment.stop g ≤ Config.maxOffset) :
    ExtentsSafe (s.dataStages i g).state := by
  have signalled := safe_signalStage safe i g.signal
  have running : ExtentsSafe (if DataSegment.tallyMatches g then (s.signalStage i g.signal).1.rangeStage i g
      else (s.countDamaged i).answer i .damaged).state := by
    split
    · exact safe_rangeStage signalled small
    · exact (keeps_countDamaged s i).safe safe
  unfold State.dataStages
  dsimp only
  split
  · exact running
  · exact running
  · split
    · exact Keeps.safe (s := s) (keeps_modCtx s i (f := fun c => { c with damaged := 0 }) fun _ => rfl) safe
    · exact safe
  · split
    · split
      · exact safe_rangeStage signalled small
      · exact signalled
    · exact safe
  · exact safe_countUnmatched safe ..
  · exact safe_countUnmatched safe ..

theorem safe_manifestStages (g : ManifestSegment) : ExtentsSafe (s.manifestStages i g).state := by
  have signalled := safe_signalStage safe i g.signal
  unfold State.manifestStages
  dsimp only
  split
  · exact safe_manifestStage signalled g
  · exact safe_manifestStage signalled g
  · split
    · exact safe_manifestStage signalled g
    · exact signalled
  · exact safe
  · exact safe_countUnmatched safe ..
  · exact safe_countUnmatched safe ..

theorem safe_abandonStages (g : AbandonSegment) : ExtentsSafe (s.abandonStages i g).state := by
  unfold State.abandonStages
  split
  · exact (keeps_fail s i .abandoned).safe safe
  · exact (keeps_fail s i .abandoned).safe safe
  · exact safe
  · exact safe
  · exact safe_countUnmatched safe ..
  · exact safe_countUnmatched safe ..

/-! ## A segment taken whole -/

theorem safe_takeData (g : DataSegment) : ExtentsSafe (s.takeData g).state := by
  unfold State.takeData
  split
  · exact safe
  · split
    · exact safe
    · next shape =>
      split
      · exact safe_countUnmatched safe ..
      · exact safe_dataStages safe (stop_le_of_wellShaped (by simpa using shape))

theorem safe_takeManifest (g : ManifestSegment) : ExtentsSafe (s.takeManifest g).state := by
  unfold State.takeManifest
  split
  · exact safe
  · split
    · exact safe
    · split
      · exact safe_countUnmatched safe ..
      · exact safe_manifestStages safe g

theorem safe_takeAbandon (g : AbandonSegment) : ExtentsSafe (s.takeAbandon g).state := by
  unfold State.takeAbandon
  split
  · exact safe
  · split
    · exact safe
    · split
      · exact safe_countUnmatched safe ..
      · exact safe_abandonStages safe g

theorem safe_takeSegment (seg : Segment) : ExtentsSafe (s.takeSegment seg) := by
  cases seg with
  | data g => exact safe_of_contexts (safe_takeData safe g) rfl
  | manifest g => exact safe_of_contexts (safe_takeManifest safe g) rfl
  | abandon g => exact safe_of_contexts (safe_takeAbandon safe g) rfl
  | unknownKind g => exact safe_of_contexts safe rfl

theorem safe_arrive (seg : Segment) (arrival : Arrival) : ExtentsSafe (s.arrive seg arrival) := by
  rcases arrive_cases s seg arrival with ⟨eq, _⟩ | ⟨eq, _⟩ | ⟨eq, _⟩ <;> rw [eq]
  · exact safe
  · exact safe_takeSegment safe seg
  · exact safe_of_contexts safe rfl

theorem safe_serveNext : ExtentsSafe s.serveNext := by
  rcases serveNext_cases s with eq | ⟨k, seg, _, _, eq⟩ <;> rw [eq]
  · exact safe
  · have moved : ExtentsSafe (s.setChannel k none) := safe_of_contexts safe rfl
    exact safe_takeSegment moved seg

end

end Sys2Proof.Extents
end

section
/-! Commands, the part's own reads and writes, and the idle step keep the extent invariant: the statement O13. -/

namespace Sys2Proof.Extents

open Sys2Proof Sys2Proof.Machine Sys2Proof.Laws Sys2Proof.Contexts Sys2Proof.SegmentIntake

/-- A reset frees every record (R1). -/
theorem safe_of_reset {t : State} (h : t.contexts = []) : ExtentsSafe t := (extentsSafe_iff t).2 fun j => by
  have free : t.ctx j = Ctx.free := by unfold State.ctx; rw [h]; rfl
  rw [free]
  exact recordSafe_free

section
variable {s : State} (safe : ExtentsSafe s)
include safe

/-! ## Reports of piece writes -/

theorem safe_pieceReported (r k : Nat) (j : Job) (report : Report) : ExtentsSafe (s.pieceReported r k j report) := by
  have completes : ∀ (t : State) (j' : Job), t.contexts = s.contexts →
      ExtentsSafe (if j'.complete then t.completeJob r j' else t) := by
    intro t j' same
    have before := safe_of_contexts safe same
    split
    · exact safe_completeJob before j' r
    · exact before
  unfold State.pieceReported
  cases report with
  | ok => exact completes _ _ rfl
  | fault => exact completes _ _ rfl

theorem safe_issueNextPiece : ExtentsSafe s.issueNextPiece := by
  unfold State.issueNextPiece
  dsimp only
  split
  · exact safe
  · split
    · exact safe
    · next q rest _ =>
      have issued : ExtentsSafe { s with delivery := { s.delivery with issueOrder := rest } } := safe_of_contexts safe rfl
      split
      · split
        · split
          · exact safe_of_contexts issued rfl
          · exact safe_pieceReported issued ..
        · exact issued
      · exact issued

theorem safe_takePieceReport (r k : Nat) (report : Report) : ExtentsSafe (s.takePieceReport r k report) := by
  unfold State.takePieceReport
  split
  · exact safe
  · split
    · exact safe_pieceReported safe ..
    · exact safe

/-! ## Host commands -/

theorem safe_finish (tag : BitVec 16) (code : BitVec 8) (status : CmdStatus) (i : Nat) :
    ExtentsSafe (s.finish tag code status i) := safe_of_contexts safe rfl

/-- A host command is discarded, or runs in the state its fetch leaves. -/
theorem safe_runCommand {α : Type} (cmd : Reply α) (body : α → State → State)
    (runs : ∀ u, ExtentsSafe u → ExtentsSafe (body cmd.value u)) : ExtentsSafe (s.runCommand cmd body) :=
  runCommand_induct cmd body safe (safe_of_contexts safe rfl) (runs _ (safe_of_contexts safe rfl))

theorem safe_conclude (tag : BitVec 16) (code : BitVec 8) (i : Nat) (failure : Option CmdStatus)
    (effect : State → State) (done : failure = none → ExtentsSafe (effect s)) :
    ExtentsSafe (s.conclude tag code i failure effect) :=
  conclude_induct tag code i failure effect (fun _ => safe_finish safe ..) fun passed => safe_finish (done passed) ..

/-- A host command that names a context. -/
theorem safe_contextCommand {α : Type} (cmd : Reply α) (tag : α → BitVec 16) (code : BitVec 8)
    (index : α → BitVec 16) (failure : α → Nat → State → Option CmdStatus) (effect : α → Nat → State → State)
    (done : ∀ (u : State) i, ExtentsSafe u → failure cmd.value i u = none → ExtentsSafe (effect cmd.value i u)) :
    ExtentsSafe (s.runCommand cmd fun cmd s => s.onContext (tag cmd) code (index cmd) fun i s =>
      s.conclude (tag cmd) code i (failure cmd i s) (effect cmd i)) :=
  safe_runCommand safe cmd _ fun u before =>
    onContext_induct _ _ _ _ (fun _ _ => safe_finish before ..) fun _ =>
      safe_conclude before _ _ _ _ _ (done u _ before)

theorem safe_runOpen (m : OpenCommand) : ExtentsSafe (s.runOpen m) := by
  rcases runOpen_cases s m with ⟨status, eq⟩ | ⟨i, eq, _⟩ <;> rw [eq]
  · exact safe_finish safe ..
  · exact safe_of_set safe (i := i) rfl (recordSafe_opened m)

theorem safe_closeCtx (i : Nat) : ExtentsSafe (s.closeCtx i) := by
  have released : Keeps s ((keyless s i).releaseUnwritten i) := (keeps_of_ctx (keyless_ctx s i)).trans (keeps_release ..)
  have unlinked : Keeps s (unlinked s i) := (released.trans (keeps_abortVerify ..)).trans (keeps_leaveGroup ..)
  have closing : Keeps s (closing s i) := unlinked.trans (keeps_modCtx _ i fun _ => rfl)
  rw [closeCtx_eq]
  exact safe_freeIfIdle (closing.safe safe) i

theorem safe_rejudgeCtx (i : Nat) : ExtentsSafe (s.rejudgeCtx i) := safe_of_contexts safe rfl

/-- A REFILL that passes its checks moves a FILLED area on, or gives a faulted one a new base (R109 to R111). -/
theorem safe_refillArea (i : Nat) (m : RefillCommand) (passed : firstFailure (s.refillChecks i m) = none) :
    ExtentsSafe (s.refillArea i m) := by
  unfold State.refillArea
  dsimp only
  cases faulted : (s.ctx i).faultedPath m.area.toNat with
  | true =>
    have rebased : Keeps s (s.modCtx i fun c => c.setArea m.area.toNat (c.rebased m.area.toNat m.base.toNat)) :=
      keeps_modCtx s i fun c => tracked_setArea c rfl
    rw [if_pos rfl]
    exact safe_evaluateRetirement (rebased.safe safe) i
  | false =>
    have filled : ((s.ctx i).area m.area.toNat).state = .filled := by
      have checks := (firstFailure_eq_none _).1 passed
      simpa [faulted] using checks _ (List.mem_cons_of_mem _ (List.mem_cons_of_mem _ List.mem_cons_self))
    have refilled : ExtentsSafe (s.modCtx i fun c => c.setArea m.area.toNat (c.refilled m.area.toNat m.base.toNat)) :=
      safe_modCtx safe ((record_safe safe i).refilled filled m.base.toNat)
    rw [if_neg Bool.false_ne_true]
    split
    · exact safe_evaluateRetirement (safe_rejudgeCtx refilled i) i
    · exact safe_evaluateRetirement refilled i

/-! ## A step -/

theorem safe_idle : ExtentsSafe s.idle := by
  rcases idle_cases s with eq | eq | ⟨i, eq⟩ | ⟨i, eq⟩ | eq <;> rw [eq]
  · exact safe
  · exact safe_serveNext safe
  · exact (keeps_stallExpire s i).safe safe
  · exact (keeps_abandonExpire s i).safe safe
  · exact (keeps_tick s).safe safe

theorem safe_exec {c : Instr} {t : State} (h : exec c s = .next t) : ExtentsSafe t := by
  have same : ∀ u : State, u.contexts = s.contexts → ExtentsSafe u := fun u => safe_of_contexts safe
  cases c <;> injection h with h <;> subst h
  case data seg => exact safe_arrive safe (.data seg.segment) seg.arrival
  case manifest seg => exact safe_arrive safe (.manifest seg.segment) seg.arrival
  case abandon seg => exact safe_arrive safe (.abandon seg.segment) seg.arrival
  case unknownKindSegment seg => exact safe_arrive safe (.unknownKind seg.segment) seg.arrival
  case openTransfer cmd => exact safe_runCommand safe cmd _ fun u before => safe_runOpen before cmd.value
  case query cmd =>
    exact safe_runCommand safe cmd _ fun u before => safe_of_contexts before (runQuery_contexts u cmd.value)
  case snapshotWriteIssue => exact whenLive_induct _ safe (same _ (by simp))
  case snapshotWriteReport report => exact takeReply_induct report _ safe (same _ (by simp))
  case adjust cmd =>
    exact safe_contextCommand safe cmd (fun m => m.hostTag) codeAdjust (fun m => m.index) (fun _ _ _ => none)
      (fun m i u => u.adjustCtx i m) fun u i before _ => (keeps_adjustCtx u i cmd.value).safe before
  case refill cmd =>
    exact safe_contextCommand safe cmd (fun m => m.hostTag) codeRefill (fun m => m.index)
      (fun m i u => firstFailure (u.refillChecks i m)) (fun m i u => u.refillArea i m)
      fun u i before passed => safe_refillArea before i cmd.value passed
  case restart cmd =>
    exact safe_contextCommand safe cmd (fun m => m.hostTag) codeRestart (fun m => m.index)
      (fun _ i u => firstFailure (u.ctx i).restartChecks) (fun _ i u => u.restart i)
      fun u i before _ => safe_restart before i
  case reverify cmd =>
    exact safe_contextCommand safe cmd (fun m => m.hostTag) codeReverify (fun m => m.index)
      (fun m i u => firstFailure (u.reverifyChecks i m)) (fun m i u => u.appendVerify i m.area.toNat)
      fun u i before _ => (keeps_appendVerify u i cmd.value.area.toNat).safe before
  case close cmd =>
    exact safe_contextCommand safe cmd (fun m => m.hostTag) codeClose (fun m => m.index) (fun _ _ _ => none)
      (fun _ i u => u.closeCtx i) fun u i before _ => safe_closeCtx before i
  case groupJoin cmd =>
    exact safe_contextCommand safe cmd (fun m => m.hostTag) codeGroupJoin (fun m => m.index)
      (fun m i u => firstFailure (u.joinChecks i m)) (fun m i u => u.joinGroup i m.group.toNat m.holdOnFailure)
      fun u i before _ => (keeps_joinGroup u i cmd.value.group.toNat cmd.value.holdOnFailure).safe before
  case groupLeave cmd =>
    exact safe_contextCommand safe cmd (fun m => m.hostTag) codeGroupLeave (fun m => m.index)
      (fun m i u => firstFailure [((u.ctx i).group.isSome, .wrongState)]) (fun _ i u => u.leaveGroup i)
      fun u i before _ => (keeps_leaveGroup u i).safe before
  case setAperture cmd =>
    exact safe_runCommand safe cmd _ fun u before =>
      safe_conclude before _ _ _ _ _ fun _ => safe_of_contexts before rfl
  case configure cmd => exact safe_runCommand safe cmd _ fun u before => safe_of_contexts before rfl
  case badCommand cmd => exact safe_runCommand safe cmd _ fun u before => safe_of_contexts before rfl
  case commandFetch => exact whenLive_induct _ safe (same _ (by split <;> rfl))
  case commandFetchFault report =>
    exact takeReply_induct report _ safe (same _ (commandFetchFault_contexts s report.value))
  case writeJobGrant => exact whenLive_induct _ safe ((keeps_grantOne s).safe safe)
  case pieceWriteIssue => exact whenLive_induct _ safe (safe_issueNextPiece safe)
  case pieceWriteReport record piece report => exact takeReply_induct report _ safe (safe_takePieceReport safe ..)
  case stallExpiry index => exact whenLive_induct _ safe ((keeps_stallExpire s index.toNat).safe safe)
  case abandonExpiry index => exact whenLive_induct _ safe ((keeps_abandonExpire s index.toNat).safe safe)
  case verifyReadReturn ret => exact takeReply_induct ret _ safe ((keeps_takeReadReturn s ret.value).safe safe)
  case noticeWrite => exact whenLive_induct _ safe (same _ (by simp))
  case noticeWriteReport report => exact takeReply_induct report _ safe (same _ (by simp))
  case rollup => exact whenLive_induct _ safe ((keeps_queueRollup s).safe safe)
  case quiesceRise => exact same _ rfl
  case quiesceFall => exact same _ rfl
  case quiesceRequest value => exact whenLive_induct _ safe (same _ rfl)
  case resetAcknowledge => exact whenLive_induct _ safe (same _ (by simp))
  case softReset =>
    refine whenLive_induct _ safe ?_
    rcases requestSoftReset_cases s with kept | cleared
    · exact same _ kept
    · rw [cleared]; exact safe_of_reset rfl
  case drainClear =>
    refine whenLive_induct _ safe ?_
    rcases endDrain_cases s with kept | cleared
    · rw [kept]; exact safe
    · rw [cleared]; exact safe_of_reset rfl
  case fullReset cause => exact safe_of_reset rfl
  case statusClear value => exact whenLive_induct _ safe (same _ rfl)
  case unmatchedCountRead => exact whenLive_induct _ safe (same _ rfl)
  case commandRingTailWrite value => exact whenLive_induct _ safe (same _ (by simp))
  case noticeRingConsumerWrite write => exact whenLive_induct _ safe (same _ (by split <;> simp))
  case registerWrite reg => exact whenLive_induct _ safe (same _ (by simp))
  case resetInputRelease => exact same _ (by split <;> rfl)

end

/-- Settles O13: the invariant asks of each record on its own; receipt, retirement, restart, OPEN and REFILL write what it
speaks of, and nothing else does. -/
theorem extentListsKept : Obligations.ExtentListsKept := by
  intro s t safe h
  unfold step at h
  split at h
  · injection h with h
    exact h ▸ safe_idle safe
  · next c rest _ =>
    have waiting : ExtentsSafe { s with pending := rest } := safe_of_contexts safe rfl
    exact safe_exec waiting h

end Sys2Proof.Extents
end

section
/-! Tallies add over the parts of a run of words, and move with the run's index (chapter 4, R67 to R76). -/

namespace Sys2Proof.TallyArithmetic

open Sys2Proof Sys2Proof.Machine

/-! ## Addition (R67) -/

/-- Both sums of the tally are below M (R67). -/
def Canonical (t : Tally) : Prop := t.a < M ∧ t.b < M

theorem canonical_zero : Canonical Tally.zero := ⟨by decide, by decide⟩

theorem canonical_add (x y : Tally) : Canonical (x.add y) :=
  ⟨Nat.mod_lt _ (by decide), Nat.mod_lt _ (by decide)⟩

theorem zero_add_of_canonical {t : Tally} (h : Canonical t) : Tally.zero.add t = t := by
  obtain ⟨ha, hb⟩ := h
  simp [Tally.add, Tally.zero, Nat.mod_eq_of_lt ha, Nat.mod_eq_of_lt hb]

theorem tally_add_assoc (x y z : Tally) : (x.add y).add z = x.add (y.add z) := by
  simp [Tally.add, add_assoc]

/-! ## Runs of words (R71) -/

theorem canonical_tallyWords (k : Nat) (ws : List Nat) : Canonical (tallyWords k ws) := by
  cases ws with
  | nil => exact canonical_zero
  | cons w ws => exact canonical_add _ _

theorem tallyWords_append (k : Nat) (us vs : List Nat) :
    tallyWords k (us ++ vs) = (tallyWords k us).add (tallyWords (k + us.length) vs) := by
  induction us generalizing k with
  | nil => exact (zero_add_of_canonical (canonical_tallyWords k vs)).symm
  | cons w us ih =>
    have next : k + (w :: us).length = k + 1 + us.length := by simp only [List.length_cons]; omega
    rw [List.cons_append, tallyWords, tallyWords, ih, tally_add_assoc, next]

/-! ## The words of a run of bytes (R64, R65) -/

/-- A run divided at a word: the words before the division, then those behind it; only the last word is padded. -/
theorem wordsOf_append (xs ys : List Byte) (whole : xs.length % 4 = 0) :
    wordsOf (xs ++ ys) = wordsOf xs ++ wordsOf ys ∧ (wordsOf xs).length = xs.length / 4 := by
  induction xs using wordsOf.induct with
  | case1 b0 b1 b2 b3 rest ih =>
    simp only [List.length_cons] at whole
    obtain ⟨words, count⟩ := ih (by omega)
    refine ⟨by simp [wordsOf, words], ?_⟩
    simp only [wordsOf, List.length_cons, count]
    omega
  | case2 => exact ⟨rfl, rfl⟩
  | case3 short notFour notEmpty =>
    match short with
    | [] => exact absurd rfl notEmpty
    | [_] | [_, _] | [_, _, _] => simp at whole
    | b0 :: b1 :: b2 :: b3 :: rest => exact absurd rfl (notFour b0 b1 b2 b3 rest)

theorem tallyFrom_append (k : Nat) (xs ys : List Byte) (whole : xs.length % 4 = 0) :
    tallyFrom k (xs ++ ys) = (tallyFrom k xs).add (tallyFrom (k + xs.length / 4) ys) := by
  obtain ⟨words, count⟩ := wordsOf_append xs ys whole
  rw [tallyFrom, words, tallyWords_append, count]
  rfl

/-! ## Moving a run by `d` words: each weight grows by `d`, so the second sum grows by `d` times the first -/

/-- The tally of a run with this tally, moved up by `d` word indices (R71). -/
def shift (d : Nat) (t : Tally) : Tally := ⟨t.a, (t.b + d % M * t.a) % M⟩

theorem shift_zero (d : Nat) : shift d Tally.zero = Tally.zero := by simp [shift, Tally.zero]

theorem shift_add (d : Nat) (x y : Tally) : shift d (x.add y) = (shift d x).add (shift d y) := by
  have second : (x.b + y.b) % M + d % M * ((x.a + y.a) % M) ≡
      (x.b + d % M * x.a) % M + (y.b + d % M * y.a) % M [MOD M] :=
    calc (x.b + y.b) % M + d % M * ((x.a + y.a) % M)
      _ ≡ (x.b + y.b) + d % M * (x.a + y.a) [MOD M] :=
        (Nat.mod_modEq _ M).add ((Nat.mod_modEq _ M).mul_left _)
      _ = (x.b + d % M * x.a) + (y.b + d % M * y.a) := by ring
      _ ≡ (x.b + d % M * x.a) % M + (y.b + d % M * y.a) % M [MOD M] :=
        ((Nat.mod_modEq _ M).add (Nat.mod_modEq _ M)).symm
  exact congrArg (Tally.mk _) second

theorem wordContribution_shift (d k w : Nat) :
    wordContribution (d + k) w = shift d (wordContribution k w) := by
  have second : weight (d + k) * reduced w ≡ weight k * reduced w % M + d % M * reduced w [MOD M] :=
    calc weight (d + k) * reduced w
      _ ≡ (d + k + 1) * reduced w [MOD M] := (Nat.mod_modEq _ M).mul_right _
      _ = (k + 1) * reduced w + d * reduced w := by ring
      _ ≡ weight k * reduced w + d % M * reduced w [MOD M] :=
        (((Nat.mod_modEq _ M).mul_right _).add ((Nat.mod_modEq _ M).mul_right _)).symm
      _ ≡ weight k * reduced w % M + d % M * reduced w [MOD M] :=
        (Nat.mod_modEq _ M).symm.add_right _
  exact congrArg (Tally.mk _) second

theorem tallyWords_shift (d k : Nat) (ws : List Nat) :
    tallyWords (d + k) ws = shift d (tallyWords k ws) := by
  induction ws generalizing k with
  | nil => exact (shift_zero d).symm
  | cons w ws ih => rw [tallyWords, tallyWords, shift_add, wordContribution_shift, add_assoc, ih]

/-- Settles O24: the words of a run divided at a word are those of its parts, and the tally of words adds over parts and
moves with the index, each by induction on the words. -/
theorem talliesAddAndShift : Obligations.TalliesAddAndShift :=
  ⟨fun k xs ys whole => ⟨tallyFrom_append k xs ys whole, canonical_tallyWords k (wordsOf xs)⟩,
    fun b payload => tallyWords_shift b 0 (wordsOf payload)⟩

end Sys2Proof.TallyArithmetic
end

section
/-! The writes of tables and of staging that a step is made of, and the operations on contexts, groups, areas, verify
requests and jobs as chains of them. -/

namespace Sys2Proof.Storage

open Sys2Proof Sys2Proof.Machine Sys2Proof.Laws Sys2Proof.Contexts Sys2Proof.SegmentIntake

/-- The tables of a part, and its staging. -/
structure Stores where
  lanes : Table (Option Disposition)
  channels : Table (Option Segment)
  map : Table (List MapEntry)
  contexts : Table Ctx
  groups : Table Group
  pointers : Table Nat
  apertures : Table Aperture
  jobs : Table Job
  staging : Staging

/-- What a state holds in them. -/
def stores (s : State) : Stores :=
  ⟨s.intake.lanes, s.intake.channels, s.map, s.contexts, s.groups, s.delivery.pointers, s.delivery.apertures,
    s.delivery.jobs, s.staging⟩

/-- Everything that a step can do to the tables and to staging in one write, with the guard it does it under: a segment
stands at the channel of its link (R25), a record is staged where there is room for it (R38), and the record granted is in
use (R120). -/
inductive Write (s : State) : State → Prop
  | beside {t : State} (same : stores t = stores s) : Write s t
  | disposition (a : Answer) (link : BitVec 2) (handle : BitVec 16) (kind : BitVec 8) (own : a.state = s) :
      Write s (a.returned link handle kind)
  | channel (k : Nat) (seg : Option Segment) (linked : ∀ g, seg = some g → g.link.toNat = k) :
      Write s (s.setChannel k seg)
  | bucket (b : Nat) (es : List MapEntry) : Write s (s.setBucket b es)
  | context (i : Nat) (c : Ctx) : Write s (s.setCtx i c)
  | ticked : Write s s.tick
  | group (g : Nat) (r : Group) : Write s (s.setGroup g r)
  | aperture (m : ApertureCommand) : Write s (s.replaceAperture m)
  | rejudged (pick : Nat → Bool) : Write s (s.rejudge pick)
  | staged (i offset : Nat) (payload : List Byte) (pieces : List Piece)
      (blocks : blocksFor payload.length ≤ s.staging.freeBlocks) (record : 1 ≤ s.staging.freeRecords) :
      Write s (s.stage i offset payload pieces)
  | released (i : Nat) (gone : Nat × StagedRecord → Bool) : Write s (s.release i gone)
  | granted (i r : Nat) (rec : StagedRecord) (inUse : s.staged r = some rec) : Write s (s.grant i r rec)
  | job (r : Nat) (j : Job) : Write s (s.setJob r j)
  | jobEnded (r : Nat) : Write s { s with delivery := { s.delivery with jobs := Table.erase s.delivery.jobs r } }
  | jobsOlder (i : Nat) : Write s (s.markOlder i)
  | drained : Write s s.clearDevice
  | reset (cause : ResetCause) : Write s (s.fullReset cause)

/-- One write behind another, or none. -/
def Writes : State → State → Prop := Relation.ReflTransGen Write

theorem writes_refl (s : State) : Writes s s := Relation.ReflTransGen.refl

section
variable {s t u : State}

theorem Write.writes (h : Write s t) : Writes s t := Relation.ReflTransGen.single h

theorem Writes.trans (h : Writes s t) (g : Writes t u) : Writes s u := Relation.ReflTransGen.trans h g

theorem Writes.tail (h : Writes s t) (g : Write t u) : Writes s u := Relation.ReflTransGen.tail h g

/-- What comes behind and touches no table and nothing of staging. -/
theorem Writes.beside (h : Writes s t) (same : stores u = stores t) : Writes s u := h.tail (.beside same)

theorem writes_of_stores (same : stores t = stores s) : Writes s t := (Write.beside same).writes

/-- What every single write keeps, a chain of them keeps. -/
theorem Writes.keeps {P : State → Prop} (kept : ∀ {a b}, P a → Write a b → P b) (h : Writes s t) (before : P s) :
    P t := by
  induction h with
  | refl => exact before
  | tail _ write ih => exact kept ih write

end

theorem writes_modCtx (s : State) (i : Nat) (f : Ctx → Ctx) : Writes s (s.modCtx i f) := (Write.context i _).writes

/-! ## Notices -/

theorem writes_notify (s : State) (i : Nat) (k : OwedKind) (n : Notice) : Writes s (s.notify i k n) := by
  rcases notify_cases s i k n with ⟨eq, _⟩ | ⟨eq, _⟩ <;> rw [eq]
  · exact (writes_modCtx s i fun c => { c with owed := owe k c.owed }).beside rfl
  · exact writes_of_stores rfl

theorem writes_notifyMasked (s : State) (i : Nat) (holds : NoticeMask → Bool) (k : OwedKind) (n : Notice) :
    Writes s (s.notifyMasked i holds k n) := by
  rcases notifyMasked_cases s i holds k n with ⟨eq, _⟩ | ⟨eq, _⟩ <;> rw [eq]
  · exact writes_refl s
  · exact writes_notify ..

theorem writes_queueRollup (s : State) : Writes s s.queueRollup := by
  unfold State.queueRollup
  split
  · exact writes_refl s
  · split
    · exact writes_refl s
    · next i _ =>
      have pushed : Writes s (s.push (.rollup i (s.ctx i).owed)) := writes_of_stores rfl
      exact pushed.trans (writes_modCtx ..)

/-! ## Groups (R152 to R158) -/

theorem writes_rejudgeHolds (s before : State) : Writes s (s.rejudgeHolds before) := (Write.rejudged _).writes

theorem writes_rejudgeCtx (s : State) (i : Nat) : Writes s (s.rejudgeCtx i) := (Write.rejudged _).writes

theorem writes_groupDoneTest (s : State) (g : Nat) (before : Group) : Writes s (s.groupDoneTest g before) := by
  unfold State.groupDoneTest
  dsimp only
  split
  · exact writes_notify ..
  · exact writes_refl s

theorem writes_memberDone (s : State) (i : Nat) : Writes s (s.memberDone i) := by
  unfold State.memberDone
  split
  · exact writes_refl s
  · exact (Write.group ..).writes.trans (writes_groupDoneTest ..)

theorem writes_memberFailed (s : State) (i : Nat) (cause : FailCause) : Writes s (s.memberFailed i cause) := by
  unfold State.memberFailed
  split
  · exact writes_refl s
  · next g _ =>
    have counted : Writes s (s.setGroup g { s.group g with failed := (s.group g).failed + 1 }) :=
      (Write.group ..).writes
    dsimp only
    split
    · exact (counted.trans (writes_notify ..)).trans (writes_rejudgeHolds ..)
    · exact counted.trans (writes_rejudgeHolds ..)

theorem writes_memberRecovered (s : State) (i : Nat) : Writes s (s.memberRecovered i) := by
  unfold State.memberRecovered
  split
  · exact writes_refl s
  · exact (Write.group ..).writes.trans (writes_rejudgeHolds ..)

theorem writes_joinGroup (s : State) (i g : Nat) (hold : Bool) : Writes s (s.joinGroup i g hold) :=
  ((Write.group ..).writes.trans (writes_modCtx ..)).trans (writes_rejudgeHolds ..)

theorem writes_leaveGroup (s : State) (i : Nat) : Writes s (s.leaveGroup i) := by
  unfold State.leaveGroup
  split
  · exact writes_refl s
  · next g _ =>
    have left : Writes s
        ((s.setGroup g ((s.group g).without i (s.ctx i).state)).modCtx i fun c => { c with group := none }) :=
      (Write.group ..).writes.trans (writes_modCtx ..)
    exact (left.trans (writes_groupDoneTest ..)).trans (writes_rejudgeHolds ..)

/-! ## Verify requests (R163 to R169) -/

theorem writes_verifyOutcome (s : State) (r : VerifyRequest) (o : VerifyOutcome) : Writes s (s.verifyOutcome r o) := by
  have told : ∀ t : State, Writes t (t.verifyNotice r o) := fun t => by
    unfold State.verifyNotice
    dsimp only
    split
    · rcases pushOrDrop_cases t (.verifyResult r.context r.area r.window o) with ⟨eq, _⟩ | ⟨eq, _⟩ <;> rw [eq]
      · exact writes_refl t
      · exact writes_of_stores rfl
    · exact writes_notify ..
  unfold State.verifyOutcome
  split
  · exact told s
  · exact Writes.trans (t := s.setVerify r.context r.area o.status) (writes_modCtx ..) (told _)

theorem writes_startVerify (l : List VerifyRequest) (s : State) : Writes s (startVerify l s) := by
  induction l generalizing s with
  | nil => exact writes_of_stores rfl
  | cons r l ih =>
    have active : Writes s (s.setVerify r.context r.area .active) := writes_modCtx ..
    unfold startVerify
    dsimp only
    split
    · exact active.beside rfl
    · exact (active.trans (writes_verifyOutcome ..)).trans (ih _)

theorem writes_nextVerify (s : State) (l : List VerifyRequest) : Writes s (s.nextVerify l) := by
  unfold State.nextVerify
  split
  · exact writes_of_stores rfl
  · exact writes_startVerify ..

theorem writes_foldAbort (byClose : Bool) (l : List VerifyRequest) (s : State) :
    Writes s (l.foldl (State.abortQueued byClose) s) := by
  induction l generalizing s with
  | nil => exact writes_refl s
  | cons r l ih => exact (writes_verifyOutcome s { r with byClose := byClose } .aborted).trans (ih _)

theorem writes_abortVerify (s : State) (i : Nat) (byClose : Bool) : Writes s (s.abortVerify i byClose) := by
  unfold State.abortVerify
  split
  · exact writes_refl s
  · next act rest _ =>
    have queued : Writes s ((rest.filter fun r => r.context == i).foldl (State.abortQueued byClose)
        { s with verify := act :: rest.filter fun r => r.context != i }) :=
      Writes.trans (t := { s with verify := act :: rest.filter fun r => r.context != i }) (writes_of_stores rfl)
        (writes_foldAbort ..)
    have shown := queued.trans
      (writes_modCtx _ i fun c => c.setArea act.area { c.area act.area with verify := .aborted })
    dsimp only
    split
    · exact queued
    · split
      · exact queued.beside rfl
      · split
        · exact shown.beside rfl
        · exact (shown.trans (writes_verifyOutcome ..)).trans (writes_nextVerify ..)

theorem writes_endVerify (s : State) (r : VerifyRequest) (rest : List VerifyRequest) (o : VerifyOutcome) :
    Writes s (s.endVerify r rest o) :=
  Writes.trans (t := { s with verify := rest }) (writes_of_stores rfl)
    ((writes_verifyOutcome ..).trans (writes_nextVerify ..))

theorem writes_takeReadReturn (s : State) (ret : ReadReturn) : Writes s (s.takeReadReturn ret) := by
  unfold State.takeReadReturn State.takeRead
  dsimp only
  split
  · exact writes_refl s
  · split
    · split
      · exact writes_endVerify ..
      · split
        · exact writes_endVerify ..
        · cases ret with
          | fault => exact writes_endVerify ..
          | ok data =>
            dsimp only
            split
            · exact writes_endVerify ..
            · exact writes_startVerify ..
    · exact writes_refl s

theorem writes_appendVerify (s : State) (i p : Nat) : Writes s (s.appendVerify i p) := by
  have queued : Writes s (s.setVerify i p .queued) := writes_modCtx ..
  unfold State.appendVerify
  dsimp only
  split
  · exact queued.trans (writes_startVerify ..)
  · exact queued.beside rfl

/-! ## Failure, completion, revival, timers (chapter 8) -/

theorem writes_releaseUnwritten (s : State) (i : Nat) : Writes s (s.releaseUnwritten i) := (Write.released ..).writes

theorem writes_fail (s : State) (i : Nat) (cause : FailCause) : Writes s (s.fail i cause) := by
  by_cases running : (s.ctx i).receiving = true
  · have released : Writes s (failReleased s i cause) := (writes_modCtx ..).trans (writes_releaseUnwritten ..)
    have told : Writes s (failTold s i cause) := (released.trans (writes_modCtx ..)).trans (writes_notify ..)
    rw [fail_eq running]
    exact told.trans (writes_memberFailed ..)
  · have same : s.fail i cause = s := if_neg running
    rw [same]
    exact writes_refl s

theorem writes_completionCheck (s : State) (i : Nat) : Writes s (s.completionCheck i) := by
  unfold State.completionCheck
  dsimp only
  split
  · split
    · split
      · exact ((writes_modCtx ..).trans (writes_notify ..)).trans (writes_memberDone ..)
      · exact writes_fail ..
    · exact writes_refl s
  · exact writes_refl s
  · exact writes_refl s

theorem writes_revive (s : State) (i : Nat) : Writes s (s.revive i) := by
  rw [revive_eq]
  split
  · exact (writes_modCtx ..).trans (writes_notifyMasked ..)
  · exact writes_modCtx ..

theorem writes_countDamaged (s : State) (i : Nat) : Writes s (s.countDamaged i) := by
  unfold State.countDamaged
  dsimp only
  split
  · exact (writes_modCtx ..).trans (writes_fail ..)
  · exact writes_modCtx ..

theorem writes_stallExpire (s : State) (i : Nat) : Writes s (s.stallExpire i) := by
  rcases stallExpire_cases s i with eq | ⟨_, _, eq⟩ <;> rw [eq]
  · exact writes_refl s
  · exact (writes_modCtx ..).trans (writes_notifyMasked ..)

theorem writes_abandonExpire (s : State) (i : Nat) : Writes s (s.abandonExpire i) := by
  rcases abandonExpire_cases s i with eq | ⟨_, _, eq⟩ <;> rw [eq]
  · exact writes_refl s
  · exact writes_fail ..

/-! ## Areas (chapter 6) -/

theorem writes_halfTest (s : State) (i n : Nat) : Writes s (s.halfTest i n) := by
  rw [halfTest_eq]
  split
  · exact Writes.trans (t := halfSet s i n) (writes_modCtx ..) (writes_notifyMasked ..)
  · exact writes_refl s

theorem writes_cutHalfTest (s : State) (i p : Nat) : Writes s (s.cutHalfTest i p) := by
  rcases cutHalfTest_cases s i p with ⟨eq, _⟩ | ⟨n, eq, _⟩ <;> rw [eq]
  · exact writes_refl s
  · exact writes_halfTest ..

theorem writes_trimAreas (s : State) (i : Nat) : Writes s (s.trimAreas i) := by
  have trimmed : Writes s (trimmed s i) := (writes_modCtx s i areasTrimmed).trans (writes_rejudgeCtx _ i)
  rw [trimAreas_eq]
  exact (trimmed.trans (writes_cutHalfTest ..)).trans (writes_cutHalfTest ..)

theorem writes_evaluateOnce (s : State) (i : Nat) : Writes s (s.evaluateOnce i) := by
  have retired : ∀ n, Writes s (s.retireWindow i n) := fun n => by
    rw [retireWindow_eq]
    exact Writes.trans (t := windowRetired s i n) (writes_modCtx ..) (writes_notify ..)
  unfold State.evaluateOnce
  dsimp only
  split
  · split
    · exact (retired _).trans (writes_completionCheck ..)
    · exact retired _
  · exact writes_refl s

theorem writes_evaluateRetirement (s : State) (i : Nat) : Writes s (s.evaluateRetirement i) :=
  (writes_evaluateOnce s i).trans (writes_evaluateOnce _ i)

theorem writes_foldHalf (i : Nat) (l : List Nat) (s : State) : Writes s (l.foldl (fun s n => s.halfTest i n) s) := by
  induction l generalizing s with
  | nil => exact writes_refl s
  | cons n l ih => exact (writes_halfTest s i n).trans (ih _)

theorem writes_takePieces (s : State) (i : Nat) (pieces : List Piece) : Writes s (s.takePieces i pieces) := by
  unfold State.takePieces
  dsimp only
  split
  · exact (writes_modCtx ..).trans (writes_foldHalf ..)
  · exact writes_modCtx ..

theorem writes_refillArea (s : State) (i : Nat) (m : RefillCommand) : Writes s (s.refillArea i m) := by
  unfold State.refillArea
  dsimp only
  split
  · exact (writes_modCtx ..).trans (writes_evaluateRetirement ..)
  · split
    · exact ((writes_modCtx ..).trans (writes_rejudgeCtx ..)).trans (writes_evaluateRetirement ..)
    · exact (writes_modCtx ..).trans (writes_evaluateRetirement ..)

/-! ## Restart and signal (R135, R146) -/

theorem writes_restart (s : State) (i : Nat) : Writes s (s.restart i) := by
  have begun : Writes s (restartBegun s i) :=
    ((writes_releaseUnwritten s i).tail (.jobsOlder i)).trans (writes_modCtx ..)
  have fresh : Writes s (restartFreshened s i) := (begun.trans (writes_abortVerify ..)).trans (writes_modCtx ..)
  have told : Writes s (restartTold s i) := (fresh.trans (writes_rejudgeCtx ..)).trans (writes_notifyMasked ..)
  rw [restart_eq]
  split
  · exact told.trans (writes_memberRecovered ..)
  · exact told

theorem writes_signalStage (s : State) (i : Nat) (level : Bool) : Writes s (s.signalStage i level).1 := by
  cases shared : (s.ctx i).exclusive with
  | true =>
    have same : s.signalStage i level = (s, false) := by unfold State.signalStage; exact if_pos shared
    rw [same]
    exact writes_refl s
  | false =>
    have leveled : Writes s (leveled s i level) := writes_modCtx ..
    have told : Writes s (signalTold s i level) := by
      unfold signalTold
      split
      · exact leveled.trans (writes_notifyMasked ..)
      · exact leveled
    have signalled : Writes s (signalled s i level) := told.trans (writes_rejudgeHolds ..)
    rw [signalStage_eq shared]
    split
    · exact signalled.trans (writes_restart ..)
    · exact signalled

/-! ## Delivery (chapter 7) -/

theorem writes_freeIfIdle (s : State) (i : Nat) : Writes s (s.freeIfIdle i) := by
  rcases freeIfIdle_cases s i with ⟨eq, _⟩ | ⟨eq, _⟩ <;> rw [eq]
  · exact (Write.context ..).writes
  · exact writes_refl s

theorem writes_outcome (s : State) (r : Nat) (j : Job) : Writes s (outcome s r j) := by
  have lowered : Writes s (s.lowerCounts j.owner j.older) :=
    Writes.beside (t := s.modCtx j.owner fun c =>
      if j.older then { c with older := c.older - 1 } else { c with current := c.current - 1 }) (writes_modCtx ..) rfl
  unfold outcome State.handleFault State.handleOk
  dsimp only
  split
  · split
    · exact lowered
    · have marked : Writes s ((s.lowerCounts j.owner j.older).markFaulted j.owner j) := lowered.trans (writes_modCtx ..)
      split
      · exact marked
      · exact marked.trans (writes_fail ..)
  · split
    · exact lowered
    · exact lowered.trans (writes_takePieces ..)

theorem writes_cleaned (s : State) (r : Nat) (j : Job) : Writes s (cleaned s r j) := by
  have ended := Writes.tail (t := s.releaseRecord j.owner r) (Write.released ..).writes (.jobEnded r)
  unfold cleaned State.clearFence
  dsimp only
  split
  · exact (ended.trans (writes_modCtx ..)).trans (writes_rejudgeCtx ..)
  · exact ended

theorem writes_completeJob (s : State) (r : Nat) (j : Job) : Writes s (s.completeJob r j) := by
  have ended : Writes s (cleaned (outcome s r j) r j) := (writes_outcome ..).trans (writes_cleaned ..)
  have evaluated : Writes s (evaluated s r j) := by
    unfold Contexts.evaluated
    split
    · exact ended
    · exact ended.trans (writes_evaluateRetirement ..)
  rw [completeJob_eq]
  split
  · exact evaluated.trans (writes_freeIfIdle ..)
  · exact evaluated

theorem writes_pieceReported (s : State) (r k : Nat) (j : Job) (report : Report) :
    Writes s (s.pieceReported r k j report) := by
  have completes : ∀ (t : State) (j' : Job), Writes s t → Writes s (if j'.complete then t.completeJob r j' else t) := by
    intro t j' before
    split
    · exact before.trans (writes_completeJob ..)
    · exact before
  unfold State.pieceReported
  cases report with
  | ok => exact completes _ _ (Write.job ..).writes
  | fault => exact completes _ _ ((Write.job r (j.setProgress k .fault).dropWaiting).writes.beside rfl)

theorem writes_issueNextPiece (s : State) : Writes s s.issueNextPiece := by
  unfold State.issueNextPiece
  dsimp only
  split
  · exact writes_refl s
  · split
    · exact writes_refl s
    · next q rest _ =>
      have issued : Writes s { s with delivery := { s.delivery with issueOrder := rest } } := writes_of_stores rfl
      split
      · split
        · split
          · exact issued.tail (.job ..)
          · exact issued.trans (writes_pieceReported ..)
        · exact issued
      · exact issued

theorem writes_takePieceReport (s : State) (r k : Nat) (report : Report) : Writes s (s.takePieceReport r k report) := by
  unfold State.takePieceReport
  split
  · exact writes_refl s
  · split
    · exact writes_pieceReported ..
    · exact writes_refl s

/-- The arbiter grants a record in use (R120). -/
theorem writes_grantOne (s : State) : Writes s s.grantOne := by
  unfold State.grantOne
  split
  · split
    · exact writes_refl s
    · split
      · exact writes_refl s
      · split
        · exact writes_refl s
        · next inUse => exact (Write.granted _ _ _ inUse).writes
  · exact writes_refl s

end Sys2Proof.Storage
end

section
/-! Segments, host commands, the part's own reads and writes and the idle step as chains of those writes. -/

namespace Sys2Proof.Storage

open Sys2Proof Sys2Proof.Machine Sys2Proof.Laws Sys2Proof.Contexts Sys2Proof.SegmentIntake

/-! ## The stages of a segment (chapter 2) -/

theorem writes_countUnmatched (s : State) (link : BitVec 2) (key : Key) : Writes s (s.countUnmatched link key) := by
  rw [countUnmatched_eq]
  exact writes_of_stores rfl

theorem writes_implyTotal (s : State) (i : Nat) (g : DataSegment) : Writes s (s.implyTotal i g) := by
  unfold State.implyTotal
  split
  · exact (writes_modCtx ..).trans (writes_trimAreas ..)
  · exact writes_refl s

/-- Staging that lets a segment through has the blocks and the record it needs (R38). -/
theorem room_of_stagingRefusal {s : State} {i : Nat} {g : DataSegment} {pieces : List Piece}
    (passed : s.stagingRefusal i g pieces = none) :
    blocksFor g.length.toNat ≤ s.staging.freeBlocks ∧ 1 ≤ s.staging.freeRecords := by
  unfold State.stagingRefusal at passed
  dsimp only at passed
  split at passed
  · exact nomatch passed
  · split at passed
    · exact nomatch passed
    · next room => exact ⟨by omega, by omega⟩

/-- The commit stages its record in the room the staging stage found: what goes before it takes none (R39). -/
theorem writes_commit {s : State} {i : Nat} {g : DataSegment} (whole : g.payload.length = g.length.toNat)
    (passed : s.stagingRefusal i g ((s.ctx i).piecesFor g) = none) : Writes s (s.commit i g) := by
  obtain ⟨blocks, record⟩ := room_of_stagingRefusal passed
  have room := gatheredWhole_room s i g
  have gathered : Writes s (gatheredWhole s i g) :=
    Writes.trans (t := gathered s i g) (writes_modCtx ..) (writes_implyTotal ..)
  have staged := gathered.tail (.staged i (DataSegment.start g) g.payload ((s.ctx i).piecesFor g)
    (by rw [room.freeBlocks, whole]; exact blocks) (by rw [room.freeRecords]; exact record))
  rw [commit_eq]
  exact staged.trans (writes_revive ..)

theorem writes_rangeStage (s : State) (i : Nat) {g : DataSegment} (whole : g.payload.length = g.length.toNat) :
    Writes s (s.rangeStage i g).state := by
  unfold State.rangeStage
  split
  · exact writes_fail ..
  · exact writes_refl s
  · unfold State.trimStage
    dsimp only
    split
    · exact writes_revive ..
    · split
      · exact writes_refl s
      · split
        · exact writes_refl s
        · next passed => exact writes_commit whole passed

theorem writes_manifestStage (s : State) (i : Nat) (g : ManifestSegment) : Writes s (s.manifestStage i g).state := by
  have noted : Writes s (manifestNoted s i g) := by
    have revived : Writes s ((announced s i g).revive i) :=
      Writes.trans (t := announced s i g) (writes_modCtx ..) (writes_revive ..)
    unfold manifestNoted
    split
    · exact revived.trans (writes_trimAreas ..)
    · exact revived
  unfold State.manifestStage
  split
  · exact writes_revive ..
  · show Writes s (s.recordManifest i g)
    rw [recordManifest_eq]
    exact (noted.trans (writes_evaluateRetirement ..)).trans (writes_completionCheck ..)
  · exact writes_fail ..

theorem writes_dataStages (s : State) (i : Nat) {g : DataSegment} (whole : g.payload.length = g.length.toNat) :
    Writes s (s.dataStages i g).state := by
  have signalled := writes_signalStage s i g.signal
  have running : Writes s (if DataSegment.tallyMatches g then (s.signalStage i g.signal).1.rangeStage i g
      else (s.countDamaged i).answer i .damaged).state := by
    split
    · exact signalled.trans (writes_rangeStage _ i whole)
    · exact writes_countDamaged ..
  unfold State.dataStages
  dsimp only
  split
  · exact running
  · exact running
  · split
    · exact writes_modCtx s i fun c => { c with damaged := 0 }
    · exact writes_refl s
  · split
    · split
      · exact signalled.trans (writes_rangeStage _ i whole)
      · exact signalled
    · exact writes_refl s
  · exact writes_countUnmatched ..
  · exact writes_countUnmatched ..

theorem writes_manifestStages (s : State) (i : Nat) (g : ManifestSegment) : Writes s (s.manifestStages i g).state := by
  have signalled := writes_signalStage s i g.signal
  unfold State.manifestStages
  dsimp only
  split
  · exact signalled.trans (writes_manifestStage ..)
  · exact signalled.trans (writes_manifestStage ..)
  · split
    · exact signalled.trans (writes_manifestStage ..)
    · exact signalled
  · exact writes_refl s
  · exact writes_countUnmatched ..
  · exact writes_countUnmatched ..

theorem writes_abandonStages (s : State) (i : Nat) (g : AbandonSegment) : Writes s (s.abandonStages i g).state := by
  unfold State.abandonStages
  split
  · exact writes_fail ..
  · exact writes_fail ..
  · exact writes_refl s
  · exact writes_refl s
  · exact writes_countUnmatched ..
  · exact writes_countUnmatched ..

/-! ## A segment taken whole (R25) -/

theorem writes_takeData (s : State) (g : DataSegment) : Writes s (s.takeData g).state := by
  unfold State.takeData
  split
  · exact writes_refl s
  · split
    · exact writes_refl s
    · next shape =>
      split
      · exact writes_countUnmatched ..
      · exact writes_dataStages s _ (length_payload (by simpa using shape))

theorem writes_takeManifest (s : State) (g : ManifestSegment) : Writes s (s.takeManifest g).state := by
  unfold State.takeManifest
  split
  · exact writes_refl s
  · split
    · exact writes_refl s
    · split
      · exact writes_countUnmatched ..
      · exact writes_manifestStages ..

theorem writes_takeAbandon (s : State) (g : AbandonSegment) : Writes s (s.takeAbandon g).state := by
  unfold State.takeAbandon
  split
  · exact writes_refl s
  · split
    · exact writes_refl s
    · split
      · exact writes_countUnmatched ..
      · exact writes_abandonStages ..

theorem writes_takeSegment (s : State) (seg : Segment) : Writes s (s.takeSegment seg) := by
  cases seg with
  | data g => exact (writes_takeData s g).tail (.disposition (s.takeData g) _ _ _ rfl)
  | manifest g => exact (writes_takeManifest s g).tail (.disposition (s.takeManifest g) _ _ _ rfl)
  | abandon g => exact (writes_takeAbandon s g).tail (.disposition (s.takeAbandon g) _ _ _ rfl)
  | unknownKind g => exact (Write.disposition s.takeUnknownKind _ _ _ rfl).writes

/-- A segment that must wait stands at the channel of its link (R25). -/
theorem writes_arrive (s : State) (seg : Segment) (arrival : Arrival) : Writes s (s.arrive seg arrival) := by
  rcases arrive_cases s seg arrival with ⟨eq, _⟩ | ⟨eq, _⟩ | ⟨eq, _⟩ <;> rw [eq]
  · exact writes_refl s
  · exact writes_takeSegment ..
  · exact (Write.channel _ _ fun g same => Option.some.inj same ▸ rfl).writes

theorem writes_serveNext (s : State) : Writes s s.serveNext := by
  rcases serveNext_cases s with eq | ⟨k, seg, _, _, eq⟩ <;> rw [eq]
  · exact writes_refl s
  · exact (Write.channel k none nofun).writes.trans (writes_takeSegment ..)

/-! ## Operations that touch no table and nothing of staging -/

section
variable (s : State)

theorem stores_endQuery (report : Report) : stores (s.endQuery report) = stores s := by
  unfold State.endQuery
  split <;> rfl

theorem stores_runQuery (m : QueryCommand) : stores (s.runQuery m) = stores s := by
  unfold State.runQuery
  split
  · rfl
  · split
    · rfl
    · split <;> rfl

theorem stores_issueSnapshot : stores s.issueSnapshot = stores s := by
  unfold State.issueSnapshot
  dsimp only
  split
  · split
    · rfl
    · exact stores_endQuery ..
  · rfl
  · rfl

theorem stores_takeSnapshotReport (report : Report) : stores (s.takeSnapshotReport report) = stores s := by
  unfold State.takeSnapshotReport
  split
  · exact stores_endQuery ..
  · rfl
  · rfl

theorem stores_writeNotice : stores s.writeNotice = stores s := by
  unfold State.writeNotice
  dsimp only
  split
  · rfl
  · split <;> rfl

theorem stores_takeNoticeReport (report : Report) : stores (s.takeNoticeReport report) = stores s := by
  unfold State.takeNoticeReport
  split
  · cases report <;> rfl
  · rfl
  · rfl

theorem stores_writeConsumer (value : BitVec 32) : stores (s.writeConsumer value) = stores s := by
  unfold State.writeConsumer
  dsimp only
  split <;> rfl

theorem stores_writeConsumerWithReport (value : BitVec 32) (report : Reply Report) :
    stores (s.writeConsumerWithReport value report) = stores s := by
  have taken : stores (s.takeReply report fun report s => s.takeNoticeReport report) = stores s :=
    takeReply_induct (P := fun t => stores t = stores s) report _ rfl (stores_takeNoticeReport ..)
  have written := (stores_writeConsumer _ value).trans taken
  unfold State.writeConsumerWithReport
  dsimp only
  split <;> exact written

theorem stores_writeRing (reg : RingRegisterWrite) : stores (s.writeRing reg) = stores s := by
  unfold State.writeRing
  split
  · cases reg <;> rfl
  · rfl

theorem stores_acknowledge : stores s.acknowledge = stores s := by
  unfold State.acknowledge
  split
  · split <;> rfl
  · rfl

theorem stores_writeTail (value : BitVec 32) : stores (s.writeTail value) = stores s := by
  unfold State.writeTail
  split <;> rfl

end

/-! ## Host commands (chapter 11) -/

/-- A host command is discarded, or runs in the state its fetch leaves. -/
theorem writes_runCommand {α : Type} (s : State) (cmd : Reply α) (body : α → State → State)
    (runs : ∀ u, Writes u (body cmd.value u)) : Writes s (s.runCommand cmd body) :=
  runCommand_induct cmd body (writes_refl s) (writes_of_stores rfl)
    (Writes.trans (t := s.takeFetched) (writes_of_stores rfl) (runs _))

theorem writes_conclude (s : State) (tag : BitVec 16) (code : BitVec 8) (i : Nat) (failure : Option CmdStatus)
    (effect : State → State) (done : Writes s (effect s)) : Writes s (s.conclude tag code i failure effect) :=
  conclude_induct tag code i failure effect (fun _ => writes_of_stores rfl) fun _ => done.beside rfl

/-- A host command that names a context. -/
theorem writes_contextCommand {α : Type} (s : State) (cmd : Reply α) (tag : α → BitVec 16) (code : BitVec 8)
    (index : α → BitVec 16) (failure : α → Nat → State → Option CmdStatus) (effect : α → Nat → State → State)
    (done : ∀ i u, Writes u (effect cmd.value i u)) :
    Writes s (s.runCommand cmd fun cmd s => s.onContext (tag cmd) code (index cmd) fun i s =>
      s.conclude (tag cmd) code i (failure cmd i s) (effect cmd i)) :=
  writes_runCommand s cmd _ fun u =>
    onContext_induct _ _ _ _ (fun _ _ => writes_of_stores rfl) fun _ => writes_conclude u _ _ _ _ _ (done _ u)

theorem writes_runOpen (s : State) (m : OpenCommand) : Writes s (s.runOpen m) := by
  rcases runOpen_cases s m with ⟨status, eq⟩ | ⟨i, eq, _⟩ <;> rw [eq]
  · exact writes_of_stores rfl
  · have inserted : Writes s (s.insertKey (OpenCommand.key m) i) := (Write.bucket ..).writes
    exact (inserted.tail (.context i (OpenCommand.record m))).beside rfl

theorem writes_closeCtx (s : State) (i : Nat) : Writes s (s.closeCtx i) := by
  have unkeyed : Writes s (keyless s i) := by
    unfold keyless
    split
    · exact (Write.bucket ..).writes
    · exact writes_refl s
  have unverified : Writes s (unverified s i) :=
    (unkeyed.trans (writes_releaseUnwritten ..)).trans (writes_abortVerify ..)
  have closing : Writes s (closing s i) := (unverified.trans (writes_leaveGroup ..)).trans (writes_modCtx ..)
  rw [closeCtx_eq]
  exact closing.trans (writes_freeIfIdle ..)

theorem writes_applyConfigure (s : State) (m : ConfigureCommand) : Writes s (s.applyConfigure m) := by
  refine Writes.trans ?_ (writes_rejudgeHolds _ s)
  exact writes_of_stores rfl

/-! ## The resets (R181 to R183) -/

theorem writes_endDrain (s : State) : Writes s s.endDrain := by
  rcases endDrain_cases s with kept | cleared
  · rw [kept]; exact writes_refl s
  · rw [cleared]; exact Write.drained.writes

theorem writes_requestSoftReset (s : State) : Writes s s.requestSoftReset := by
  unfold State.requestSoftReset
  split
  · exact writes_refl s
  · split
    · exact Write.drained.writes
    · exact writes_of_stores rfl

/-! ## A step -/

theorem writes_idle (s : State) : Writes s s.idle := by
  rcases idle_cases s with eq | eq | ⟨i, eq⟩ | ⟨i, eq⟩ | eq <;> rw [eq]
  · exact writes_refl s
  · exact writes_serveNext s
  · exact writes_stallExpire ..
  · exact writes_abandonExpire ..
  · exact Write.ticked.writes

theorem writes_exec {c : Instr} {s t : State} (h : exec c s = .next t) : Writes s t := by
  have self := writes_refl s
  have same : ∀ u : State, stores u = stores s → Writes s u := fun _ => writes_of_stores
  cases c <;> injection h with h <;> subst h
  case data seg => exact writes_arrive s (.data seg.segment) seg.arrival
  case manifest seg => exact writes_arrive s (.manifest seg.segment) seg.arrival
  case abandon seg => exact writes_arrive s (.abandon seg.segment) seg.arrival
  case unknownKindSegment seg => exact writes_arrive s (.unknownKind seg.segment) seg.arrival
  case openTransfer cmd => exact writes_runCommand s cmd _ fun u => writes_runOpen u cmd.value
  case query cmd => exact writes_runCommand s cmd _ fun u => writes_of_stores (stores_runQuery u cmd.value)
  case snapshotWriteIssue => exact whenLive_induct _ self (same _ (stores_issueSnapshot s))
  case snapshotWriteReport report => exact takeReply_induct report _ self (same _ (stores_takeSnapshotReport ..))
  case adjust cmd =>
    exact writes_contextCommand s cmd (fun m => m.hostTag) codeAdjust (fun m => m.index) (fun _ _ _ => none)
      (fun m i u => u.adjustCtx i m) fun i u => (writes_modCtx ..).trans (writes_rejudgeHolds ..)
  case refill cmd =>
    exact writes_contextCommand s cmd (fun m => m.hostTag) codeRefill (fun m => m.index)
      (fun m i u => firstFailure (u.refillChecks i m)) (fun m i u => u.refillArea i m) fun i u => writes_refillArea ..
  case restart cmd =>
    exact writes_contextCommand s cmd (fun m => m.hostTag) codeRestart (fun m => m.index)
      (fun _ i u => firstFailure (u.ctx i).restartChecks) (fun _ i u => u.restart i) fun i u => writes_restart ..
  case reverify cmd =>
    exact writes_contextCommand s cmd (fun m => m.hostTag) codeReverify (fun m => m.index)
      (fun m i u => firstFailure (u.reverifyChecks i m)) (fun m i u => u.appendVerify i m.area.toNat)
      fun i u => writes_appendVerify ..
  case close cmd =>
    exact writes_contextCommand s cmd (fun m => m.hostTag) codeClose (fun m => m.index) (fun _ _ _ => none)
      (fun _ i u => u.closeCtx i) fun i u => writes_closeCtx ..
  case groupJoin cmd =>
    exact writes_contextCommand s cmd (fun m => m.hostTag) codeGroupJoin (fun m => m.index)
      (fun m i u => firstFailure (u.joinChecks i m)) (fun m i u => u.joinGroup i m.group.toNat m.holdOnFailure)
      fun i u => writes_joinGroup ..
  case groupLeave cmd =>
    exact writes_contextCommand s cmd (fun m => m.hostTag) codeGroupLeave (fun m => m.index)
      (fun m i u => firstFailure [((u.ctx i).group.isSome, .wrongState)]) (fun _ i u => u.leaveGroup i)
      fun i u => writes_leaveGroup ..
  case setAperture cmd =>
    exact writes_runCommand s cmd _ fun u => writes_conclude u _ _ _ _ _ (Write.aperture cmd.value).writes
  case configure cmd =>
    exact writes_runCommand s cmd _ fun u => writes_conclude u _ _ _ _ _ (writes_applyConfigure ..)
  case badCommand cmd => exact writes_runCommand s cmd _ fun u => writes_of_stores rfl
  case commandFetch => exact whenLive_induct _ self (same _ (by split <;> rfl))
  case commandFetchFault report =>
    refine takeReply_induct report _ self (same _ ?_)
    dsimp only
    split
    · rfl
    · split
      · rfl
      · split <;> rfl
  case writeJobGrant => exact whenLive_induct _ self (writes_grantOne s)
  case pieceWriteIssue => exact whenLive_induct _ self (writes_issueNextPiece s)
  case pieceWriteReport record piece report => exact takeReply_induct report _ self (writes_takePieceReport ..)
  case stallExpiry index => exact whenLive_induct _ self (writes_stallExpire ..)
  case abandonExpiry index => exact whenLive_induct _ self (writes_abandonExpire ..)
  case verifyReadReturn ret => exact takeReply_induct ret _ self (writes_takeReadReturn ..)
  case noticeWrite => exact whenLive_induct _ self (same _ (stores_writeNotice s))
  case noticeWriteReport report => exact takeReply_induct report _ self (same _ (stores_takeNoticeReport ..))
  case rollup => exact whenLive_induct _ self (writes_queueRollup s)
  case quiesceRise => exact same _ rfl
  case quiesceFall => exact same _ rfl
  case quiesceRequest value => exact whenLive_induct _ self (same _ rfl)
  case resetAcknowledge => exact whenLive_induct _ self (same _ (stores_acknowledge s))
  case softReset => exact whenLive_induct _ self (writes_requestSoftReset s)
  case drainClear => exact whenLive_induct _ self (writes_endDrain s)
  case fullReset cause => exact (Write.reset cause).writes
  case statusClear value => exact whenLive_induct _ self (same _ rfl)
  case unmatchedCountRead => exact whenLive_induct _ self (same _ rfl)
  case commandRingTailWrite value => exact whenLive_induct _ self (same _ (stores_writeTail ..))
  case noticeRingConsumerWrite write =>
    refine whenLive_induct _ self (same _ ?_)
    split
    · exact stores_writeConsumer ..
    · exact stores_writeConsumerWithReport ..
  case registerWrite reg => exact whenLive_induct _ self (same _ (stores_writeRing ..))
  case resetInputRelease => exact same _ (by split <;> rfl)

/-- A step is a chain of such writes. -/
theorem writes_step {s t : State} (h : step s = .next t) : Writes s t := by
  unfold step at h
  split at h
  · injection h with h
    exact h ▸ writes_idle s
  · next c rest _ =>
    have waiting : Writes s { s with pending := rest } := writes_of_stores rfl
    exact waiting.trans (writes_exec h)

end Sys2Proof.Storage
end

section
/-! Every such write keeps the canonical forms, and the conservation of staging (R79, R80, R89): the statements O5 and
O7. -/

namespace Sys2Proof.Storage

open Sys2Proof Sys2Proof.Machine Sys2Proof.Laws Sys2Proof.Contexts Sys2Proof.SegmentIntake

/-! ## Canonical forms -/

section
variable {s t : State}

theorem canonical_of_stores (same : stores t = stores s) (form : CanonicalForm s) : CanonicalForm t := by
  simp only [stores, Stores.mk.injEq] at same
  obtain ⟨lanes, channels, map, contexts, groups, pointers, apertures, jobs, staging⟩ := same
  have channel : ∀ k, t.channel k = s.channel k := fun k => by unfold State.channel; rw [channels]
  constructor
  case lanes => rw [lanes]; exact form.lanes
  case channels => rw [channels]; exact form.channels
  case linked => intro k seg at_; exact form.linked k seg ((channel k).symm.trans at_)
  case map => rw [map]; exact form.map
  case contexts => rw [contexts]; exact form.contexts
  case groups => rw [groups]; exact form.groups
  case pointers => rw [pointers]; exact form.pointers
  case apertures => rw [apertures]; exact form.apertures
  case pool => rw [staging]; exact form.pool
  case jobs => rw [jobs]; exact form.jobs
  case payload => rw [staging]; exact form.payload

theorem canonical_setCtx (form : CanonicalForm s) (i : Nat) (c : Ctx) : CanonicalForm (s.setCtx i c) :=
  { form with contexts := wf_set i c form.contexts }

/-- A segment comes to the channel of its link, or leaves its channel. -/
theorem canonical_setChannel (form : CanonicalForm s) (k : Nat) (seg : Option Segment)
    (linked : ∀ g, seg = some g → g.link.toNat = k) : CanonicalForm (s.setChannel k seg) :=
  { form with
    channels := wf_set k seg form.channels
    linked := fun l g at_ => by
      rw [channel_setChannel] at at_
      split at at_
      · next here => rw [here]; exact linked g at_
      · exact form.linked l g at_ }

/-- A timer that has counted down is stopped only if it was: a listed record stays another than FREE's. -/
theorem ne_free_of_tick {c : Ctx} (listed : c ≠ Ctx.free) : { c with timer := c.timer.tick } ≠ Ctx.free := by
  intro free
  have stopped : c.timer = .stopped := by
    have ticked : c.timer.tick = .stopped := congrArg Ctx.timer free
    cases timer : c.timer with
    | stopped => rfl
    | stall r => rw [timer] at ticked; exact nomatch ticked
    | abandon r => rw [timer] at ticked; exact nomatch ticked
  refine listed ?_
  rw [← free, stopped]
  show c = { c with timer := .stopped }
  rw [← stopped]

theorem canonical_tick (form : CanonicalForm s) : CanonicalForm s.tick :=
  { form with
    contexts := ⟨sorted_map _ (fun _ => rfl) form.contexts.1, fun e mem => by
      obtain ⟨listed, before, rfl⟩ := List.mem_map.1 mem
      exact ne_free_of_tick (form.contexts.2 listed before)⟩ }

theorem sorted_rejudge (sorted : Table.sorted s.staging.pool) (pick : Nat → Bool) :
    Table.sorted (s.rejudge pick).staging.pool := sorted_map _ (fun e => by dsimp only; split <;> rfl) sorted

theorem canonical_rejudge (form : CanonicalForm s) (pick : Nat → Bool) : CanonicalForm (s.rejudge pick) :=
  { form with pool := sorted_rejudge form.pool pick }

theorem canonical_stage (form : CanonicalForm s) (i offset : Nat) (payload : List Byte) (pieces : List Piece) :
    CanonicalForm (s.stage i offset payload pieces) :=
  { form with
    contexts := wf_set i _ form.contexts
    pool := sorted_insert _ _ form.pool
    payload := memoryWf_storePayload _ payload form.payload }

theorem canonical_release (form : CanonicalForm s) (i : Nat) (gone : Nat × StagedRecord → Bool) :
    CanonicalForm (s.release i gone) :=
  { form with contexts := wf_set i _ form.contexts, pool := sorted_filter _ form.pool }

theorem canonical_grant (form : CanonicalForm s) (i r : Nat) (rec : StagedRecord) : CanonicalForm (s.grant i r rec) :=
  { form with
    contexts := wf_set i _ form.contexts
    pool := sorted_insert r _ form.pool
    pointers := wf_set _ i form.pointers
    jobs := sorted_insert r _ form.jobs }

theorem canonical_clearDevice (form : CanonicalForm s) : CanonicalForm s.clearDevice :=
  { form with
    map := wf_nil _, contexts := wf_nil _, groups := wf_nil _, pointers := wf_nil _
    pool := List.Pairwise.nil, jobs := List.Pairwise.nil }

/-- A full reset keeps what stands on the lanes and in the blocks, and lists nothing else (R94, R181). -/
theorem canonical_fullReset (form : CanonicalForm s) (cause : ResetCause) : CanonicalForm (s.fullReset cause) where
  lanes := form.lanes
  channels := wf_nil _
  linked _ _ at_ := nomatch at_
  map := wf_nil _
  contexts := wf_nil _
  groups := wf_nil _
  pointers := wf_nil _
  apertures := wf_nil _
  pool := List.Pairwise.nil
  jobs := List.Pairwise.nil
  payload := form.payload

end

/-- A table is written in its place in the order, and never with the value that an unlisted number has. -/
theorem canonical_write {s t : State} (form : CanonicalForm s) (write : Write s t) : CanonicalForm t := by
  cases write with
  | beside same => exact canonical_of_stores same form
  | disposition a link handle kind own =>
    subst own
    exact { form with lanes := wf_set link.toNat (some (Disposition.mk handle kind a.code a.edge)) form.lanes }
  | channel k seg linked => exact canonical_setChannel form k seg linked
  | bucket b es => exact { form with map := wf_set b es form.map }
  | context i c => exact canonical_setCtx form i c
  | ticked => exact canonical_tick form
  | group g r => exact { form with groups := wf_set g r form.groups }
  | aperture m => exact { form with apertures := wf_set _ _ form.apertures }
  | rejudged pick => exact canonical_rejudge form pick
  | staged i offset payload pieces => exact canonical_stage form i offset payload pieces
  | released i gone => exact canonical_release form i gone
  | granted i r rec => exact canonical_grant form i r rec
  | job r j => exact { form with jobs := sorted_insert r j form.jobs }
  | jobEnded r => exact { form with jobs := sorted_erase r form.jobs }
  | jobsOlder i => exact { form with jobs := sorted_map _ (fun e => by dsimp only; split <;> rfl) form.jobs }
  | drained => exact canonical_clearDevice form
  | reset cause => exact canonical_fullReset form cause

/-- Settles O5: a step is a chain of writes (`writes_step`), and each keeps the canonical forms. -/
theorem canonicalFormKept : Obligations.CanonicalFormKept :=
  fun _ _ form h => (writes_step h).keeps canonical_write form

/-! ## Blocks and records counted -/

section
variable {pool : Table StagedRecord} {r : Nat} {rec new : StagedRecord}

theorem blocksIn_cons (e : Nat × StagedRecord) (pool : Table StagedRecord) :
    blocksIn (e :: pool) = e.2.blocks.length + blocksIn pool := List.sum_cons

/-- A record listed under a number that was free adds itself and its blocks. -/
theorem counts_insert_free (free : Table.lookup pool r = none) :
    blocksIn (Table.insert r new pool) = new.blocks.length + blocksIn pool ∧
      (Table.insert r new pool).length = pool.length + 1 := by
  induction pool with
  | nil => exact ⟨rfl, rfl⟩
  | cons e pool ih =>
    rw [lookup_cons] at free
    split at free
    · exact nomatch free
    · next other =>
      obtain ⟨blocks, length⟩ := ih free
      unfold Table.insert
      rw [if_neg (Ne.symm other)]
      split
      · exact ⟨blocksIn_cons .., rfl⟩
      · simp only [blocksIn_cons, List.length_cons, blocks, length]
        exact ⟨by omega, trivial⟩

/-- A record in use written again with as many blocks changes no count. -/
theorem counts_insert_used (sorted : Table.sorted pool) (inUse : Table.lookup pool r = some rec)
    (same : new.blocks.length = rec.blocks.length) :
    blocksIn (Table.insert r new pool) = blocksIn pool ∧ (Table.insert r new pool).length = pool.length := by
  induction pool with
  | nil => exact nomatch inUse
  | cons e pool ih =>
    obtain ⟨above, rest⟩ := List.pairwise_cons.1 sorted
    rw [lookup_cons] at inUse
    unfold Table.insert
    split at inUse
    · next here =>
      rw [if_neg (by omega), if_pos here.symm, blocksIn_cons, blocksIn_cons, same, ← Option.some.inj inUse]
      exact ⟨rfl, rfl⟩
    · next other =>
      have high := above _ ((lookup_eq_some rest).1 inUse)
      obtain ⟨blocks, length⟩ := ih rest inUse
      rw [if_neg (by dsimp only at high; omega), if_neg (Ne.symm other)]
      simp only [blocksIn_cons, List.length_cons, blocks, length, and_self]

/-- The records picked and the records left are the records. -/
theorem counts_filter (pool : Table StagedRecord) (gone : Nat × StagedRecord → Bool) :
    blocksIn (pool.filter gone) + blocksIn (pool.filter fun e => !gone e) = blocksIn pool ∧
      (pool.filter gone).length + (pool.filter fun e => !gone e).length = pool.length := by
  induction pool with
  | nil => exact ⟨rfl, rfl⟩
  | cons e pool ih =>
    obtain ⟨blocks, length⟩ := ih
    cases picked : gone e <;>
      simp only [List.filter_cons, picked, Bool.not_true, Bool.not_false, Bool.false_eq_true, if_true, if_false,
        blocksIn_cons, List.length_cons] <;>
      omega

end

/-! ## Conservation -/

/-- Constrained mode set from a count of free blocks stands as R89 leaves it at that count. -/
theorem mode_of_constrainedAfter (mode : Bool) (free : Nat) :
    (free < 512 → constrainedAfter mode free = true) ∧ (constrainedAfter mode free = true → free < 1024) := by
  simp only [constrainedAfter_eq, decide_eq_true_eq]
  split <;> omega

section
variable {s t : State}

/-- The same records but for their states, and the same counts: the laws hold on. -/
theorem conserved_of_sameRoom (room : SameRoom s t) (sorted : Table.sorted t.staging.pool)
    (laws : StagingConserved s) : StagingConserved t where
  sorted := sorted
  blocks := by rw [room.freeBlocks, room.blocks]; exact laws.blocks
  records := by rw [room.freeRecords, room.length]; exact laws.records
  mode := by rw [room.freeBlocks, room.constrained]; exact laws.mode

theorem conserved_of_staging (same : t.staging = s.staging) (laws : StagingConserved s) : StagingConserved t :=
  conserved_of_sameRoom (sameRoom_of_same same) (by rw [same]; exact laws.sorted) laws

theorem conserved_rejudge (laws : StagingConserved s) (pick : Nat → Bool) : StagingConserved (s.rejudge pick) :=
  conserved_of_sameRoom (sameRoom_rejudge s pick) (sorted_rejudge laws.sorted pick) laws

/-- Where there is room, a record is free and as many free blocks are found as are taken off the count (R81). -/
theorem conserved_stage (laws : StagingConserved s) (i offset : Nat) (payload : List Byte) (pieces : List Piece)
    (blocks : blocksFor payload.length ≤ s.staging.freeBlocks) (record : 1 ≤ s.staging.freeRecords) :
    StagingConserved (s.stage i offset payload pieces) := by
  have allBlocks := laws.blocks
  have allRecords := laws.records
  have found : (s.staging.lowestBlocks (blocksFor payload.length)).length = blocksFor payload.length :=
    length_lowestBlocks (by omega)
  have free : Table.lookup s.staging.pool s.staging.lowestRecord = none := (lowestRecord_free (by omega)).1
  obtain ⟨blocksAfter, recordsAfter⟩ := counts_insert_free (new := stagedRecord s i offset payload pieces) free
  rw [show (stagedRecord s i offset payload pieces).blocks.length = _ from found] at blocksAfter
  constructor
  case sorted => exact sorted_insert _ _ laws.sorted
  case blocks =>
    calc s.staging.freeBlocks - blocksFor payload.length + blocksIn (s.stage i offset payload pieces).staging.pool
      _ = s.staging.freeBlocks - blocksFor payload.length + (blocksFor payload.length + blocksIn s.staging.pool) :=
        congrArg _ blocksAfter
      _ = Config.blockCount := by omega
  case records =>
    calc s.staging.freeRecords - 1 + (s.stage i offset payload pieces).staging.pool.length
      _ = s.staging.freeRecords - 1 + (s.staging.pool.length + 1) := congrArg _ recordsAfter
      _ = Config.recordCount := by omega
  case mode => exact mode_of_constrainedAfter ..

/-- Released records leave the pool, and their count and their blocks return (R91, R92). -/
theorem conserved_release (laws : StagingConserved s) (i : Nat) (gone : Nat × StagedRecord → Bool) :
    StagingConserved (s.release i gone) := by
  obtain ⟨blocks, records⟩ := counts_filter s.staging.pool fun e => e.2.owner == i && gone e
  constructor
  case sorted => exact sorted_filter _ laws.sorted
  case blocks => exact (Nat.add_assoc ..).trans ((congrArg _ blocks).trans laws.blocks)
  case records => exact (Nat.add_assoc ..).trans ((congrArg _ records).trans laws.records)
  case mode => exact mode_of_constrainedAfter ..

/-- A granted record is in use and keeps its blocks (R120). -/
theorem conserved_grant (laws : StagingConserved s) (i : Nat) {r : Nat} {rec : StagedRecord}
    (inUse : s.staged r = some rec) : StagingConserved (s.grant i r rec) := by
  obtain ⟨blocks, records⟩ := counts_insert_used (new := { rec with state := .writing }) laws.sorted inUse rfl
  constructor
  case sorted => exact sorted_insert r _ laws.sorted
  case blocks => exact (congrArg _ blocks).trans laws.blocks
  case records => exact (congrArg _ records).trans laws.records
  case mode => exact laws.mode

/-- Staging with every block and record free (R94, R95). -/
theorem conserved_of_empty {payload : List Host.Cell} (empty : t.staging = Staging.empty payload) :
    StagingConserved t := by
  constructor <;> rw [empty]
  case sorted => exact List.Pairwise.nil
  case blocks => rfl
  case records => rfl
  case mode => exact ⟨fun few => absurd few (show ¬4096 < 512 by decide), nofun⟩

end

/-- Only staging a record, a release, a grant, a re-evaluation and the resets write staging. -/
theorem conserved_write {s t : State} (laws : StagingConserved s) (write : Write s t) : StagingConserved t := by
  have same : ∀ u : State, u.staging = s.staging → StagingConserved u := fun _ eq => conserved_of_staging eq laws
  cases write with
  | beside untouched => exact same _ (congrArg Stores.staging untouched)
  | disposition a link handle kind own => subst own; exact same _ rfl
  | channel | bucket | context | ticked | group | aperture | job | jobEnded | jobsOlder => exact same _ rfl
  | rejudged pick => exact conserved_rejudge laws pick
  | staged i offset payload pieces blocks record => exact conserved_stage laws i offset payload pieces blocks record
  | released i gone => exact conserved_release laws i gone
  | granted i r rec inUse => exact conserved_grant laws i inUse
  | drained => exact conserved_of_empty rfl
  | reset cause => exact conserved_of_empty rfl

/-- Settles O7: a step is a chain of writes (`writes_step`), and each keeps the laws of staging. -/
theorem stagingConservationKept : Obligations.StagingConservationKept :=
  fun _ _ laws h => (writes_step h).keeps conserved_write laws

end Sys2Proof.Storage
end

section
/-! The checks of REFILL (R109): the statement O43. -/

namespace Sys2Proof.Landing

open Sys2Proof Sys2Proof.Machine Sys2Proof.Laws Sys2Proof.Contexts

section
variable {s : State} {m : RefillCommand}

/-- A REFILL of an open context ends as its checks and its effect say (R7, R109). -/
theorem exec_refill (fetched : Fetched s) (low : m.index.toNat < 4096) (isOpen : (s.ctx m.index.toNat).isOpen = true) :
    exec (.refill (s.reply m)) s = .next (s.takeFetched.conclude m.hostTag codeRefill m.index.toNat
      (firstFailure (s.takeFetched.refillChecks m.index.toNat m)) fun u => u.refillArea m.index.toNat m) := by
  refine congrArg Host.Outcome.next ((runCommand_fetched fetched rfl _).trans ?_)
  have resolved := resolve_open s.takeFetched m.index low isOpen
  show s.takeFetched.onContext m.hostTag codeRefill m.index _ = _
  unfold State.onContext
  rw [resolved]
  rfl

theorem faultedPath_iff (c : Ctx) (p : Nat) :
    c.faultedPath p = true ↔ c.state = .failed ∧ (c.area p).faulted = true := by
  simp [Ctx.faultedPath]

theorem otherFilledLower_iff (c : Ctx) (p : Nat) : c.otherFilledLower p = true ↔
    (c.area (p + 1)).state = .filled ∧ (c.area (p + 1)).window.getD 0 < (c.area p).window.getD 0 := by
  simp [Ctx.otherFilledLower]

theorem verifying_iff (a : Area) : a.verifying = true ↔ a.verify = .queued ∨ a.verify = .active := by
  simp [Area.verifying]

/-- REFILL's checks are R109's table. -/
theorem refillChecks_eq (s : State) (m : RefillCommand) :
    firstFailure (s.refillChecks m.index.toNat m) = s.refillRefusal m := by
  refine firstFailure_cons ?_ (firstFailure_cons ?_ (firstFailure_cons ?_ (firstFailure_cons ?_
    (firstFailure_cons ?_ (firstFailure_cons ?_ rfl)))))
  case refine_1 => rw [decide_eq_true_eq, Nat.not_lt]
  case refine_2 => simp
  case refine_3 => rw [Bool.or_eq_true, beq_iff_eq, faultedPath_iff]; tauto
  case refine_4 => rw [Bool.or_eq_true, faultedPath_iff, Bool.not_eq_true', ← Bool.not_eq_true, otherFilledLower_iff]; tauto
  case refine_5 => rw [Bool.not_eq_true', ← Bool.not_eq_true, verifying_iff]
  case refine_6 => rw [Bool.not_eq_false]; rfl

end

/-- Settles O43. -/
theorem refillChecksInOrder : Obligations.RefillChecksInOrder := by
  intro m s status fetched low isOpen refused
  have failed : firstFailure (s.takeFetched.refillChecks m.index.toNat m) = some status :=
    (refillChecks_eq s m).trans refused
  rw [exec_refill fetched low isOpen, failed]
  rfl

end Sys2Proof.Landing
end

section
/-! One evaluation of retirement, whatever the source of the total (R97, R104 to R106). -/

namespace Sys2Proof.Landing

open Sys2Proof Sys2Proof.Machine Sys2Proof.Laws Sys2Proof.Contexts Sys2Proof.SegmentIntake Sys2Proof.Extents

/-! ## The ends of windows (R97) -/

section
variable {c : Ctx} {n : Nat}

theorem endBound_of_none (h : c.totalBytes = none) : c.endBound = Config.maxOffset := by
  unfold Ctx.endBound; rw [h]; rfl

theorem endBound_of_some {total : Nat} (h : c.totalBytes = some total) : c.endBound = total := by
  unfold Ctx.endBound; rw [h]; rfl

/-- A window ends at the next multiple of W, but not beyond the end bound: 2^40 is a multiple of every W. -/
theorem windowEnd_eq_min (inside : n * c.w < c.endBound) : c.windowEnd n = min ((n + 1) * c.w) c.endBound := by
  cases h : c.totalBytes with
  | some total => rw [windowEnd_eq h, endBound_of_some h]
  | none =>
    rw [endBound_of_none h] at inside ⊢
    have divides : c.w ∣ Config.maxOffset := by
      have small := c.windowSelect.isLt
      have power : c.w = 2 ^ (16 + 2 * c.windowSelect.toNat) := by rw [pow_add, pow_mul]; rfl
      rw [power]
      exact pow_dvd_pow 2 (show _ ≤ 40 by omega)
    obtain ⟨k, whole⟩ := divides
    rw [whole, Nat.mul_comm] at inside ⊢
    have next : (n + 1) * c.w ≤ c.w * k := by
      rw [Nat.mul_comm c.w k]
      exact Nat.mul_le_mul_right _ (Nat.lt_of_mul_lt_mul_left inside)
    rw [Nat.mul_comm c.w (n + 1), min_eq_left next]
    unfold Ctx.windowEnd
    rw [h]
    exact min_self _

theorem lt_windowEnd (inside : n * c.w < c.endBound) : n * c.w < c.windowEnd n := by
  have size := w_pos c
  rw [windowEnd_eq_min inside, Nat.succ_mul]
  omega

theorem windowEnd_le_endBound (inside : n * c.w < c.endBound) : c.windowEnd n ≤ c.endBound := by
  rw [windowEnd_eq_min inside]
  exact min_le_right ..

theorem windowEnd_le_next (c : Ctx) (n : Nat) : c.windowEnd n ≤ (n + 1) * c.w := min_le_left ..

/-- A window that does not end at the end bound is full. -/
theorem windowEnd_of_unended (unended : c.windowEnd n ≠ c.endBound) : c.windowEnd n = (n + 1) * c.w :=
  (windowEnd_cases c n).resolve_right fun ended => unended (endBound_of_some ended).symm

/-- The end of a window as the statements write it. -/
theorem windowStop_eq_windowEnd (inside : n * c.w < c.endBound) : c.windowStop n = c.windowEnd n := by
  cases h : c.totalBytes with
  | some total => exact windowStop_eq h (by rwa [endBound_of_some h] at inside)
  | none =>
    unfold Ctx.windowStop Ctx.windowEnd
    rw [h]
    exact (min_self _).symm

theorem windowLength_eq_sub (inside : n * c.w < c.endBound) : c.windowLength n = c.windowEnd n - n * c.w := by
  cases h : c.totalBytes with
  | some total => exact windowLength_eq h (by rwa [endBound_of_some h] at inside)
  | none =>
    unfold Ctx.windowLength Ctx.cutsWindow Ctx.windowEnd
    rw [h, Nat.succ_mul]
    simp

end

/-! ## The window that retires (R104) -/

/-- Window `n` of context `i` retires at the next evaluation (R104, R105). -/
structure Due (s : State) (i n : Nat) : Prop where
  running : (s.ctx i).receiving = true
  start : (s.ctx i).retired = n * (s.ctx i).w
  unended : (s.ctx i).retired ≠ (s.ctx i).endBound
  ready : ((s.ctx i).area n).state = .ready
  window : ((s.ctx i).area n).window = some n
  covers : firstCovers (s.ctx i).extents (n * (s.ctx i).w) ((s.ctx i).windowEnd n) = true
  unstaged : s.pieceStaged i n = false

section
variable {s : State} {i n : Nat}

theorem due_iff (s : State) (i n : Nat) : ((s.ctx i).evaluates && s.retirable i n) = true ↔ Due s i n := by
  have conditions : ((s.ctx i).evaluates && s.retirable i n) = true ↔
      (s.ctx i).retired ≠ (s.ctx i).endBound ∧ (s.ctx i).receiving = true ∧ (s.ctx i).retired = n * (s.ctx i).w ∧
      ((s.ctx i).area n).state = .ready ∧ ((s.ctx i).area n).window = some n ∧
      firstCovers (s.ctx i).extents (n * (s.ctx i).w) ((s.ctx i).windowEnd n) = true ∧ s.pieceStaged i n = false := by
    simp [Ctx.evaluates, State.retirable, and_assoc]
  rw [conditions]
  constructor
  · rintro ⟨unended, running, start, ready, window, covers, unstaged⟩
    exact ⟨running, start, unended, ready, window, covers, unstaged⟩
  · rintro ⟨running, start, unended, ready, window, covers, unstaged⟩
    exact ⟨unended, running, start, ready, window, covers, unstaged⟩

/-- The window due is the one at the retired edge. -/
theorem Due.edgeWindow (h : Due s i n) : (s.ctx i).retired / (s.ctx i).w = n := by
  rw [h.start, Nat.mul_div_cancel _ (w_pos _)]

/-! ## One evaluation (R105) -/

/-- A completion check has a manifest's total reached, or does nothing (R22). -/
theorem completionCheck_same_or_reached (s : State) (i : Nat) : s.completionCheck i = s ∨
    ∃ total d, (s.ctx i).total = .manifest total d ∧ (s.ctx i).receiving = true ∧ (s.ctx i).retired = total := by
  cases total : (s.ctx i).total with
  | manifest t d =>
    by_cases reached : (s.ctx i).retired = t
    · cases running : (s.ctx i).receiving with
      | false => exact .inl (completionCheck_of_ended running)
      | true => exact .inr ⟨t, d, rfl, rfl, reached⟩
    · exact .inl (completionCheck_of_short total reached)
  | absent => exact .inl (by unfold State.completionCheck; simp only [total])
  | implied t => exact .inl (by unfold State.completionCheck; simp only [total])

/-- A retired edge that is not at a recorded total gives the completion check nothing to do (R22). -/
theorem completionCheck_of_unreached (h : (s.ctx i).totalBytes ≠ some (s.ctx i).retired) : s.completionCheck i = s := by
  refine (completionCheck_same_or_reached s i).resolve_right ?_
  rintro ⟨total, d, recorded, _, reached⟩
  refine h ?_
  unfold Ctx.totalBytes
  rw [recorded, reached]

/-- What a completion check keeps of the record. -/
theorem completionCheck_keeps (s : State) (i : Nat) : ∃ state timer cause staged blocks owed,
    (s.completionCheck i).ctx i = { s.ctx i with
      state := state, timer := timer, cause := cause, staged := staged, blocksHeld := blocks, owed := owed } := by
  rcases completionCheck_same_or_reached s i with same | ⟨total, d, recorded, running, _⟩
  · rw [same]; exact ⟨_, _, _, _, _, _, rfl⟩
  · exact completionCheck_record recorded running

/-- A completion check tells of no window. -/
theorem completionCheck_quiet (s : State) (i : Nat) : Tells isEnding s (s.completionCheck i) := by
  rcases completionCheck_same_or_reached s i with same | ⟨total, d, recorded, running, _⟩
  · rw [same]; exact tells_of_same rfl fun _ => rfl
  · exact completionCheck_tells recorded running

theorem evaluateOnce_due (h : Due s i n) : s.evaluateOnce i = (s.retireWindow i n).completionCheck i := by
  unfold State.evaluateOnce
  dsimp only
  rw [h.edgeWindow, if_pos ((due_iff s i n).2 h)]
  split
  · rfl
  · next short =>
    exact (completionCheck_of_unreached fun reached => short (by rw [reached]; exact beq_self_eq_true _)).symm

theorem evaluateOnce_idle (h : ∀ n, ¬Due s i n) : s.evaluateOnce i = s := by
  unfold State.evaluateOnce
  dsimp only
  rw [if_neg fun evaluated => h _ ((due_iff s i _).1 evaluated)]

theorem retireWindow_retired (s : State) (i n : Nat) :
    ((s.retireWindow i n).ctx i).retired = (s.ctx i).windowEnd n := by
  rw [retireWindow_record]; rfl

theorem endBound_congr {c d : Ctx} (h : d.total = c.total) : d.endBound = c.endBound := by
  unfold Ctx.endBound Ctx.totalBytes; rw [h]

theorem retireWindow_endBound (s : State) (i n : Nat) : ((s.retireWindow i n).ctx i).endBound = (s.ctx i).endBound :=
  endBound_congr (by rw [retireWindow_record]; exact advanced_total ..)

theorem retireWindow_w (s : State) (i n : Nat) : ((s.retireWindow i n).ctx i).w = (s.ctx i).w := by
  rw [retireWindow_record]; exact advanced_w ..

/-! ## The evaluations of one event (R105) -/

/-- How an evaluation of retirement and the one that follows its retirement can end: with no window retired, with one,
or with that and the one behind it. -/
inductive EvaluationEnds (s t : State) (i : Nat) : Prop
  | idle (still : ∀ n, ¬Due s i n) (ends : t = s)
  | once (n : Nat) (due : Due s i n)
      (stops : (s.ctx i).windowEnd n = (s.ctx i).endBound ∨ ¬Due (s.retireWindow i n) i (n + 1))
      (ends : t = (s.retireWindow i n).completionCheck i)
  | twice (n : Nat) (due : Due s i n) (next : Due (s.retireWindow i n) i (n + 1))
      (ends : t = ((s.retireWindow i n).retireWindow i (n + 1)).completionCheck i)

theorem evaluateRetirement_ends (s : State) (i : Nat) : EvaluationEnds s (s.evaluateRetirement i) i := by
  unfold State.evaluateRetirement
  by_cases first : ∃ n, Due s i n
  · obtain ⟨n, due⟩ := first
    have retired := retireWindow_retired s i n
    have bound := retireWindow_endBound s i n
    rw [evaluateOnce_due due]
    by_cases reached : (s.ctx i).windowEnd n = (s.ctx i).endBound
    · refine .once n due (.inl reached) (evaluateOnce_idle fun m again => again.unended ?_)
      obtain ⟨_, _, _, _, _, _, record⟩ := completionCheck_keeps (s.retireWindow i n) i
      rw [record]
      exact (retired.trans reached).trans bound.symm
    · have still : (s.retireWindow i n).completionCheck i = s.retireWindow i n :=
        completionCheck_of_unreached fun total => by
          rw [retired] at total
          exact reached ((endBound_of_some total).symm.trans bound)
      by_cases next : Due (s.retireWindow i n) i (n + 1)
      · exact .twice n due next (by rw [still, evaluateOnce_due next])
      · have idle : ∀ m, ¬Due (s.retireWindow i n) i m := fun m again => by
          have place := again.edgeWindow
          rw [retired, windowEnd_of_unended reached, retireWindow_w, Nat.mul_div_cancel _ (w_pos _)] at place
          exact next (place ▸ again)
        exact .once n due (.inr next) (by rw [still, evaluateOnce_idle idle])
  · have still : ∀ n, ¬Due s i n := fun n due => first ⟨n, due⟩
    rw [evaluateOnce_idle still]
    exact .idle still (evaluateOnce_idle still)

end

end Sys2Proof.Landing
end

section
/-! The windows retired by an evaluation (R106), whatever the source of the total. -/

namespace Sys2Proof.Landing

open Sys2Proof Sys2Proof.Machine Sys2Proof.Laws Sys2Proof.Contexts Sys2Proof.SegmentIntake Sys2Proof.Extents

/-- The retired edge goes up to a window's end, or down to a total that it stands above, where no run leads. -/
theorem windowEnd_moves {c : Ctx} {n : Nat} (unended : n * c.w ≠ c.endBound) :
    n * c.w < c.windowEnd n ∨ (c.endBound < n * c.w ∧ c.windowEnd n = c.endBound) := by
  rcases Nat.lt_or_gt_of_ne unended with inside | beyond
  · exact .inl (lt_windowEnd inside)
  · rcases windowEnd_cases c n with full | ended
    · have size := w_pos c
      rw [full, Nat.succ_mul]
      omega
    · exact .inr ⟨beyond, (endBound_of_some ended).symm⟩

/-- Between two states the windows `ms` of context `i` retired, in order, and nothing else happened (R106). -/
structure Retired (v r : State) (i : Nat) (ms : List Nat) : Prop where
  record : r.ctx i =
    { v.ctx i with
      retired := (r.ctx i).retired, extents := (r.ctx i).extents, area0 := (r.ctx i).area0, area1 := (r.ctx i).area1
      owed := (r.ctx i).owed }
  others : ∀ j, j ≠ i → r.ctx j = v.ctx j
  rest : RecordsOnly v r
  ready : ∀ m ∈ ms, ((v.ctx i).area m).state = .ready ∧ ((v.ctx i).area m).window = some m
  areaFilled : ∀ p m, m ∈ ms → m % 2 = p % 2 → (r.ctx i).area p = { (v.ctx i).area p with state := .filled }
  areaKept : ∀ p, (∀ m ∈ ms, m % 2 ≠ p % 2) → (r.ctx i).area p = (v.ctx i).area p
  high : ∀ m ∈ ms, (v.ctx i).retired ≤ m * (v.ctx i).w
  moved : (ms = [] ∧ (r.ctx i).retired = (v.ctx i).retired) ∨ (v.ctx i).retired < (r.ctx i).retired ∨
    ((v.ctx i).endBound < (v.ctx i).retired ∧ (r.ctx i).retired = (v.ctx i).endBound)
  bounded : (v.ctx i).retired ≤ (v.ctx i).endBound → (r.ctx i).retired ≤ (v.ctx i).endBound ∧
    ∀ m, m ∈ ms ↔ (v.ctx i).retired ≤ m * (v.ctx i).w ∧ m * (v.ctx i).w < (r.ctx i).retired
  safe : RecordSafe (v.ctx i) → RecordSafe (r.ctx i) ∧
    ∀ x, Covered (r.ctx i).extents x ↔ Covered (v.ctx i).extents x ∧ (r.ctx i).retired ≤ x
  told : ∀ m ∈ ms, Charged r i .windowFilled (filledNotice i (v.ctx i) m)
  tells : Tells (fun x => ∃ m ∈ ms, x = filledNotice i (v.ctx i) m) v r

section
variable {v r : State} {i n : Nat} {ms : List Nat}

theorem retired_nil (v : State) (i : Nat) : Retired v v i [] where
  record := rfl
  others _ _ := rfl
  rest := recordsOnly_refl v
  ready := nofun
  areaFilled := nofun
  areaKept _ _ := rfl
  high := nofun
  moved := .inl ⟨rfl, rfl⟩
  bounded bound := by
    refine ⟨bound, fun m => ⟨nofun, ?_⟩⟩
    rintro ⟨low, high⟩
    omega
  safe safe := by
    refine ⟨safe, fun x => ⟨fun covered => ⟨covered, ?_⟩, And.left⟩⟩
    obtain ⟨e, mem, low, _⟩ := covered
    exact (safe.within e mem).1.trans low
  told := nofun
  tells := tells_of_same rfl fun _ => rfl

theorem Retired.w (h : Retired v r i ms) : (r.ctx i).w = (v.ctx i).w := by rw [h.record]; rfl

theorem Retired.endBound (h : Retired v r i ms) : (r.ctx i).endBound = (v.ctx i).endBound := by rw [h.record]; rfl

/-- A window due lies at or above the edge that the first retirement started from. -/
theorem Retired.due_high (h : Retired v r i ms) (due : Due r i n) : (v.ctx i).retired ≤ (r.ctx i).retired := by
  have unended := due.unended
  rw [h.endBound] at unended
  rcases h.moved with ⟨_, same⟩ | up | ⟨_, ended⟩ <;> omega

/-- The area of a window due stands as it stood: an area retired before is FILLED. -/
theorem Retired.due_area (h : Retired v r i ms) (due : Due r i n) :
    (∀ m ∈ ms, m % 2 ≠ n % 2) ∧ (r.ctx i).area n = (v.ctx i).area n := by
  have other : ∀ m ∈ ms, m % 2 ≠ n % 2 := fun m mem even => by
    have ready := due.ready
    rw [h.areaFilled n m mem even] at ready
    exact AreaState.noConfusion ready
  exact ⟨other, h.areaKept n other⟩

theorem due_covers (due : Due r i n) : ∃ e es, (r.ctx i).extents = e :: es ∧ e.start = n * (r.ctx i).w ∧
    (r.ctx i).windowEnd n ≤ e.stop := firstCovers_iff.1 due.covers

/-- A retirement of a safe record keeps it safe, and uncovers what lies below the new edge (R59). -/
theorem retireWindow_safe (due : Due r i n) (safe : RecordSafe (r.ctx i)) : RecordSafe ((r.retireWindow i n).ctx i) ∧
    ∀ x, Covered ((r.retireWindow i n).ctx i).extents x ↔ Covered (r.ctx i).extents x ∧ (r.ctx i).windowEnd n ≤ x := by
  obtain ⟨e, es, extents, start, reaches⟩ := due_covers due
  have inside : n * (r.ctx i).w < (r.ctx i).endBound := by
    rw [← due.start]
    exact Nat.lt_of_le_of_ne safe.bound due.unended
  have advances := safe.advanced (n := n) (by rw [due.ready]; decide) ⟨e, es, extents, reaches⟩
  have ordered := safe.ordered
  rw [extents] at ordered
  rw [retireWindow_record]
  refine ⟨advances.of_tracked rfl, fun x => ?_⟩
  show Covered (cutFirst (r.ctx i).extents ((r.ctx i).windowEnd n)) x ↔ _
  rw [extents]
  exact covered_cutFirst ordered (by rw [start]; exact (lt_windowEnd inside).le) reaches x

/-- One more retirement. -/
theorem Retired.step (h : Retired v r i ms) (due : Due r i n) : Retired v (r.retireWindow i n) i (ms ++ [n]) := by
  obtain ⟨other, areaN⟩ := h.due_area due
  have high := h.due_high due
  have start := due.start
  have unended := due.unended
  have window := retireWindow_retired r i n
  have moves := windowEnd_moves (start ▸ unended)
  have next := windowEnd_le_next (r.ctx i) n
  have record := retireWindow_record r i n
  have area : ∀ p, ((r.retireWindow i n).ctx i).area p =
      if p % 2 = n % 2 then { (r.ctx i).area n with state := .filled } else (r.ctx i).area p := fun p => by
    rw [record]
    exact advanced_area (r.ctx i) n p
  have notice : filledNotice i (v.ctx i) n =
      .windowFilled i (n % 2) n ((r.ctx i).windowLength n) ((r.ctx i).area n).digest := by
    rw [areaN, h.record]; rfl
  have tells := retireWindow_tells r i n
  have ready := due.ready
  have place := due.window
  rw [areaN] at ready place
  have inside : (v.ctx i).retired ≤ (v.ctx i).endBound → n * (r.ctx i).w < (r.ctx i).endBound := fun bound => by
    have below := (h.bounded bound).1
    rw [← h.endBound] at below
    omega
  exact
    { record := by
        have before := h.record
        generalize (r.retireWindow i n).ctx i = t at record
        generalize r.ctx i = b at record before
        rw [record]
        unfold SegmentIntake.advanced Ctx.setArea
        split <;> rw [before]
      others := fun j ne => (retireWindow_others r i n ne).trans (h.others j ne)
      rest := h.rest.trans (recordsOnly_retireWindow r i n)
      ready := fun m mem => by
        rcases List.mem_append.1 mem with old | one
        · exact h.ready m old
        · rw [List.mem_singleton.1 one]
          exact ⟨ready, place⟩
      areaFilled := fun p m mem even => by
        rw [area]
        split
        · next same => rw [areaN, area_even (v.ctx i) same]
        · next odd =>
          rcases List.mem_append.1 mem with old | one
          · exact h.areaFilled p m old even
          · rw [List.mem_singleton.1 one] at even
            exact absurd even.symm odd
      areaKept := fun p none => by
        rw [area, if_neg fun even => none n (List.mem_append_right _ List.mem_cons_self) even.symm]
        exact h.areaKept p fun m mem => none m (List.mem_append_left _ mem)
      high := fun m mem => by
        rcases List.mem_append.1 mem with old | one
        · exact h.high m old
        · rw [List.mem_singleton.1 one, ← h.w, ← start]
          exact high
      moved := by
        rw [window, ← h.endBound]
        have below := inside
        rw [← h.endBound] at below
        omega
      bounded := fun bound => by
        have within := inside bound
        have ends := lt_windowEnd within
        obtain ⟨_, range⟩ := h.bounded bound
        rw [window, ← h.endBound]
        refine ⟨windowEnd_le_endBound within, fun m => ?_⟩
        have size := w_pos (v.ctx i)
        rw [h.w] at start ends next
        rw [List.mem_append, List.mem_singleton, range m]
        constructor
        · rintro (⟨above, below⟩ | rfl) <;> omega
        · rintro ⟨above, below⟩
          by_cases before : m * (v.ctx i).w < (r.ctx i).retired
          · exact .inl ⟨above, before⟩
          · have lower : n ≤ m := Nat.le_of_mul_le_mul_right (by omega) size
            have upper : m < n + 1 := Nat.lt_of_mul_lt_mul_right (a := (v.ctx i).w) (by omega)
            exact .inr (by omega)
      safe := fun safe => by
        obtain ⟨before, covered⟩ := h.safe safe
        obtain ⟨after, cut⟩ := retireWindow_safe due before
        have ends := lt_windowEnd (inside safe.bound)
        refine ⟨after, fun x => ?_⟩
        rw [cut, covered, window]
        exact ⟨fun ⟨⟨old, _⟩, above⟩ => ⟨old, above⟩, fun ⟨old, above⟩ => ⟨⟨old, by omega⟩, above⟩⟩
      told := fun m mem => by
        rcases List.mem_append.1 mem with old | one
        · exact tells.charged (h.told m old)
        · rw [List.mem_singleton.1 one, notice]
          exact retireWindow_charged r i n
      tells := by
        refine (h.tells.mono ?_).trans (tells.mono ?_)
        · rintro x ⟨m, mem, rfl⟩
          exact ⟨m, List.mem_append_left _ mem, rfl⟩
        · rintro x rfl
          exact ⟨n, List.mem_append_right _ List.mem_cons_self, notice.symm⟩ }

/-- A retirement moves the retired edge. -/
theorem Retired.moves (h : Retired v r i ms) (some : ms ≠ []) : (r.ctx i).retired ≠ (v.ctx i).retired := by
  rcases h.moved with ⟨none, _⟩ | up | ⟨above, ended⟩
  · exact absurd none some
  · omega
  · omega

/-- An area stands as it stood, or the window it holds has retired into it. -/
theorem Retired.area_cases (h : Retired v r i ms) (p : Nat) : (r.ctx i).area p = (v.ctx i).area p ∨
    ∃ m ∈ ms, ((v.ctx i).area p).window = some m ∧ (r.ctx i).area p = { (v.ctx i).area p with state := .filled } := by
  by_cases some : ∃ m ∈ ms, m % 2 = p % 2
  · obtain ⟨m, mem, even⟩ := some
    obtain ⟨_, window⟩ := h.ready m mem
    rw [area_even _ even] at window
    exact .inr ⟨m, mem, window, h.areaFilled p m mem even⟩
  · exact .inl (h.areaKept p fun m mem even => some ⟨m, mem, even⟩)

theorem Retired.digest (h : Retired v r i ms) (p : Nat) : ((r.ctx i).area p).digest = ((v.ctx i).area p).digest := by
  rcases h.area_cases p with kept | ⟨_, _, _, filled⟩
  · rw [kept]
  · rw [filled]

end

end Sys2Proof.Landing
end

section
/-! An evaluation of retirement in the words of R104 and R105. -/

namespace Sys2Proof.Landing

open Sys2Proof Sys2Proof.Machine Sys2Proof.Laws Sys2Proof.Contexts Sys2Proof.SegmentIntake Sys2Proof.Extents

section
variable {s v r : State} {i n : Nat} {ms : List Nat} {left : Nat → Bool}

/-! ## The conditions of R104 -/

/-- In a safe record the window due is the whole one at the retired edge. -/
theorem due_iff_whole (safe : RecordSafe (s.ctx i)) : Due s i n ↔ (s.ctx i).receiving = true ∧
    (s.ctx i).retired = n * (s.ctx i).w ∧ (s.ctx i).retired ≠ (s.ctx i).endBound ∧
    (s.ctx i).whole (s.pieceStaged i) n = true := by
  have stop : (s.ctx i).retired = n * (s.ctx i).w → (s.ctx i).retired ≠ (s.ctx i).endBound →
      (s.ctx i).windowStop n = (s.ctx i).windowEnd n := fun start unended =>
    windowStop_eq_windowEnd (by rw [← start]; exact Nat.lt_of_le_of_ne safe.bound unended)
  rw [whole_iff]
  constructor
  · intro due
    obtain ⟨e, es, extents, start, reaches⟩ := due_covers due
    exact ⟨due.running, due.start, due.unended, due.ready, due.window,
      ⟨e, es, extents, start.le, by rw [stop due.start due.unended]; exact reaches⟩, due.unstaged⟩
  · rintro ⟨running, start, unended, ready, window, ⟨e, es, extents, low, reaches⟩, unstaged⟩
    have above := (safe.within e (by rw [extents]; exact List.mem_cons_self)).1
    rw [stop start unended] at reaches
    exact ⟨running, start, unended, ready, window, firstCovers_iff.2 ⟨e, es, extents, by omega, reaches⟩, unstaged⟩

/-- The extent cut at `a` reaches on from there as it did before the cut. -/
theorem first_of_cutFirst {e : Extent} {es : List Extent} {a b : Nat} (ordered : Ordered (e :: es)) (low : e.start ≤ a)
    (reaches : a ≤ e.stop) (further : a < b) :
    (∃ x xs, cutFirst (e :: es) a = x :: xs ∧ x.start ≤ a ∧ b ≤ x.stop) ↔
      ∃ x xs, e :: es = x :: xs ∧ x.start ≤ a ∧ b ≤ x.stop := by
  rw [cutFirst_cons]
  constructor
  · rintro ⟨x, xs, first, start, high⟩
    split at first
    · have behind := ordered_behind ordered (x := x) (by rw [first]; exact List.mem_cons_self)
      omega
    · obtain ⟨rfl, rfl⟩ := List.cons.inj first
      exact ⟨e, es, rfl, low, high⟩
  · rintro ⟨x, xs, first, _, high⟩
    obtain ⟨rfl, rfl⟩ := List.cons.inj first
    rw [if_neg (by omega)]
    exact ⟨_, _, rfl, le_rfl, high⟩

/-- The window behind the one due retires after it exactly when it is whole before (R105). -/
theorem due_next_iff (safe : RecordSafe (s.ctx i)) (due : Due s i n)
    (unended : (s.ctx i).windowEnd n ≠ (s.ctx i).endBound) :
    Due (s.retireWindow i n) i (n + 1) ↔ (s.ctx i).whole (s.pieceStaged i) (n + 1) = true := by
  obtain ⟨e, es, extents, start, reaches⟩ := due_covers due
  have full := windowEnd_of_unended unended
  have ordered := safe.ordered
  rw [extents] at ordered
  have retired := retireWindow_retired s i n
  have bound := retireWindow_endBound s i n
  have w := retireWindow_w s i n
  have inside : (n + 1) * (s.ctx i).w < (s.ctx i).endBound := by
    have edge := safe.bound
    have := windowEnd_le_endBound (c := s.ctx i) (n := n) (by have := due.start; have := due.unended; omega)
    omega
  have area : ((s.retireWindow i n).ctx i).area (n + 1) = (s.ctx i).area (n + 1) := by
    rw [retireWindow_record]
    exact (advanced_area (s.ctx i) n (n + 1)).trans (if_neg (by omega))
  have running : ((s.retireWindow i n).ctx i).receiving = (s.ctx i).receiving := by
    rw [retireWindow_record]
    unfold advanced Ctx.setArea
    split <;> rfl
  have stop : ((s.retireWindow i n).ctx i).windowStop (n + 1) = (s.ctx i).windowEnd (n + 1) := by
    rw [windowStop_eq_windowEnd (by rw [w, bound]; exact inside), retireWindow_record]
    exact advanced_windowEnd ..
  have cut : ((s.retireWindow i n).ctx i).extents = cutFirst (e :: es) ((n + 1) * (s.ctx i).w) := by
    rw [retireWindow_record, ← extents, ← full]; rfl
  have step : n * (s.ctx i).w ≤ (n + 1) * (s.ctx i).w := Nat.mul_le_mul_right _ (Nat.le_succ n)
  rw [due_iff_whole (retireWindow_safe due safe).1, running, retired, w, bound, whole_iff, whole_iff, area, w, stop,
    retireWindow_pieceStaged, cut, extents, windowStop_eq_windowEnd inside,
    first_of_cutFirst ordered (by omega) (by omega) (lt_windowEnd inside)]
  exact ⟨fun ⟨_, _, _, whole⟩ => whole, fun whole => ⟨due.running, full, unended, whole⟩⟩

/-! ## Retirement as the statements tell it (R104 to R106) -/

/-- What the retirement of some windows says of a safe record, but for how many they are. -/
theorem Retired.retires (h : Retired v r i ms) (safe : RecordSafe (v.ctx i))
    (edge : (r.ctx i).retired =
      let n := (v.ctx i).retired / (v.ctx i).w
      if (v.ctx i).receiving = true ∧ (v.ctx i).retired ≠ (v.ctx i).endBound ∧ (v.ctx i).whole left n = true then
        (if (v.ctx i).windowStop n ≠ (v.ctx i).endBound ∧ (v.ctx i).whole left (n + 1) = true then
          (v.ctx i).windowStop (n + 1) else (v.ctx i).windowStop n)
      else (v.ctx i).retired) : Retires v r i (v.ctx i) left := by
  obtain ⟨bound, range⟩ := h.bounded safe.bound
  have notice : ∀ m ∈ ms, filledNotice i (v.ctx i) m = .windowFilled i (m % 2) m
      ((v.ctx i).windowStop m - m * (v.ctx i).w) ((r.ctx i).area m).digest := fun m mem => by
    have inside : m * (v.ctx i).w < (v.ctx i).endBound := ((range m).1 mem).2.trans_le bound
    rw [windowStop_eq_windowEnd inside, ← windowLength_eq_sub inside, h.digest]; rfl
  exact
    { edge := edge
      extents := (h.safe safe).2
      areas := fun p _ => by
        cases at_ : ((v.ctx i).area p).window with
        | none =>
          rcases h.area_cases p with kept | ⟨_, _, window, _⟩
          · rw [kept]; exact ⟨at_, rfl⟩
          · exact nomatch at_.symm.trans window
        | some m =>
          by_cases mem : m ∈ ms
          · rw [h.areaFilled p m mem (safe.parity p m at_)]
            exact ⟨at_, (if_pos ((range m).1 mem)).symm⟩
          · have kept : (r.ctx i).area p = (v.ctx i).area p := (h.area_cases p).resolve_right ?_
            · rw [kept]
              exact ⟨at_, (if_neg fun inside => mem ((range m).2 inside)).symm⟩
            · rintro ⟨m', mem', window, _⟩
              exact mem (Option.some.inj (window.symm.trans at_) ▸ mem')
      told := fun m low high => by
        have mem := (range m).2 ⟨low, high⟩
        exact (notice m mem) ▸ h.told m mem
      only := fun j p m length d mem => by
        refine (h.tells.new mem).imp_right ?_
        rintro ⟨m', mem', told⟩
        rw [notice m' mem'] at told
        injection told with context area window bytes tally
        subst window
        obtain ⟨low, high⟩ := (range m).1 mem'
        exact ⟨context, area, low, high, bytes, tally⟩ }

/-! ## The evaluation -/

/-- The windows `ms` retired, and where there are some, the completion check was made (R105, R106). -/
structure Evaluated (v r w : State) (i : Nat) (ms : List Nat) : Prop where
  retired : Retired v r i ms
  first : ms ≠ [] → ∀ n, (v.ctx i).retired = n * (v.ctx i).w → n ∈ ms
  checked : (ms = [] ∧ r = v ∧ w = v) ∨ (ms ≠ [] ∧ (v.ctx i).receiving = true ∧ w = r.completionCheck i)

/-- The windows that an evaluation retires, and in a safe record how many they are. -/
theorem evaluateRetirement_evaluated (v : State) (i : Nat) : ∃ r ms, Evaluated v r (v.evaluateRetirement i) i ms ∧
    (RecordSafe (v.ctx i) → Retires v r i (v.ctx i) (v.pieceStaged i)) := by
  have size := w_pos (v.ctx i)
  have edgeFirst : ∀ {n}, Due v i n → ∀ m, (v.ctx i).retired = m * (v.ctx i).w → m = n := fun due m edge => by
    rw [due.start] at edge
    exact (Nat.eq_of_mul_eq_mul_right size edge).symm
  have inside : RecordSafe (v.ctx i) → ∀ {n}, Due v i n → n * (v.ctx i).w < (v.ctx i).endBound := fun safe n due => by
    rw [← due.start]
    exact Nat.lt_of_le_of_ne safe.bound due.unended
  cases evaluateRetirement_ends v i with
  | idle still ends =>
    refine ⟨v, [], ⟨retired_nil v i, nofun, .inl ⟨rfl, rfl, ends⟩⟩, fun safe => (retired_nil v i).retires safe ?_⟩
    refine (if_neg ?_).symm
    rintro ⟨running, unended, whole⟩
    have aligned : (v.ctx i).retired % (v.ctx i).w = 0 :=
      safe.edge.resolve_right fun ended => unended (endBound_of_some ended).symm
    exact still _ ((due_iff_whole safe).2
      ⟨running, (Nat.div_mul_cancel (Nat.dvd_of_mod_eq_zero aligned)).symm, unended, whole⟩)
  | once n due stops ends =>
    have one : Retired v (v.retireWindow i n) i [n] := (retired_nil v i).step due
    refine ⟨_, [n], ⟨one, fun _ m edge => List.mem_singleton.2 (edgeFirst due m edge),
      .inr ⟨by simp, due.running, ends⟩⟩, fun safe => one.retires safe ?_⟩
    obtain ⟨_, _, _, whole⟩ := (due_iff_whole safe).1 due
    dsimp only
    rw [due.edgeWindow, if_pos ⟨due.running, due.unended, whole⟩, retireWindow_retired,
      windowStop_eq_windowEnd (inside safe due), if_neg]
    rintro ⟨unended, again⟩
    exact (stops.resolve_left unended) ((due_next_iff safe due unended).2 again)
  | twice n due next ends =>
    have both : Retired v ((v.retireWindow i n).retireWindow i (n + 1)) i [n, n + 1] :=
      ((retired_nil v i).step due).step next
    refine ⟨_, [n, n + 1], ⟨both, fun _ m edge => by rw [edgeFirst due m edge]; exact List.mem_cons_self,
      .inr ⟨by simp, due.running, ends⟩⟩, fun safe => both.retires safe ?_⟩
    obtain ⟨_, _, _, whole⟩ := (due_iff_whole safe).1 due
    have unended : (v.ctx i).windowEnd n ≠ (v.ctx i).endBound := fun ended =>
      next.unended (by rw [retireWindow_retired, retireWindow_endBound, ended])
    have inner := inside safe due
    have within : (n + 1) * (v.ctx i).w < (v.ctx i).endBound := by
      have := windowEnd_le_endBound inner
      have := windowEnd_of_unended unended
      omega
    have last : ((v.retireWindow i n).ctx i).windowEnd (n + 1) = (v.ctx i).windowEnd (n + 1) := by
      rw [retireWindow_record]; exact advanced_windowEnd ..
    dsimp only
    rw [due.edgeWindow, if_pos ⟨due.running, due.unended, whole⟩, retireWindow_retired, last,
      windowStop_eq_windowEnd inner, windowStop_eq_windowEnd within,
      if_pos ⟨unended, (due_next_iff safe due unended).1 next⟩]

end

end Sys2Proof.Landing
end

section
/-! What an evaluation of retirement leaves: the record, the areas, and how the completion check ends the context (R22 to
R24, R106). -/

namespace Sys2Proof.Landing

open Sys2Proof Sys2Proof.Machine Sys2Proof.Laws Sys2Proof.Contexts Sys2Proof.SegmentIntake Sys2Proof.Extents

section
variable {s v r w : State} {i : Nat} {ms : List Nat}

/-! ## The windows retired -/

/-- A window retired that starts below the end bound lies below the retired edge. -/
theorem Retired.below (h : Retired v r i ms) {m : Nat} (mem : m ∈ ms) (inside : m * (v.ctx i).w < (v.ctx i).endBound) :
    m * (v.ctx i).w < (r.ctx i).retired :=
  (((h.bounded ((h.high m mem).trans inside.le)).2 m).1 mem).2

theorem Retired.holdFields (h : Retired v r i ms) (j : Nat) : holdFields (r.ctx j) = holdFields (v.ctx j) := by
  by_cases own : j = i
  · rw [own, h.record]; rfl
  · rw [h.others j own]

/-- A notice that is not of a window was in the queue before the windows retired. -/
theorem Retired.quiet (h : Retired v r i ms) {n : Notice} (other : isEnding n) (mem : n ∈ r.notice.queue) :
    n ∈ v.notice.queue := by
  refine (h.tells.new mem).resolve_right ?_
  rintro ⟨m, _, told⟩
  exact other _ _ _ _ _ told

/-- Retirement leads on to where a failure of the completion check begins. -/
theorem Retired.leadsTo (h : Retired v r i ms) (before : LeadsTo s v i) : LeadsTo s r i where
  groups := h.rest.groups.trans before.groups
  actions := h.rest.actions.trans before.actions
  holdFields j := (h.holdFields j).trans (before.holdFields j)
  staged q rec at_ := by
    have same : r.staged q = v.staged q := by unfold State.staged; rw [h.rest.staging]
    rw [same]
    exact before.staged q rec at_
  constrained := by rw [h.rest.staging]; exact before.constrained
  queue leader k why member mem := before.queue _ _ _ _ (h.quiet (by intro _ _ _ _ _ told; exact nomatch told) mem)

/-! ## After the completion check -/

theorem Evaluated.record (h : Evaluated v r w i ms) : ∃ state timer cause staged blocks owed, w.ctx i =
    { r.ctx i with
      state := state, timer := timer, cause := cause, staged := staged, blocksHeld := blocks, owed := owed } := by
  rcases h.checked with ⟨_, rfl, rfl⟩ | ⟨_, _, rfl⟩
  · exact ⟨_, _, _, _, _, _, rfl⟩
  · exact completionCheck_keeps r i

theorem Evaluated.area (h : Evaluated v r w i ms) (p : Nat) : (w.ctx i).area p = (r.ctx i).area p := by
  obtain ⟨_, _, _, _, _, _, record⟩ := h.record
  rw [record]; rfl

theorem Evaluated.progress (h : Evaluated v r w i ms) :
    (w.ctx i).retired = (r.ctx i).retired ∧ (w.ctx i).extents = (r.ctx i).extents := by
  obtain ⟨_, _, _, _, _, _, record⟩ := h.record
  rw [record]
  exact ⟨rfl, rfl⟩

/-- Key, digest, total and generation outlast an evaluation. -/
theorem Evaluated.lasting (h : Evaluated v r w i ms) : (w.ctx i).key = (v.ctx i).key ∧
    (w.ctx i).digest = (v.ctx i).digest ∧ (w.ctx i).total = (v.ctx i).total ∧
    (w.ctx i).generation = (v.ctx i).generation := by
  obtain ⟨_, _, _, _, _, _, record⟩ := h.record
  rw [record, h.retired.record]
  exact ⟨rfl, rfl, rfl, rfl⟩

theorem Evaluated.tells (h : Evaluated v r w i ms) : Tells isEnding r w := by
  rcases h.checked with ⟨_, rfl, rfl⟩ | ⟨_, _, rfl⟩
  · exact tells_of_same rfl fun _ => rfl
  · exact completionCheck_quiet r i

/-- Where the retired edge stays, nothing happened. -/
theorem Evaluated.unchanged (h : Evaluated v r w i ms) (still : (w.ctx i).retired = (v.ctx i).retired) : w = v := by
  rcases h.checked with ⟨_, _, same⟩ | ⟨some, _, _⟩
  · exact same
  · exact absurd (h.progress.1.symm.trans still) (h.retired.moves some)

/-- How the completion check leaves the context of an evaluation, seen from a state `s` before it (R22 to R24). -/
inductive Settles (s v w : State) (i : Nat) : Prop
  | stays (state : (w.ctx i).state = (v.ctx i).state)
      (short : ∀ total d, (v.ctx i).total = .manifest total d → (w.ctx i).retired = total → (v.ctx i).retired = total)
  | done (total : Nat) (recorded : (v.ctx i).total = .manifest total (v.ctx i).digest)
      (unreached : (v.ctx i).retired ≠ total) (reached : (w.ctx i).retired = total) (completed : Completed s w i)
  | failed (total : Nat) (d : Tally) (recorded : (v.ctx i).total = .manifest total d) (differs : (v.ctx i).digest ≠ d)
      (unreached : (v.ctx i).retired ≠ total) (reached : (w.ctx i).retired = total) (state : (w.ctx i).state = .failed)
      (fails : Table.sorted v.staging.pool → Failed s w i .digestMismatch)

/-- The check ends the context at the retirement that reaches a manifest's total, and not otherwise. -/
theorem Evaluated.settles (h : Evaluated v r w i ms) (before : LeadsTo s v i)
    (quiet : ∀ leader g n, Notice.groupDone leader g n ∈ v.notice.queue →
      Notice.groupDone leader g n ∈ s.notice.queue) : Settles s v w i := by
  have leads := h.retired.leadsTo before
  have progress := h.progress.1
  rcases h.checked with ⟨_, _, rfl⟩ | ⟨some, running, ends⟩
  · exact .stays rfl fun _ _ _ reached => reached
  have moves := h.retired.moves some
  have kept : (r.ctx i).state = (v.ctx i).state ∧ (r.ctx i).total = (v.ctx i).total ∧
      (r.ctx i).digest = (v.ctx i).digest := by rw [h.retired.record]; exact ⟨rfl, rfl, rfl⟩
  obtain ⟨state, recorded, digest⟩ := kept
  have running' : (r.ctx i).receiving = true := by rw [receiving_eq, state, ← receiving_eq]; exact running
  by_cases manifest : ∃ total d, (v.ctx i).total = .manifest total d ∧ (r.ctx i).retired = total
  · obtain ⟨total, d, announced, reached⟩ := manifest
    have unreached : (v.ctx i).retired ≠ total := fun same => moves (reached.trans same.symm)
    have check := completionCheck_of_reached (recorded.trans announced) running' reached
    rw [digest, ← ends] at check
    by_cases equal : (v.ctx i).digest = d
    · refine .done total (announced.trans (by rw [equal])) unreached (progress.trans reached) ?_
      rw [check, if_pos equal]
      refine completed_of leads.groups (leads.group i) (fun leader g n mem => quiet _ _ _ (h.retired.quiet ?_ mem))
        (done_completed ((recorded.trans announced).trans (by rw [digest, equal])) reached)
      exact fun _ _ _ _ _ told => nomatch told
    · rw [if_neg equal] at check
      obtain ⟨_, _, _, record⟩ := fail_record running' .digestMismatch
      refine .failed total d announced equal unreached (progress.trans reached) (by rw [check, record]) fun sorted => ?_
      rw [check]
      exact leads.failed (fail_failed running' (by rw [h.retired.rest.staging]; exact sorted) .digestMismatch)
  · have same : w = r := ends.trans ((completionCheck_same_or_reached r i).resolve_right ?_)
    · exact .stays (by rw [same]; exact state) fun total d announced reached =>
        absurd ⟨total, d, announced, progress.symm.trans reached⟩ manifest
    · rintro ⟨total, d, announced, _, reached⟩
      exact manifest ⟨total, d, recorded.symm.trans announced, reached⟩

end

end Sys2Proof.Landing
end

section
/-! REFILL moves an area (R110, R111): the statement O44. -/

namespace Sys2Proof.Landing

open Sys2Proof Sys2Proof.Machine Sys2Proof.Laws Sys2Proof.Contexts Sys2Proof.SegmentIntake Sys2Proof.Extents

/-! ## The command's end (R172) -/

section
variable {s v w : State} {i : Nat} {cause : FailCause}

theorem tells_finish (w : State) (tag : BitVec 16) (code : BitVec 8) (status : CmdStatus) (i : Nat) :
    Tells (· = .cmdResult i tag code status) w (w.finish tag code status i) :=
  ⟨⟨_, rfl, fun _ mem => List.mem_singleton.1 mem⟩, fun _ _ => id, rfl, rfl, rfl⟩

theorem completed_finish (h : Completed s w i) (tag : BitVec 16) (code : BitVec 8) (status : CmdStatus) (j : Nat) :
    Completed s (w.finish tag code status j) i := by
  have tells := tells_finish w tag code status j
  obtain ⟨total, recorded, reached, told⟩ := h.whole
  exact
    { done := h.done
      stopped := h.stopped
      whole := ⟨total, recorded, reached, tells.charged told⟩
      counted := h.counted
      last := fun g at_ last => tells.charged (h.last g at_ last)
      notLast := fun never leader g n mem =>
        h.notLast never leader g n ((tells.new mem).resolve_right fun told => nomatch told)
      otherGroups := h.otherGroups }

theorem failed_finish (h : Failed s w i cause) (tag : BitVec 16) (code : BitVec 8) (status : CmdStatus) (j : Nat) :
    Failed s (w.finish tag code status j) i cause := by
  have tells := tells_finish w tag code status j
  exact
    { failed := h.failed
      recorded := h.recorded
      stopped := h.stopped
      freed := h.freed
      told := tells.charged h.told
      counted := h.counted
      first := fun g at_ first => tells.charged (h.first g at_ first)
      later := fun g at_ again leader k why member mem =>
        h.later g at_ again leader k why member ((tells.new mem).resolve_right fun told => nomatch told)
      held := h.held
      otherGroups := h.otherGroups
      others := h.others
      mode := h.mode }

theorem checked_finish {c : Ctx} (h : Checked s w i c) (tag : BitVec 16) (code : BitVec 8) (status : CmdStatus) (j : Nat) :
    Checked s (w.finish tag code status j) i c where
  ends total d announced unreached reached := by
    have ended := h.ends total d announced unreached reached
    split at ended
    · next equal => rw [if_pos equal]; exact completed_finish ended ..
    · next differs => rw [if_neg differs]; exact failed_finish ended ..
  stays := h.stays

/-- Retirement seen from before and after states that tell of no window. -/
theorem retires_between {r t : State} {c : Ctx} {left : Nat → Bool} (h : Retires v r i c left)
    (before : Tells isEnding s v) (after : Tells isEnding r t) (retired : (t.ctx i).retired = (r.ctx i).retired)
    (extents : (t.ctx i).extents = (r.ctx i).extents) (area : ∀ p, (t.ctx i).area p = (r.ctx i).area p) :
    Retires s t i c left where
  edge := retired.trans h.edge
  extents := by rw [retired, extents]; exact h.extents
  areas := by simp only [retired, area]; exact h.areas
  told := by
    simp only [retired, area]
    exact fun m low high => after.charged (h.told m low high)
  only := by
    simp only [retired, area]
    intro j p m length d mem
    have earlier := (after.new mem).resolve_right fun ending => ending _ _ _ _ _ rfl
    exact (h.only j p m length d earlier).imp_left fun old =>
      (before.new old).resolve_right fun ending => ending _ _ _ _ _ rfl

end

/-! ## The area moved (R110) -/

/-- The window after that of area `p`, of the same parity (R110). -/
def nextWindow (c : Ctx) (p : Nat) : Nat := (c.area p).window.getD 0 + 2

/-- The next window of area `p` starts below the end bound (R110). -/
def takesWindow (c : Ctx) (p : Nat) : Bool := decide (nextWindow c p * windowSize c.windowSelect < c.endBound)

theorem takesWindow_iff (c : Ctx) (p : Nat) : takesWindow c p = true ↔ nextWindow c p * c.w < c.endBound :=
  decide_eq_true_iff

/-- A refilled area, as the statements write it. -/
theorem refilled_eq (c : Ctx) (p base : Nat) : c.refilled p base =
    { base := base, delivered := 0, digest := ⟨0, 0⟩, halfSent := false, faulted := false, verify := .none
      state := if nextWindow c p * windowSize c.windowSelect < c.endBound then .ready else .idle
      window := if nextWindow c p * windowSize c.windowSelect < c.endBound then some (nextWindow c p) else none } := by
  unfold Ctx.refilled
  simp only [decide_eq_true_eq]
  rfl

/-- The area is moved on, and its context's records are judged again when it takes a window. -/
def areaMoved (s : State) (i p base : Nat) : State :=
  let t := s.modCtx i fun c => c.setArea p (c.refilled p base)
  if ((t.ctx i).area p).state = .ready then t.rejudgeCtx i else t

/-- Between two states area `p` of context `i` was moved on (R110). -/
structure Moved (s v : State) (i p base : Nat) : Prop where
  record : v.ctx i = (s.ctx i).setArea p ((s.ctx i).refilled p base)
  others : ∀ j, j ≠ i → v.ctx j = s.ctx j
  staged : Rejudged s v fun j => j == i && takesWindow (s.ctx i) p
  sorted : Table.sorted s.staging.pool → Table.sorted v.staging.pool
  constrained : v.staging.constrained = s.staging.constrained
  intake : v.intake = s.intake
  map : v.map = s.map
  delivery : v.delivery = s.delivery
  verify : v.verify = s.verify
  actions : v.actions = s.actions
  groups : v.groups = s.groups
  notice : v.notice = s.notice

theorem areaMoved_moved (s : State) (i p base : Nat) : Moved s (areaMoved s i p base) i p base := by
  let t := s.modCtx i fun c => c.setArea p (c.refilled p base)
  have record : t.ctx i = (s.ctx i).setArea p ((s.ctx i).refilled p base) := ctx_modCtx_same ..
  have others : ∀ j, j ≠ i → t.ctx j = s.ctx j := fun j ne => ctx_modCtx_other s _ ne
  have ready : ((t.ctx i).area p).state = .ready ↔ takesWindow (s.ctx i) p = true := by
    rw [record, area_setArea_same, refilled_eq, takesWindow_iff]
    show (if nextWindow (s.ctx i) p * (s.ctx i).w < (s.ctx i).endBound then AreaState.ready else .idle) = .ready ↔ _
    split <;> simp [*]
  show Moved s (if ((t.ctx i).area p).state = .ready then t.rejudgeCtx i else t) i p base
  simp only [ready]
  split
  · next takes =>
    refine ⟨record, others, fun q => ?_, fun sorted => Storage.sorted_rejudge (s := t) sorted (· == i), rfl, rfl, rfl,
      rfl, rfl, rfl, rfl, rfl⟩
    have judged : (t.rejudge (· == i)).staged q = _ := staged_rejudge t (· == i) q
    refine judged.trans (congrArg (fun f => Option.map f (s.staged q)) (funext fun rec => ?_))
    rw [judgedAgain_eq t (· == i) rec]
    exact judgedAgain_congr rfl rfl (by rw [takes, Bool.and_true])
  · next stays =>
    refine ⟨record, others, fun q => ?_, id, rfl, rfl, rfl, rfl, rfl, rfl, rfl, rfl⟩
    have none_ : (t.judgedAgain fun j => j == i && takesWindow (s.ctx i) p) = id := by
      funext rec
      exact judgedAgain_of_not (by simp [stays])
    rw [none_, Option.map_id_apply]
    rfl

section
variable {s v r w t : State} {i p base : Nat} {ms : List Nat}

theorem Moved.area (h : Moved s v i p base) : (v.ctx i).area p = (s.ctx i).refilled p base := by
  rw [h.record, area_setArea_same]

/-- What a move of an area keeps of the record that an evaluation reads. -/
theorem Moved.keeps (h : Moved s v i p base) : (v.ctx i).state = (s.ctx i).state ∧ (v.ctx i).total = (s.ctx i).total ∧
    (v.ctx i).digest = (s.ctx i).digest ∧ (v.ctx i).retired = (s.ctx i).retired ∧ (v.ctx i).w = (s.ctx i).w ∧
    (v.ctx i).key = (s.ctx i).key ∧ (v.ctx i).generation = (s.ctx i).generation := by
  rw [h.record]
  simp [Ctx.w]

theorem Moved.endBound (h : Moved s v i p base) : (v.ctx i).endBound = (s.ctx i).endBound :=
  endBound_congr (by rw [h.record, setArea_total])

theorem Moved.tells (h : Moved s v i p base) {P : Notice → Prop} : Tells P s v :=
  tells_of_same h.notice fun j => by
    by_cases own : j = i
    · rw [own, h.record, setArea_owed]
    · rw [h.others j own]

theorem Moved.leadsTo (h : Moved s v i p base) : LeadsTo s v i where
  groups := h.groups
  actions := h.actions
  holdFields j := by
    by_cases own : j = i
    · rw [own, h.record]
      exact holdFields_of_core (core_setArea ..)
    · rw [h.others j own]
  staged q rec at_ := by
    obtain ⟨st, judged, same, unwritten⟩ := judgedAgain_cases v (fun j => j == i && takesWindow (s.ctx i) p) rec
    refine ⟨st, ?_, fun other => same (by simp [other]), unwritten⟩
    rw [h.staged, at_, Option.map_some, judged]
  constrained := h.constrained
  queue _ _ _ _ mem := by rwa [h.notice] at mem

theorem Moved.pieceStaged (h : Moved s v i p base) : v.pieceStaged i = s.pieceStaged i :=
  pieceStaged_congr (by rw [h.record, setArea_staged]) h.delivery fun q => by
    rw [h.staged, Option.map_map]
    exact congrArg (fun f => Option.map f (s.staged q)) (funext fun rec => judgedAgain_pieces ..)

theorem Moved.settles (h : Moved s v i p base) (e : Evaluated v r w i ms) : Settles s v w i :=
  e.settles h.leadsTo fun _ _ _ mem => by rwa [h.notice] at mem

/-- The area moved, after the evaluation: on its next window, which may have retired at once, or on none (R110). -/
theorem Moved.area_after (h : Moved s v i p base) (e : Evaluated v r w i ms) : let b := (w.ctx i).area p
    b.base = base ∧ b.delivered = 0 ∧ b.digest = ⟨0, 0⟩ ∧ b.halfSent = false ∧ b.faulted = false ∧ b.verify = .none ∧
      (if nextWindow (s.ctx i) p * windowSize (s.ctx i).windowSelect < (s.ctx i).endBound then
        b.window = some (nextWindow (s.ctx i) p) ∧ (b.state = .ready ∨
          (b.state = .filled ∧ nextWindow (s.ctx i) p * windowSize (s.ctx i).windowSelect < (w.ctx i).retired))
      else b.window = none ∧ b.state = .idle) := by
  have own : windowSize (s.ctx i).windowSelect = (s.ctx i).w := rfl
  obtain ⟨_, _, _, _, size, _⟩ := h.keeps
  have area := h.area
  rw [refilled_eq, own] at area
  dsimp only
  rw [e.area, e.progress.1, own]
  rcases e.retired.area_cases p with kept | ⟨m, mem, window, filled⟩
  · rw [kept, area]
    refine ⟨rfl, rfl, rfl, rfl, rfl, rfl, ?_⟩
    split
    · exact ⟨rfl, .inl rfl⟩
    · exact ⟨rfl, rfl⟩
  · rw [filled]
    rw [area] at window ⊢
    refine ⟨rfl, rfl, rfl, rfl, rfl, rfl, ?_⟩
    dsimp only at window ⊢
    split at window
    · next inside =>
      obtain rfl := Option.some.inj window
      rw [if_pos inside]
      refine ⟨if_pos inside, .inr ⟨rfl, ?_⟩⟩
      rw [← size] at inside ⊢
      exact e.retired.below mem (by rw [h.endBound]; exact inside)
    · exact nomatch window

/-- The window at the retired edge has retired when the edge has moved: its WINDOW_FILLED (R106). -/
theorem Moved.windowTold (h : Moved s v i p base) (e : Evaluated v r w i ms) {n : Nat}
    (start : (s.ctx i).retired = n * windowSize (s.ctx i).windowSelect)
    (moved : (w.ctx i).retired ≠ (s.ctx i).retired) :
    Charged w i .windowFilled (.windowFilled i (n % 2) n ((s.ctx i).windowLength n) ((w.ctx i).area n).digest) := by
  obtain ⟨_, total, _, retired, size, _⟩ := h.keeps
  have some : ms ≠ [] := fun none => by
    rcases e.checked with ⟨_, _, same⟩ | ⟨some, _⟩
    · exact moved (by rw [same, retired])
    · exact some none
  have told := e.retired.told n (e.first some n (by rw [retired, size]; exact start))
  have length : (v.ctx i).windowLength n = (s.ctx i).windowLength n := by
    rw [h.record]
    unfold Ctx.windowLength Ctx.cutsWindow Ctx.endBound Ctx.totalBytes Ctx.w
    rw [setArea_total, setArea_windowSelect]
  rw [e.area, e.retired.digest, ← length]
  exact e.tells.charged told

/-- Where the retired edge stays, the area moved is all there is (R110, R84). -/
theorem Moved.still (h : Moved s v i p base) (e : Evaluated v r w i ms) (same : (w.ctx i).retired = (s.ctx i).retired) :
    (w.ctx i).state = (s.ctx i).state ∧ w.groups = s.groups ∧
      Rejudged s w fun j => j == i && takesWindow (s.ctx i) p := by
  obtain ⟨state, _, _, retired, _⟩ := h.keeps
  rw [e.unchanged (same.trans retired.symm)]
  exact ⟨state, h.groups, h.staged⟩

/-! ## The end of the context, as the statements tell it (R22 to R24) -/

/-- A context that is DONE and was not before was completed. -/
theorem Moved.completed (h : Moved s v i p base) (e : Evaluated v r w i ms) (done : (w.ctx i).state = .done)
    (undone : (s.ctx i).state ≠ .done) : Completed s w i := by
  cases h.settles e with
  | stays state => exact absurd ((h.keeps.1.symm.trans state.symm).trans done) undone
  | done _ _ _ _ completed => exact completed
  | failed _ _ _ _ _ _ state => rw [state] at done; exact nomatch done

/-- A context that is FAILED and was not before failed by its digest. -/
theorem Moved.failed (h : Moved s v i p base) (e : Evaluated v r w i ms) (conserved : StagingConserved s)
    (failed : (w.ctx i).state = .failed) (unfailed : (s.ctx i).state ≠ .failed) : Failed s w i .digestMismatch := by
  cases h.settles e with
  | stays state => exact absurd ((h.keeps.1.symm.trans state.symm).trans failed) unfailed
  | done _ _ _ _ completed => rw [completed.done] at failed; exact nomatch failed
  | failed _ _ _ _ _ _ _ fails => exact fails (h.sorted conserved.sorted)

theorem Moved.checked (h : Moved s v i p base) (e : Evaluated v r w i ms) (conserved : StagingConserved s) :
    Checked s w i (s.ctx i) := by
  obtain ⟨state, total, digest, retired, _⟩ := h.keeps
  have settles := h.settles e
  constructor
  case ends =>
    intro n d announced unreached reached
    rw [← total] at announced
    rw [← retired] at unreached
    rw [← digest]
    cases settles with
    | stays _ short => exact absurd (short n d announced reached) unreached
    | done n' recorded _ _ completed =>
      obtain ⟨-, same⟩ := Total.manifest.inj (recorded.symm.trans announced)
      rw [if_pos same]
      exact completed
    | failed n' d' recorded differs _ _ _ fails =>
      obtain ⟨-, rfl⟩ := Total.manifest.inj (recorded.symm.trans announced)
      rw [if_neg differs]
      exact fails (h.sorted conserved.sorted)
  case stays =>
    intro short
    rw [← total, ← retired] at short
    cases settles with
    | stays kept => exact kept.trans state
    | done n recorded unreached reached => exact absurd (short n _ recorded reached) unreached
    | failed n d recorded _ unreached reached => exact absurd (short n d recorded reached) unreached

theorem Moved.retires (h : Moved s v i p base) (e : Evaluated v r w i ms)
    (retires : RecordSafe (v.ctx i) → Retires v r i (v.ctx i) (v.pieceStaged i))
    (filled : ((s.ctx i).area p).state = .filled) (safe : ExtentsSafe s) :
    Retires s w i ((s.ctx i).setArea p ((s.ctx i).refilled p base)) (s.pieceLeft i fun _ => false) := by
  have moved : RecordSafe (v.ctx i) := by
    rw [h.record]
    exact ((extentsSafe_iff s).1 safe i).refilled filled base
  rw [← h.record, pieceLeft_eq, ← h.pieceStaged]
  exact retires_between (retires moved) h.tells e.tells e.progress.1 e.progress.2 e.area

end

/-! ## The command (R109 to R111) -/

section
variable {s : State} {m : RefillCommand}

theorem refillRefusal_none (area : m.area.toNat ≤ 1) (aligned : m.base.toNat % 64 = 0)
    (unqueued : ((s.ctx m.index.toNat).area m.area.toNat).verify ≠ .queued)
    (inactive : ((s.ctx m.index.toNat).area m.area.toNat).verify ≠ .active)
    (writable : s.mayWrite m.base.toNat (windowSize (s.ctx m.index.toNat).windowSelect) = true)
    (path : (s.ctx m.index.toNat).faultedPath m.area.toNat = true ∨
      (((s.ctx m.index.toNat).area m.area.toNat).state = .filled ∧
        (s.ctx m.index.toNat).otherFilledLower m.area.toNat = false)) : s.refillRefusal m = none := by
  rw [← Bool.not_eq_true, faultedPath_iff, otherFilledLower_iff] at path
  unfold State.refillRefusal
  dsimp only
  rw [if_neg (by omega), if_neg (by omega), if_neg (by tauto), if_neg (by tauto), if_neg (by tauto),
    if_neg (by simp [writable])]

theorem exec_refill_passed (fetched : Fetched s) (low : m.index.toNat < 4096)
    (isOpen : (s.ctx m.index.toNat).isOpen = true) (passed : s.refillRefusal m = none) : exec (.refill (s.reply m)) s =
      .next ((s.takeFetched.refillArea m.index.toNat m).finish m.hostTag 4 .ok m.index.toNat) := by
  have none_ : firstFailure (s.takeFetched.refillChecks m.index.toNat m) = none := (refillChecks_eq s m).trans passed
  rw [exec_refill fetched low isOpen, none_]
  rfl

theorem refillArea_normal {i : Nat} (normal : (s.ctx i).faultedPath m.area.toNat = false) :
    s.refillArea i m = (areaMoved s i m.area.toNat m.base.toNat).evaluateRetirement i := by
  unfold State.refillArea
  dsimp only
  rw [normal, if_neg Bool.false_ne_true]
  rfl

/-- By the faulted path the evaluation retires nothing: the context is FAILED (R111). -/
theorem refillArea_faulted {i : Nat} (faulted : (s.ctx i).faultedPath m.area.toNat = true) :
    s.refillArea i m = s.modCtx i fun c => c.setArea m.area.toNat (c.rebased m.area.toNat m.base.toNat) := by
  unfold State.refillArea
  dsimp only
  rw [if_pos faulted]
  have ended : ((s.modCtx i fun c => c.setArea m.area.toNat (c.rebased m.area.toNat m.base.toNat)).ctx i).receiving =
      false := by
    rw [ctx_modCtx_same, receiving_eq, setArea_state, ((faultedPath_iff _ _).1 faulted).1]
    rfl
  unfold State.evaluateRetirement
  rw [evaluateOnce_of_ended ended, evaluateOnce_of_ended ended]

/-- Taking a command moves its area as the state before would have. -/
theorem moved_takeFetched {v : State} {i p base : Nat} (h : Moved s.takeFetched v i p base) : Moved s v i p base :=
  ⟨h.record, h.others, h.staged, h.sorted, h.constrained, h.intake, h.map, h.delivery, h.verify, h.actions, h.groups,
    h.notice⟩

end

/-- Settles O44: the area is moved, the windows at the retired edge retire, and the completion check follows the last of
them; by the faulted path the area alone changes. -/
theorem refillMovesTheArea : Obligations.RefillMovesTheArea := by
  intro m s fetched low isOpen area aligned c a other next unqueued inactive writable
  have passed := refillRefusal_none area aligned unqueued inactive writable
  refine ⟨fun normal filled first => ?_, fun faulted => ?_⟩
  · have path : c.faultedPath m.area.toNat = false := by
      rw [← Bool.not_eq_true, faultedPath_iff]
      exact normal
    have unordered : c.otherFilledLower m.area.toNat = false := by
      rw [← Bool.not_eq_true, otherFilledLower_iff]
      exact first
    have command := exec_refill_passed fetched low isOpen (passed (.inr ⟨filled, unordered⟩))
    have moved := moved_takeFetched (areaMoved_moved s.takeFetched m.index.toNat m.area.toNat m.base.toNat)
    have goes := refillArea_goes s.takeFetched m.index.toNat m
    rw [refillArea_normal (s := s.takeFetched) path] at command goes
    generalize areaMoved s.takeFetched m.index.toNat m.area.toNat m.base.toNat = v at command moved goes
    obtain ⟨r, ms, e, retires⟩ := evaluateRetirement_evaluated v m.index.toNat
    obtain ⟨intake, map, delivery, _, verify, _⟩ := evaluateRetirement_frame v m.index.toNat
    generalize v.evaluateRetirement m.index.toNat = w at command goes e intake map delivery verify
    obtain ⟨key, digest, total, generation⟩ := e.lasting
    obtain ⟨_, total', digest', _, _, key', generation'⟩ := moved.keeps
    have told := tells_finish w m.hostTag 4 .ok m.index.toNat
    have still := moved.still e
    obtain ⟨onBase, delivered, fresh, unsent, sound, unverified, window⟩ := moved.area_after e
    refine ⟨_, command, ⟨by simp, rfl⟩, onBase, delivered, fresh, unsent, sound, unverified, window,
      key.trans key', digest.trans digest', total.trans total', generation.trans generation', still,
      fun n start rises => told.charged (moved.windowTold e start rises),
      fun done undone => completed_finish (moved.completed e done undone) ..,
      fun conserved failed unfailed => failed_finish (moved.failed e conserved failed unfailed) ..,
      fun conserved => checked_finish (moved.checked e conserved) .., fun safe => ?_, fun j ne => ?_,
      map.trans moved.map, delivery.trans moved.delivery, verify.trans moved.verify, intake.trans moved.intake⟩
    · have retired := moved.retires e retires filled safe
      rw [refilled_eq] at retired
      refine retires_between retired (tells_of_same rfl fun _ => rfl) (told.mono ?_) rfl rfl fun _ => rfl
      rintro _ rfl _ _ _ _ _ same
      exact nomatch same
    · obtain ⟨_, turns, _⟩ := goes
      exact congrArg Face.state (turns.other ne)
  · have path : c.faultedPath m.area.toNat = true := (faultedPath_iff ..).2 faulted
    have command := exec_refill_passed fetched low isOpen (passed (.inl path))
    rw [refillArea_faulted (s := s.takeFetched) path] at command
    exact ⟨_, command, ⟨by simp, rfl⟩, (finish_ctx ..).trans (ctx_modCtx_same ..),
      fun j ne => (finish_ctx ..).trans (ctx_modCtx_other s.takeFetched _ ne), rfl, rfl, rfl⟩

end Sys2Proof.Landing
end

section
/-! What a host command on an open context leaves (R7, R171, R172), and the checks of RESTART, REVERIFY, GROUP_JOIN and
GROUP_LEAVE (R145, R151, R153, R162): the statement O45. -/

namespace Sys2Proof.HostControl

open Sys2Proof Sys2Proof.Machine Sys2Proof.Laws Sys2Proof.Contexts Sys2Proof.SegmentIntake Sys2Proof.Landing

/-! ## Commands on an open context -/

section
variable {s : State}

/-- A command that names an open context runs on it, in the state its taking leaves (R7, R171). -/
theorem runCommand_open {α : Type} (fetched : Fetched s) (m : α) (tag : α → BitVec 16) (code : BitVec 8)
    (index : α → BitVec 16) (body : α → Nat → State → State) (low : (index m).toNat < 4096)
    (isOpen : (s.ctx (index m).toNat).isOpen = true) :
    (s.runCommand (s.reply m) fun cmd s => s.onContext (tag cmd) code (index cmd) (body cmd)) =
      body m (index m).toNat s.takeFetched := by
  have resolved := resolve_open s.takeFetched (index m) low isOpen
  refine (runCommand_fetched fetched rfl _).trans ?_
  show s.takeFetched.onContext (tag m) code (index m) (body m) = _
  unfold State.onContext
  rw [resolved]

/-- A check that fails ends the command with its status, and nothing else changes. -/
theorem conclude_refused (s : State) (tag : BitVec 16) (code : BitVec 8) (i : Nat) {failure : Option CmdStatus}
    {status : CmdStatus} (failed : failure = some status) (effect : State → State) :
    s.takeFetched.conclude tag code i failure effect = s.ended tag code status i := by
  rw [failed]
  rfl

/-- Where all checks pass the command takes effect and ends OK. -/
theorem conclude_passed (s : State) (tag : BitVec 16) (code : BitVec 8) (i : Nat) {failure : Option CmdStatus}
    (passed : failure = none) (effect : State → State) :
    s.conclude tag code i failure effect = (effect s).finish tag code .ok i := by
  rw [passed, conclude_none]

theorem exec_adjust (fetched : Fetched s) (m : AdjustCommand) (low : m.index.toNat < 4096)
    (isOpen : (s.ctx m.index.toNat).isOpen = true) : exec (.adjust (s.reply m)) s =
      .next ((s.takeFetched.adjustCtx m.index.toNat m).finish m.hostTag 3 .ok m.index.toNat) :=
  congrArg Host.Outcome.next (runCommand_open fetched m (fun m => m.hostTag) codeAdjust (fun m => m.index) _ low isOpen)

theorem exec_restart (fetched : Fetched s) (m : IndexCommand) (low : m.index.toNat < 4096)
    (isOpen : (s.ctx m.index.toNat).isOpen = true) : exec (.restart (s.reply m)) s =
      .next (s.takeFetched.conclude m.hostTag 5 m.index.toNat (firstFailure (s.ctx m.index.toNat).restartChecks)
        fun u => u.restart m.index.toNat) :=
  congrArg Host.Outcome.next (runCommand_open fetched m (fun m => m.hostTag) codeRestart (fun m => m.index) _ low isOpen)

theorem exec_reverify (fetched : Fetched s) (m : ReverifyCommand) (low : m.index.toNat < 4096)
    (isOpen : (s.ctx m.index.toNat).isOpen = true) : exec (.reverify (s.reply m)) s =
      .next (s.takeFetched.conclude m.hostTag 6 m.index.toNat (firstFailure (s.reverifyChecks m.index.toNat m))
        fun u => u.appendVerify m.index.toNat m.area.toNat) :=
  congrArg Host.Outcome.next (runCommand_open fetched m (fun m => m.hostTag) codeReverify (fun m => m.index) _ low isOpen)

theorem exec_groupJoin (fetched : Fetched s) (m : JoinCommand) (low : m.index.toNat < 4096)
    (isOpen : (s.ctx m.index.toNat).isOpen = true) : exec (.groupJoin (s.reply m)) s =
      .next (s.takeFetched.conclude m.hostTag 8 m.index.toNat (firstFailure (s.joinChecks m.index.toNat m))
        fun u => u.joinGroup m.index.toNat m.group.toNat m.holdOnFailure) :=
  congrArg Host.Outcome.next (runCommand_open fetched m (fun m => m.hostTag) codeGroupJoin (fun m => m.index) _ low isOpen)

theorem exec_groupLeave (fetched : Fetched s) (m : IndexCommand) (low : m.index.toNat < 4096)
    (isOpen : (s.ctx m.index.toNat).isOpen = true) : exec (.groupLeave (s.reply m)) s =
      .next (s.takeFetched.conclude m.hostTag 9 m.index.toNat
        (firstFailure [((s.ctx m.index.toNat).group.isSome, .wrongState)]) fun u => u.leaveGroup m.index.toNat) :=
  congrArg Host.Outcome.next (runCommand_open fetched m (fun m => m.hostTag) codeGroupLeave (fun m => m.index) _ low isOpen)

end

/-! ## The checks -/

theorem areaFaulted_iff (c : Ctx) : c.areaFaulted = true ↔ c.area0.faulted = true ∨ c.area1.faulted = true := by
  simp [Ctx.areaFaulted]

/-- RESTART's checks are R145's table. -/
theorem restartChecks_eq (c : Ctx) : firstFailure c.restartChecks = c.restartRefusal := by
  refine firstFailure_cons (by simp) (firstFailure_cons ?_ rfl)
  rw [Bool.not_eq_true', ← Bool.not_eq_true, areaFaulted_iff]

/-- The length of a window with a total recorded (R97). -/
theorem windowLength_of_some {c : Ctx} {total : Nat} (h : c.totalBytes = some total) (n : Nat) : c.windowLength n =
    if n * windowSize c.windowSelect < total ∧ total < n * windowSize c.windowSelect + windowSize c.windowSelect then
      total - n * windowSize c.windowSelect
    else windowSize c.windowSelect := by
  unfold Ctx.windowLength Ctx.cutsWindow
  rw [h, endBound_of_some h, Nat.succ_mul]
  simp only [Bool.and_eq_true, decide_eq_true_eq]
  rfl

/-- The length of a window with no total recorded (R97). -/
theorem windowLength_of_none {c : Ctx} (h : c.totalBytes = none) (n : Nat) :
    c.windowLength n = windowSize c.windowSelect := by
  unfold Ctx.windowLength Ctx.cutsWindow
  rw [h]
  rfl

/-- REVERIFY's checks are R162's table. -/
theorem reverifyChecks_eq (s : State) (m : ReverifyCommand) :
    firstFailure (s.reverifyChecks m.index.toNat m) = s.reverifyRefusal m := by
  refine firstFailure_cons ?_ (firstFailure_cons ?_ (firstFailure_cons ?_ (firstFailure_cons ?_
    (firstFailure_cons ?_ rfl))))
  case refine_1 => rw [decide_eq_true_eq, Nat.not_lt]
  case refine_2 => simp
  case refine_3 => rw [Bool.not_eq_true', ← Bool.not_eq_true, verifying_iff]
  case refine_4 =>
    rw [Bool.not_eq_false]
    unfold Ctx.areaLength
    cases total : (s.ctx m.index.toNat).totalBytes with
    | none => rw [windowLength_of_none total]
    | some n => rw [windowLength_of_some total]
  case refine_5 => rw [decide_eq_true_eq, Nat.not_le]

/-- GROUP_JOIN's checks are R151's table. -/
theorem joinChecks_eq (s : State) (m : JoinCommand) :
    firstFailure (s.joinChecks m.index.toNat m) = s.joinRefusal m := by
  refine firstFailure_cons ?_ (firstFailure_cons ?_ (firstFailure_cons ?_ (firstFailure_cons ?_ rfl)))
  case refine_1 => rw [decide_eq_true_eq, Nat.not_le]
  case refine_2 => rw [receiving_iff]; tauto
  case refine_3 => simp
  case refine_4 => rw [decide_eq_true_eq, Nat.not_le]

/-- GROUP_LEAVE's one check (R153). -/
theorem leaveChecks_of_none {c : Ctx} (alone : c.group = none) :
    firstFailure [(c.group.isSome, CmdStatus.wrongState)] = some .wrongState := by
  rw [alone]
  rfl

/-- Settles O45: each table of checks is the rule's, and no check reads what the taking of the command changes. -/
theorem contextCommandChecksInOrder : Obligations.ContextCommandChecksInOrder := by
  intro s status fetched
  refine ⟨?restart, ?reverify, ?join, ?leave⟩
  case restart =>
    rintro m ⟨low, isOpen⟩ refused
    rw [exec_restart fetched m low isOpen, conclude_refused _ _ _ _ ((restartChecks_eq _).trans refused)]
  case reverify =>
    rintro m ⟨low, isOpen⟩ refused
    rw [exec_reverify fetched m low isOpen, conclude_refused _ _ _ _ ((reverifyChecks_eq s m).trans refused)]
  case join =>
    rintro m ⟨low, isOpen⟩ refused
    rw [exec_groupJoin fetched m low isOpen, conclude_refused _ _ _ _ ((joinChecks_eq s m).trans refused)]
  case leave =>
    rintro m ⟨low, isOpen⟩ alone
    rw [exec_groupLeave fetched m low isOpen, conclude_refused _ _ _ _ (leaveChecks_of_none alone)]

end Sys2Proof.HostControl
end

section
/-! RESTART and ADJUST (R146, R148): the statements O42 and O46. -/

namespace Sys2Proof.HostControl

open Sys2Proof Sys2Proof.Machine Sys2Proof.Laws Sys2Proof.Contexts Sys2Proof.SegmentIntake Sys2Proof.Landing

/-! ## RESTART (R146) -/

/-- A restart behind the taking of its command, with the command's end, is one of the state before the command. -/
theorem restarted_finish {s w : State} {i : Nat} (h : Restarted s.takeFetched w i) (tag : BitVec 16) (code : BitVec 8)
    (status : CmdStatus) (j : Nat) : Restarted s (w.finish tag code status j) i :=
  have tells := tells_finish w tag code status j
  { active := h.active
    generation := h.generation
    progress := h.progress
    total := h.total
    jobs := h.jobs
    older := h.older
    area0 := h.area0
    area1 := h.area1
    unverified := h.unverified
    queuedAborted := fun q mem own => (h.queuedAborted q mem own).imp_left tells.charged
    activeMarked := h.activeMarked
    activeOther := h.activeOther
    settings := h.settings
    told := fun asked => tells.charged (h.told asked)
    freed := h.freed
    mode := h.mode
    others := h.others
    group := h.group
    otherGroups := h.otherGroups
    otherContexts := h.otherContexts
    rest := h.rest }

theorem restartRefusal_none {c : Ctx} (undone : c.state ≠ .done) (unfaulted0 : c.area0.faulted = false)
    (unfaulted1 : c.area1.faulted = false) : c.restartRefusal = none := by
  simp [Ctx.restartRefusal, undone, unfaulted0, unfaulted1]

/-- Settles O46: the checks pass, and the command's restart is the one a sender signal makes. -/
theorem restartStartsAgain : Obligations.RestartStartsAgain := by
  intro m s fetched conserved low isOpen undone unfaulted0 unfaulted1
  have passed : firstFailure (s.ctx m.index.toNat).restartChecks = none :=
    (restartChecks_eq _).trans (restartRefusal_none undone unfaulted0 unfaulted1)
  have restarted : Restarted s.takeFetched (s.takeFetched.restart m.index.toNat) m.index.toNat :=
    restart_restarted conserved.sorted unfaulted0 unfaulted1
  obtain ⟨_, _, _, taken, _⟩ := restart_rest s.takeFetched m.index.toNat
  rw [exec_restart fetched m low isOpen, conclude_passed _ _ _ _ passed]
  exact ⟨_, rfl, ⟨by simp, rfl⟩, restarted_finish restarted .., restart_signal s.takeFetched _, taken⟩

/-! ## ADJUST (R148) -/

section
variable (c : Ctx) (m : AdjustCommand)

/-- Setting exclusive sets the signal level to 0 (R135). -/
theorem adjusted_signal : (c.adjusted m).signal = (c.signal && !(m.exclusive == some true)) := by
  show (if m.exclusive = some true then false else c.signal) = _
  by_cases named : m.exclusive = some true <;> simp [named]

/-- A named quota is clamped (R86). -/
theorem adjusted_quota : (c.adjusted m).quota = match m.quota with
    | some q => max 1 (min q.toNat 4096)
    | none => c.quota := by
  show (m.quota.map clampQuota).getD c.quota = _
  cases m.quota <;> rfl

/-- The adjusted record, as the statements write it. -/
theorem adjusted_eq : c.adjusted m =
    { c with
      priority := m.priority.getD c.priority, mask := m.mask.getD c.mask, hostHold := m.hostHold.getD c.hostHold
      exclusive := m.exclusive.getD c.exclusive, signal := c.signal && !(m.exclusive == some true)
      stallSelect := m.stallSelect.getD c.stallSelect
      abandonMultiplier := m.abandonMultiplier.getD c.abandonMultiplier
      damageLimit := m.damageLimit.getD c.damageLimit
      quota := (c.adjusted m).quota, timer := (c.adjusted m).timer } := by
  rw [← adjusted_signal]
  rfl

end

/-- The effects of ADJUST on the records: the named context's own, and no other. -/
theorem adjustCtx_ctx (s : State) (i : Nat) (m : AdjustCommand) (j : Nat) :
    (s.adjustCtx i m).ctx j = if j = i then (s.ctx i).adjusted m else s.ctx j :=
  ctx_modCtx s i j fun c => c.adjusted m

/-- Settles O42: one change of the record, and the records judged again where it changed an effective hold. -/
theorem adjustReplacesTheNamedSettings : Obligations.AdjustReplacesTheNamedSettings := by
  intro m s fetched low isOpen c select multiplier
  have judged : Rejudged s.takeFetched (s.takeFetched.adjustCtx m.index.toNat m)
      (s.takeFetched.holdChanged (s.takeFetched.adjustCtx m.index.toNat m)) :=
    rejudgeHolds_rejudged (t := s.takeFetched.modCtx m.index.toNat fun c => c.adjusted m) rfl
  have own := (adjustCtx_ctx s.takeFetched m.index.toNat m m.index.toNat).trans (if_pos rfl)
  have others := fun j (other : j ≠ m.index.toNat) =>
    (adjustCtx_ctx s.takeFetched m.index.toNat m j).trans (if_neg other)
  refine ⟨_, exec_adjust fetched m low isOpen, (finish_ctx ..).trans (own.trans ?_), others, rfl, rfl, judged, rfl, rfl,
    rfl, rfl, rfl, rfl, rfl, rfl, rfl⟩
  rw [adjusted_eq, adjusted_quota]
  rfl

end Sys2Proof.HostControl
end

section
/-! The expiries of the stall timer (R138, R140, R141): the statement O55. -/

namespace Sys2Proof.HostControl

open Sys2Proof Sys2Proof.Machine Sys2Proof.Laws Sys2Proof.Contexts Sys2Proof.SegmentIntake

section
variable {s : State} {i : Nat}

/-- A maskable notice behind a change of its context's record that leaves what notices read: the record is as changed but
for what it is owed, the notice goes out where the mask holds it, and no other record changes (R155, R174, R175). -/
theorem notifyMasked_modCtx (s : State) (i : Nat) {f : Ctx → Ctx}
    (masks : ∀ c, (f c).group = c.group ∧ (f c).mask = c.mask) (owes : ∀ c, (f c).owed = c.owed)
    (holds : NoticeMask → Bool) (k : OwedKind) (n : Notice) :
    ((s.modCtx i f).notifyMasked i holds k n).ctx i =
        { f (s.ctx i) with owed := (((s.modCtx i f).notifyMasked i holds k n).ctx i).owed } ∧
      (if holds (s.effMask i) = true then NoticeGiven s ((s.modCtx i f).notifyMasked i holds k n) i k n
      else NoNotice s ((s.modCtx i f).notifyMasked i holds k n) i) ∧
      ∀ j, j ≠ i → ((s.modCtx i f).notifyMasked i holds k n).ctx j = s.ctx j := by
  have self : (s.modCtx i f).ctx i = f (s.ctx i) := ctx_modCtx_same ..
  have others : ∀ j, j ≠ i → (s.modCtx i f).ctx j = s.ctx j := fun j other => ctx_modCtx_other _ _ other
  have owed : ((s.modCtx i f).ctx i).owed = (s.ctx i).owed := self ▸ owes _
  have mask : (s.modCtx i f).effMask i = s.effMask i := modCtx_effMask s i masks i
  rcases notifyMasked_cases (s.modCtx i f) i holds k n with ⟨eq, masked⟩ | ⟨eq, asked⟩ <;> rw [eq]
  · rw [mask] at masked
    rw [if_neg (by simp [masked]), self]
    exact ⟨rfl, ⟨rfl, owed⟩, others⟩
  · rw [mask] at asked
    rw [if_pos asked]
    refine ⟨?_, ?_, fun j other => (notify_ctx_other _ _ _ _ other).trans (others j other)⟩
    · rw [notify_ctx_self, self]
    · have given := notify_given (s.modCtx i f) i k n
      unfold NoticeGiven at given ⊢
      rw [owed, modCtx_notice] at given
      exact given

/-- A record that has stalled (R140). -/
def stalled (c : Ctx) : Ctx := { c with state := .stalled, timer := fullAbandon c.stallSelect c.abandonMultiplier }

theorem stallExpire_of_due (active : (s.ctx i).state = .active) (due : (s.ctx i).timer = .stall 0) :
    s.stallExpire i = (s.modCtx i stalled).notifyMasked i NoticeMask.stalled .stalled (.stalled i) :=
  if_pos ⟨active, due⟩

theorem stallExpire_of_not_due (h : (s.ctx i).state ≠ .active ∨ (s.ctx i).timer ≠ .stall 0) : s.stallExpire i = s :=
  if_neg (not_and_or.2 h)

theorem abandonExpire_of_due (waits : (s.ctx i).state = .stalled) (due : (s.ctx i).timer = .abandon (some 0)) :
    s.abandonExpire i = s.fail i .timedOut :=
  if_pos ⟨waits, due⟩

theorem abandonExpire_of_not_due (h : (s.ctx i).state ≠ .stalled ∨ (s.ctx i).timer ≠ .abandon (some 0)) :
    s.abandonExpire i = s :=
  if_neg (not_and_or.2 h)

theorem exec_stallExpiry (live : s.resets.held = false) (index : BitVec 12) :
    exec (.stallExpiry index) s = .next (s.stallExpire index.toNat) :=
  congrArg Host.Outcome.next (whenLive_of_live live fun s => s.stallExpire index.toNat)

theorem exec_abandonExpiry (live : s.resets.held = false) (index : BitVec 12) :
    exec (.abandonExpiry index) s = .next (s.abandonExpire index.toNat) :=
  congrArg Host.Outcome.next (whenLive_of_live live fun s => s.abandonExpire index.toNat)

end

/-- Settles O55: the stall expiry is one change of a record and one notice, the abandon expiry a failure. -/
theorem timersExpire : Obligations.TimersExpire := by
  intro s index live i c
  rw [exec_stallExpiry live, exec_abandonExpiry live]
  refine ⟨fun active due => ⟨_, rfl, ?_⟩, fun conserved waits due => ⟨_, rfl, ?_⟩,
    fun idle => congrArg _ (stallExpire_of_not_due idle), fun idle => congrArg _ (abandonExpire_of_not_due idle)⟩
  · obtain ⟨record, told, others⟩ := notifyMasked_modCtx s i (f := stalled) (fun _ => ⟨rfl, rfl⟩)
      (fun _ => rfl) NoticeMask.stalled .stalled (.stalled i)
    obtain ⟨intake, map, staging, delivery, _, groups, verify, command, resets, _⟩ := notifyMasked_frame
      (s.modCtx i stalled) i NoticeMask.stalled .stalled (.stalled i)
    rw [stallExpire_of_due active due]
    exact ⟨record, told, others, staging, delivery, groups, map, verify, command, intake, resets⟩
  · rw [abandonExpire_of_due waits due]
    exact fail_enteredFailed ((receiving_iff _).2 (.inr waits)) conserved.sorted .timedOut

end Sys2Proof.HostControl
end

section
/-! The seats of the contexts in their groups (R149, R150): what the group invariant reads of a record, and how the
counts of a group follow one member from state to state. -/

namespace Sys2Proof.Grouping

open Sys2Proof Sys2Proof.Machine Sys2Proof.Laws Sys2Proof.Contexts Sys2Proof.SegmentIntake

/-- What the group invariant reads of a context's record. -/
structure Seat where
  group : Option Nat
  isOpen : Bool
  done : Bool
  failed : Bool

/-- The seat of a record. -/
def seat (c : Ctx) : Seat := ⟨c.group, c.isOpen, c.state == .done, c.state == .failed⟩

theorem seat_congr {c d : Ctx} (state : d.state = c.state) (group : d.group = c.group) : seat d = seat c := by
  unfold seat
  rw [isOpen_eq, isOpen_eq, state, group]

theorem seat_of_core {c d : Ctx} (h : Contexts.core d = Contexts.core c) : seat d = seat c :=
  show seat (Contexts.core d) = seat (Contexts.core c) from congrArg seat h

/-- ACTIVE and STALLED are one seat. -/
theorem receiving_of_seat {c d : Ctx} (h : seat d = seat c) : d.receiving = c.receiving := by
  have running (a : CtxState) : running a = (openState a && !(a == .done) && !(a == .failed)) := by cases a <;> rfl
  have open_ : openState d.state = openState c.state := congrArg Seat.isOpen h
  have done : (d.state == .done) = (c.state == .done) := congrArg Seat.done h
  have failed : (d.state == .failed) = (c.state == .failed) := congrArg Seat.failed h
  rw [receiving_eq, receiving_eq, running, running, open_, done, failed]

/-- ACTIVE and STALLED are open states, and count in neither DONE nor FAILED (R150). -/
theorem uncounted_of_receiving {c : Ctx} (running : c.receiving = true) :
    c.isOpen = true ∧ c.state ≠ .done ∧ c.state ≠ .failed := by
  rw [isOpen_eq]
  rcases (receiving_iff _).1 running with state | state <;> rw [state] <;> decide

/-- A running record that stays so keeps its seat. -/
theorem seat_of_receiving {c d : Ctx} (before : c.receiving = true) (after : d.receiving = true)
    (group : d.group = c.group) : seat d = seat c := by
  obtain ⟨open_, done, failed⟩ := uncounted_of_receiving before
  obtain ⟨open', done', failed'⟩ := uncounted_of_receiving after
  unfold seat
  rw [group, open_, open', beq_false_of_ne done, beq_false_of_ne done', beq_false_of_ne failed, beq_false_of_ne failed']

/-! ## Members counted -/

/-- How many of some contexts are in a state. -/
def inState (s : State) (a : CtxState) (l : List Nat) : Nat := (l.filter fun i => (s.ctx i).state == a).length

section
variable {s t : State} {a : CtxState} {l : List Nat} {i : Nat}

theorem inState_congr (same : ∀ j ∈ l, ((t.ctx j).state == a) = ((s.ctx j).state == a)) :
    inState t a l = inState s a l := congrArg List.length (List.filter_congr same)

theorem inState_append (s : State) (a : CtxState) (l : List Nat) (i : Nat) :
    inState s a (l ++ [i]) = inState s a l + if (s.ctx i).state = a then 1 else 0 := by
  unfold inState
  rw [List.filter_append, List.length_append]
  by_cases here : (s.ctx i).state = a <;> simp [here]

/-- A count is that of the others and the one. -/
theorem inState_others (once : l.Nodup) (member : i ∈ l) :
    inState s a l = inState s a (l.filter fun j => j != i) + if (s.ctx i).state = a then 1 else 0 := by
  have perm : l.Perm (l.filter (fun j => j != i) ++ [i]) := by
    rw [← once.erase_eq_filter]
    exact (List.perm_cons_erase member).trans (List.perm_append_singleton ..).symm
  rw [← inState_append]
  exact (perm.filter _).length_eq

end

/-- A seat tells who is counted in DONE. -/
theorem done_of_seat {s t : State} (j : Nat) (h : seat (t.ctx j) = seat (s.ctx j)) :
    ((t.ctx j).state == CtxState.done) = ((s.ctx j).state == CtxState.done) := congrArg Seat.done h

/-- A seat tells who is counted in FAILED. -/
theorem failed_of_seat {s t : State} (j : Nat) (h : seat (t.ctx j) = seat (s.ctx j)) :
    ((t.ctx j).state == CtxState.failed) = ((s.ctx j).state == CtxState.failed) := congrArg Seat.failed h

/-! ## What leaves every seat and every group as it is -/

/-- Between two states no context changed its seat, and no group changed. -/
structure Sits (s t : State) : Prop where
  groups : t.groups = s.groups
  seat : ∀ j, seat (t.ctx j) = seat (s.ctx j)

section
variable {s t u : State} {i : Nat}

theorem sits_refl (s : State) : Sits s s := ⟨rfl, fun _ => rfl⟩

theorem Sits.trans (h : Sits s t) (g : Sits t u) : Sits s u :=
  ⟨g.groups.trans h.groups, fun j => (g.seat j).trans (h.seat j)⟩

theorem sits_of_tables (contexts : t.contexts = s.contexts) (groups : t.groups = s.groups) : Sits s t :=
  ⟨groups, fun j => by rw [ctx_of_contexts contexts]⟩

/-- What comes behind and writes neither records nor groups. -/
theorem Sits.beside (h : Sits s t) (contexts : u.contexts = t.contexts) (groups : u.groups = t.groups) : Sits s u :=
  h.trans (sits_of_tables contexts groups)

theorem sits_of_core (h : ∀ j, Contexts.core (t.ctx j) = Contexts.core (s.ctx j))
    (groups : t.groups = s.groups) : Sits s t :=
  ⟨groups, fun j => seat_of_core (h j)⟩

theorem sits_of_set {c : Ctx} (h : t.contexts = Table.set Ctx.free s.contexts i c) (same : seat c = seat (s.ctx i))
    (groups : t.groups = s.groups) : Sits s t := ⟨groups, fun j => by
  rw [ctx_of_set h]
  split
  · next own => rw [own, same]
  · rfl⟩

theorem sits_modCtx (s : State) (i : Nat) {f : Ctx → Ctx} (same : ∀ c, seat (f c) = seat c) : Sits s (s.modCtx i f) :=
  sits_of_set (i := i) rfl (same _) rfl

theorem sits_of_owedOnly (h : OwedOnly s t) (groups : t.groups = s.groups) : Sits s t :=
  ⟨groups, fun j => by rw [h.record]; rfl⟩

theorem Sits.receiving (h : Sits s t) (running : (s.ctx i).receiving = true) : (t.ctx i).receiving = true :=
  (receiving_of_seat (h.seat i)).trans running

theorem Sits.safe (h : Sits s t) (safe : GroupSafe s) : GroupSafe t := by
  have group : ∀ g, t.group g = s.group g := group_of_groups h.groups
  have field : ∀ j, (t.ctx j).group = (s.ctx j).group := fun j => congrArg Seat.group (h.seat j)
  have isOpen : ∀ j, (t.ctx j).isOpen = (s.ctx j).isOpen := fun j => congrArg Seat.isOpen (h.seat j)
  constructor
  case done =>
    intro g; rw [group]; exact (safe.done g).trans (inState_congr fun j _ => done_of_seat j (h.seat j)).symm
  case failed =>
    intro g; rw [group]; exact (safe.failed g).trans (inState_congr fun j _ => failed_of_seat j (h.seat j)).symm
  case once => intro g; rw [group]; exact safe.once g
  case limit => intro g; rw [group]; exact safe.limit g
  case field => intro i g; rw [group, field]; exact safe.field i g
  case open_ => intro g i mem; rw [group] at mem; rw [isOpen]; exact safe.open_ g i mem

theorem safe_of_tables (safe : GroupSafe s) (contexts : t.contexts = s.contexts) (groups : t.groups = s.groups) :
    GroupSafe t := (sits_of_tables contexts groups).safe safe

end

/-! ## One context that changes its seat -/

/-- The counts of a group after a member went from one state to another (R156). -/
def recounted (g : Group) (before after : CtxState) : Group :=
  { g with
    done := g.done - (if before = .done then 1 else 0) + if after = .done then 1 else 0
    failed := g.failed - (if before = .failed then 1 else 0) + if after = .failed then 1 else 0 }

section
variable {s t : State} {i : Nat}

/-- A context goes to another state, and is counted there if it is in a group. -/
structure Recounts (s t : State) (i : Nat) : Prop where
  group : (t.ctx i).group = (s.ctx i).group
  isOpen : ∀ g, (s.ctx i).group = some g → (t.ctx i).isOpen = true
  others : ∀ j, j ≠ i → seat (t.ctx j) = seat (s.ctx j)
  groups : ∀ h, t.group h =
    if (s.ctx i).group = some h then recounted (s.group h) (s.ctx i).state (t.ctx i).state else s.group h

theorem Recounts.members (h : Recounts s t i) (g : Nat) : (t.group g).members = (s.group g).members := by
  rw [h.groups]
  split <;> rfl

theorem Recounts.field (h : Recounts s t i) (j : Nat) : (t.ctx j).group = (s.ctx j).group := by
  by_cases own : j = i
  · rw [own]; exact h.group
  · exact congrArg Seat.group (h.others j own)

/-- A count over a group's members: the context that moved is one of them, or it is not. -/
theorem Recounts.counts (h : Recounts s t i) (safe : GroupSafe s) (g : Nat) {a : CtxState}
    (counted : ∀ j, seat (t.ctx j) = seat (s.ctx j) → ((t.ctx j).state == a) = ((s.ctx j).state == a)) :
    inState t a (s.group g).members =
      if (s.ctx i).group = some g then
        inState s a (s.group g).members - (if (s.ctx i).state = a then 1 else 0) + if (t.ctx i).state = a then 1 else 0
      else inState s a (s.group g).members := by
  split
  · next own =>
    have member := (safe.field i g).1 own
    have rest : inState t a ((s.group g).members.filter fun j => j != i) =
        inState s a ((s.group g).members.filter fun j => j != i) :=
      inState_congr fun j mem => counted j (h.others j (by simpa using (List.mem_filter.1 mem).2))
    rw [inState_others (s := t) (safe.once g) member, inState_others (s := s) (safe.once g) member, rest]
    omega
  · next other =>
    have absent : ∀ j ∈ (s.group g).members, j ≠ i := fun j mem e => other ((safe.field i g).2 (e ▸ mem))
    exact inState_congr fun j mem => counted j (h.others j (absent j mem))

theorem Recounts.safe (h : Recounts s t i) (safe : GroupSafe s) : GroupSafe t := by
  constructor
  case done =>
    intro g
    rw [h.members]
    show _ = inState t .done _
    rw [h.counts safe g done_of_seat, h.groups]
    split
    · exact congrArg (fun n => n - _ + _) (safe.done g)
    · exact safe.done g
  case failed =>
    intro g
    rw [h.members]
    show _ = inState t .failed _
    rw [h.counts safe g failed_of_seat, h.groups]
    split
    · exact congrArg (fun n => n - _ + _) (safe.failed g)
    · exact safe.failed g
  case once => intro g; rw [h.members]; exact safe.once g
  case limit => intro g; rw [h.members]; exact safe.limit g
  case field => intro j g; rw [h.members, h.field]; exact safe.field j g
  case open_ =>
    intro g j mem
    rw [h.members] at mem
    by_cases own : j = i
    · rw [own] at mem ⊢
      exact h.isOpen g ((safe.field i g).2 mem)
    · exact (congrArg Seat.isOpen (h.others j own)).trans (safe.open_ g j mem)

/-- A context that is FREE or CLOSING is in no group. -/
theorem group_of_shut (safe : GroupSafe s) (shut : (s.ctx i).isOpen = false) : (s.ctx i).group = none := by
  refine Option.eq_none_iff_forall_ne_some.2 fun g own => ?_
  rw [safe.open_ g i ((safe.field i g).1 own)] at shut
  cases shut

/-- The record of a context outside the groups is written, and it stays outside. -/
theorem safe_outside (safe : GroupSafe s) {c : Ctx} (h : t.contexts = Table.set Ctx.free s.contexts i c)
    (groups : t.groups = s.groups) (before : (s.ctx i).group = none) (after : c.group = none) : GroupSafe t := by
  have written := ctx_of_set h
  refine Recounts.safe (i := i) ⟨?_, fun g own => ?_, fun j other => ?_, fun g => ?_⟩ safe
  · rw [written, if_pos rfl, before, after]
  · exact absurd (before.symm.trans own) (by simp)
  · rw [written, if_neg other]
  · rw [before, if_neg (by simp), group_of_groups groups]

/-- A reset frees every context and empties every group (R1, R149). -/
theorem safe_of_reset (contexts : t.contexts = []) (groups : t.groups = []) : GroupSafe t := by
  have ctx : ∀ j, t.ctx j = Ctx.free := fun j => by unfold State.ctx; rw [contexts]; rfl
  have group : ∀ g, t.group g = Group.unused := fun g => by unfold State.group; rw [groups]; rfl
  constructor
  case done => intro g; rw [group]; rfl
  case failed => intro g; rw [group]; rfl
  case once => intro g; rw [group]; exact List.nodup_nil
  case limit => intro g; rw [group]; exact Nat.zero_le _
  case field => intro i g; rw [group, ctx]; exact ⟨nofun, nofun⟩
  case open_ => intro g i mem; rw [group] at mem; cases mem

end

end Sys2Proof.Grouping
end

section
/-! The operations that change no seat, and those that recount a member: failure, completion, restart, and the end of a
job (R20 to R24, R123, R143, R146, R156). -/

namespace Sys2Proof.Grouping

open Sys2Proof Sys2Proof.Machine Sys2Proof.Laws Sys2Proof.Contexts Sys2Proof.SegmentIntake

/-! ## Notices, timers, verify requests, delivery -/

section
variable (s : State) (i : Nat)

theorem sits_notify (k : OwedKind) (n : Notice) : Sits s (s.notify i k n) :=
  sits_of_owedOnly (owedOnly_notify ..) (by simp)

theorem sits_notifyMasked (h : NoticeMask → Bool) (k : OwedKind) (n : Notice) : Sits s (s.notifyMasked i h k n) :=
  sits_of_owedOnly (owedOnly_notifyMasked ..) (by simp)

theorem sits_queueRollup : Sits s s.queueRollup := by
  unfold State.queueRollup
  split
  · exact sits_refl s
  · split
    · exact sits_refl s
    · exact sits_of_set rfl rfl rfl

theorem sits_tick : Sits s s.tick := ⟨rfl, fun j => by rw [ctx_tick]; rfl⟩

theorem sits_adjustCtx (m : AdjustCommand) : Sits s (s.adjustCtx i m) :=
  (sits_modCtx s i (f := fun c => c.adjusted m) fun _ => rfl).beside rfl rfl

/-- A stall goes from ACTIVE to STALLED, which a group does not tell apart (R140, R150). -/
theorem sits_stallExpire : Sits s (s.stallExpire i) := by
  rcases stallExpire_cases s i with eq | ⟨active, _, eq⟩ <;> rw [eq]
  · exact sits_refl s
  · have running : (s.ctx i).receiving = true := (receiving_iff _).2 (.inl active)
    have stalled : Sits s (s.modCtx i HostControl.stalled) :=
      sits_of_set (i := i) (c := HostControl.stalled (s.ctx i)) rfl (seat_of_receiving running rfl rfl) rfl
    exact stalled.trans (sits_notifyMasked ..)

theorem sits_verifyOutcome (r : VerifyRequest) (o : VerifyOutcome) : Sits s (s.verifyOutcome r o) :=
  sits_of_core (core_verifyOutcome s r o) (by simp)

theorem sits_startVerify (l : List VerifyRequest) : Sits s (startVerify l s) :=
  sits_of_core (core_startVerify l s) (by simp)

theorem sits_nextVerify (l : List VerifyRequest) : Sits s (s.nextVerify l) :=
  sits_of_core (core_nextVerify s l) (by simp)

theorem sits_abortVerify (byClose : Bool) : Sits s (s.abortVerify i byClose) :=
  sits_of_core (core_abortVerify s i byClose) (by simp)

theorem sits_endVerify (r : VerifyRequest) (rest : List VerifyRequest) (o : VerifyOutcome) :
    Sits s (s.endVerify r rest o) :=
  Sits.trans (t := { s with verify := rest }) (sits_of_tables rfl rfl)
    ((sits_verifyOutcome ..).trans (sits_nextVerify ..))

theorem sits_takeReadReturn (ret : ReadReturn) : Sits s (s.takeReadReturn ret) := by
  unfold State.takeReadReturn State.takeRead
  dsimp only
  split
  · exact sits_refl s
  · split
    · split
      · exact sits_endVerify ..
      · split
        · exact sits_endVerify ..
        · cases ret with
          | fault => exact sits_endVerify ..
          | ok data =>
            dsimp only
            split
            · exact sits_endVerify ..
            · exact sits_startVerify ..
    · exact sits_refl s

theorem sits_appendVerify (p : Nat) : Sits s (s.appendVerify i p) := by
  have queued : Sits s (s.setVerify i p .queued) := sits_of_core (core_setVerify s i p · .queued) (by simp)
  unfold State.appendVerify
  dsimp only
  split
  · exact queued.trans (sits_startVerify ..)
  · exact queued.beside rfl rfl

theorem sits_release (gone : Nat × StagedRecord → Bool) : Sits s (s.release i gone) := sits_of_set (i := i) rfl rfl rfl

theorem sits_lowerCounts (older : Bool) : Sits s (s.lowerCounts i older) :=
  sits_of_set (i := i) rfl (by dsimp only; split <;> rfl) rfl

theorem sits_cleaned (r : Nat) (j : Job) : Sits s (cleaned s r j) := by
  have ended : Sits s (s.releaseRecord j.owner r) := sits_release ..
  unfold cleaned State.clearFence
  dsimp only
  split
  · exact ended.trans (sits_of_set (i := j.owner) rfl rfl rfl)
  · exact ended.beside rfl rfl

theorem sits_grantOne : Sits s s.grantOne := by
  unfold State.grantOne
  split
  · split
    · exact sits_refl s
    · split
      · exact sits_refl s
      · split
        · exact sits_refl s
        · exact sits_of_set rfl rfl rfl
  · exact sits_refl s

/-! ## Areas -/

theorem sits_trimAreas : Sits s (s.trimAreas i) := sits_of_core (core_trimAreas s i) (by simp)

theorem sits_retireWindow (n : Nat) : Sits s (s.retireWindow i n) := by
  have retired : Sits s (windowRetired s i n) :=
    sits_modCtx s i fun c => seat_congr (by simp [advanced]) (by simp [advanced])
  rw [retireWindow_eq]
  exact retired.trans (sits_notify ..)

/-- A running context that is revived is ACTIVE (R139). -/
theorem sits_revive {s : State} {i : Nat} (running : (s.ctx i).receiving = true) : Sits s (s.revive i) := by
  have revived : Sits s (s.modCtx i revived) :=
    sits_of_set (i := i) (c := revived (s.ctx i)) rfl (seat_of_receiving running rfl rfl) rfl
  rw [revive_eq]
  split
  · exact revived.trans (sits_notifyMasked ..)
  · exact revived

theorem sits_signalled (level : Bool) : Sits s (signalled s i level) := by
  have told : Sits s (signalTold s i level) :=
    Sits.trans (t := leveled s i level) (sits_modCtx s i fun _ => rfl)
      (sits_of_owedOnly (signalTold_owedOnly ..) (signalTold_frame s i level).groups)
  exact told.beside rfl rfl

end

/-! ## Failure, completion, restart -/

section
variable {s : State} (safe : GroupSafe s) (i : Nat)
include safe

theorem safe_fail (cause : FailCause) : GroupSafe (s.fail i cause) := by
  by_cases running : (s.ctx i).receiving = true
  · have group := fun j => (congrArg Prod.fst (fail_holdFields running cause j) :)
    have turns := fail_running s i cause running
    have state : ((s.fail i cause).ctx i).state = .failed := turns.state
    refine Recounts.safe (i := i) ⟨group i, fun g _ => ?_, fun j other => ?_, fun h => ?_⟩ safe
    · rw [isOpen_eq, state]
      rfl
    · exact seat_congr (congrArg Face.state (turns.other other)) (group j)
    · rw [fail_group running, state]
      rcases (receiving_iff _).1 running with before | before <;> rw [before] <;> rfl
  · have same : s.fail i cause = s := if_neg running
    rw [same]
    exact safe

theorem safe_completionCheck : GroupSafe (s.completionCheck i) := by
  by_cases running : (s.ctx i).receiving = true
  · unfold State.completionCheck
    dsimp only
    split
    · next n _ _ =>
      split
      · split
        · show GroupSafe ((doneTold s i n).memberDone i)
          have entered : OwedOnly (doneEntered s i) ((doneTold s i n).memberDone i) :=
            (owedOnly_notify ..).trans (memberDone_owedOnly ..)
          have state : (((doneTold s i n).memberDone i).ctx i).state = .done := by rw [done_record]
          refine Recounts.safe (i := i) ⟨by rw [done_record], fun g _ => ?_, fun j other => ?_, fun h => ?_⟩ safe
          · rw [isOpen_eq, state]
            rfl
          · rw [entered.record, doneEntered_ctx, if_neg other]
            rfl
          · rw [memberDone_group, doneTold_group, doneTold_groups, state]
            rcases (receiving_iff _).1 running with before | before <;> rw [before] <;> rfl
        · exact safe_fail safe i _
      · exact safe
    · exact safe
    · exact safe
  · rw [SegmentIntake.completionCheck_of_ended (by simpa using running)]
    exact safe

theorem safe_evaluateOnce : GroupSafe (s.evaluateOnce i) := by
  unfold State.evaluateOnce
  dsimp only
  split
  · have retired := (sits_retireWindow s i ((s.ctx i).retired / (s.ctx i).w)).safe safe
    split
    · exact safe_completionCheck retired i
    · exact retired
  · exact safe

theorem safe_evaluateRetirement : GroupSafe (s.evaluateRetirement i) := safe_evaluateOnce (safe_evaluateOnce safe i) i

/-- A restart of a context that is not DONE: a FAILED one is no longer counted so (R145, R156). -/
theorem safe_restart (undone : (s.ctx i).state ≠ .done) : GroupSafe (s.restart i) := by
  obtain ⟨_, _, _, record⟩ := restart_record s i
  have state : ((s.restart i).ctx i).state = .active := by rw [record]
  refine Recounts.safe (i := i) ⟨by rw [record], fun g _ => ?_, fun j other => ?_, fun h => ?_⟩ safe
  · rw [isOpen_eq, state]
    rfl
  · exact seat_of_core (restart_core_other s i other)
  · rw [restart_group, state]
    unfold recounted
    rw [if_neg undone]
    by_cases failed : (s.ctx i).state = .failed <;> simp [failed]

theorem safe_signalStage (undone : (s.ctx i).state ≠ .done) (level : Bool) : GroupSafe (s.signalStage i level).1 := by
  cases shared : (s.ctx i).exclusive with
  | true =>
    have same : s.signalStage i level = (s, false) := by unfold State.signalStage; exact if_pos shared
    rw [same]
    exact safe
  | false =>
    have signalled := (sits_signalled s i level).safe safe
    rw [signalStage_eq shared]
    split
    · exact safe_restart signalled i (by rw [signalled_record]; exact undone)
    · exact signalled

/-! ## The end of a job (R123) -/

theorem safe_freeIfIdle (closing : (s.ctx i).state = .closing) : GroupSafe (s.freeIfIdle i) := by
  rcases freeIfIdle_cases s i with ⟨eq, _⟩ | ⟨eq, _⟩ <;> rw [eq]
  · exact safe_outside (i := i) (c := Ctx.free) safe rfl rfl (group_of_shut safe (by rw [isOpen_eq, closing]; rfl)) rfl
  · exact safe

theorem safe_outcome (r : Nat) (j : Job) : GroupSafe (outcome s r j) := by
  have lowered := (sits_lowerCounts s j.owner j.older).safe safe
  unfold outcome State.handleFault State.handleOk
  dsimp only
  split
  · split
    · exact lowered
    · have marked : GroupSafe ((s.lowerCounts j.owner j.older).markFaulted j.owner j) :=
        (sits_of_core (core_markFaulted _ j.owner j) rfl).safe lowered
      split
      · exact marked
      · exact safe_fail marked j.owner _
  · split
    · exact lowered
    · exact (sits_of_core (core_takePieces _ j.owner _) (by simp)).safe lowered

theorem safe_completeJob (r : Nat) (j : Job) : GroupSafe (s.completeJob r j) := by
  have ended := (sits_cleaned _ r j).safe (safe_outcome safe r j)
  have evaluated : GroupSafe (evaluated s r j) := by
    unfold Contexts.evaluated
    split
    · exact ended
    · exact safe_evaluateRetirement ended j.owner
  rw [completeJob_eq]
  split
  · next closing => exact safe_freeIfIdle evaluated j.owner closing
  · exact evaluated

end

end Sys2Proof.Grouping
end

section
/-! Joining, leaving, OPEN and CLOSE (R14, R19, R152, R153) keep the group invariant. -/

namespace Sys2Proof.Grouping

open Sys2Proof Sys2Proof.Machine Sys2Proof.Laws Sys2Proof.Contexts Sys2Proof.SegmentIntake

/-! ## What a joining does (R152) -/

/-- A group after a context has joined it: one not in use comes into use with the command's flag. -/
def enlarged (g : Group) (i : Nat) (hold : Bool) : Group :=
  if g.members = [] then { members := [i], holdOnFailure := hold, done := 0, failed := 0 }
  else { g with members := g.members ++ [i] }

theorem enlarged_members (g : Group) (i : Nat) (hold : Bool) : (enlarged g i hold).members = g.members ++ [i] := by
  unfold enlarged
  split
  · next unused => rw [unused]; rfl
  · rfl

/-- An empty group has counted none, so a joining keeps its counts. -/
theorem enlarged_counts {g : Group} (unused : g.members = [] → g.done = 0 ∧ g.failed = 0) (i : Nat) (hold : Bool) :
    (enlarged g i hold).done = g.done ∧ (enlarged g i hold).failed = g.failed := by
  unfold enlarged
  split
  · next empty => exact ⟨(unused empty).1.symm, (unused empty).2.symm⟩
  · exact ⟨rfl, rfl⟩

/-- The group and the context's field as a joining writes them, before records are judged again. -/
def joined (s : State) (i g : Nat) (hold : Bool) : State :=
  (s.setGroup g (enlarged (s.group g) i hold)).modCtx i fun c => { c with group := some g }

section
variable (s : State) (i g : Nat) (hold : Bool)

theorem joinGroup_eq : s.joinGroup i g hold = (joined s i g hold).rejudgeHolds s := by
  unfold State.joinGroup joined enlarged
  simp only [List.isEmpty_iff]

theorem joinGroup_ctx (j : Nat) : (s.joinGroup i g hold).ctx j =
    if j = i then { s.ctx i with group := some g } else s.ctx j := by
  rw [joinGroup_eq, rejudgeHolds_ctx]
  exact ctx_modCtx ..

theorem joinGroup_group (h : Nat) : (s.joinGroup i g hold).group h =
    if h = g then enlarged (s.group g) i hold else s.group h := by
  rw [joinGroup_eq]
  exact group_setGroup ..

end

/-! ## Members that come and go -/

section
variable {s t : State} {i : Nat}

/-- Counts, where no context changed its state. -/
theorem inState_of_states (states : ∀ j, (t.ctx j).state = (s.ctx j).state) (a : CtxState) (l : List Nat) :
    inState t a l = inState s a l := inState_congr fun j _ => by rw [states]

/-- A context that joins is running, and so counted neither in DONE nor in FAILED (R151). -/
theorem safe_joinGroup (safe : GroupSafe s) {g : Nat} (running : (s.ctx i).receiving = true)
    (alone : (s.ctx i).group = none) (room : (s.group g).members.length < Config.groupLimit) (hold : Bool) :
    GroupSafe (s.joinGroup i g hold) := by
  have ctx := joinGroup_ctx s i g hold
  have group := joinGroup_group s i g hold
  generalize s.joinGroup i g hold = t at ctx group
  have states : ∀ j, (t.ctx j).state = (s.ctx j).state := fun j => by
    rw [ctx]
    split
    · next own => rw [own]
    · rfl
  have absent : ∀ h, i ∉ (s.group h).members := fun h mem =>
    absurd (alone.symm.trans ((safe.field i h).2 mem)) (by simp)
  have unused : (s.group g).members = [] → (s.group g).done = 0 ∧ (s.group g).failed = 0 := fun empty =>
    ⟨by rw [safe.done, empty]; rfl, by rw [safe.failed, empty]; rfl⟩
  obtain ⟨done, failed⟩ := enlarged_counts unused i hold
  obtain ⟨isOpen, undone, unfailed⟩ := uncounted_of_receiving running
  have added : ∀ a, (s.ctx i).state ≠ a →
      inState t a ((s.group g).members ++ [i]) = inState s a (s.group g).members := fun a other => by
    rw [inState_of_states states, inState_append, if_neg other]
    rfl
  constructor
  case done =>
    intro h
    rw [group]
    split
    · rw [enlarged_members, done]
      exact (safe.done g).trans (added .done undone).symm
    · exact (safe.done h).trans (inState_of_states states ..).symm
  case failed =>
    intro h
    rw [group]
    split
    · rw [enlarged_members, failed]
      exact (safe.failed g).trans (added .failed unfailed).symm
    · exact (safe.failed h).trans (inState_of_states states ..).symm
  case once =>
    intro h
    rw [group]
    split
    · rw [enlarged_members]
      exact List.nodup_append.2 ⟨safe.once g, List.nodup_singleton i, fun j mem k own e =>
        absent g (List.mem_singleton.1 own ▸ e ▸ mem)⟩
    · exact safe.once h
  case limit =>
    intro h
    rw [group]
    split
    · rw [enlarged_members, List.length_append]
      exact room
    · exact safe.limit h
  case field =>
    intro j h
    rw [ctx, group]
    by_cases own : j = i
    · rw [if_pos own, own]
      split
      · next e => simp [enlarged_members, e]
      · next e => simp [absent h, Ne.symm e]
    · rw [if_neg own, safe.field]
      split
      · next e => simp [enlarged_members, e, own]
      · rfl
  case open_ =>
    intro h j mem
    rw [isOpen_eq, states, ← isOpen_eq]
    rw [group] at mem
    split at mem
    · rw [enlarged_members] at mem
      rcases List.mem_append.1 mem with old | new
      · exact safe.open_ g j old
      · rw [List.mem_singleton.1 new]
        exact isOpen
    · exact safe.open_ h j mem

/-- A context that leaves is taken off the count of its state (R153). -/
theorem safe_leaveGroup (safe : GroupSafe s) (i : Nat) : GroupSafe (s.leaveGroup i) := by
  cases hg : (s.ctx i).group with
  | none => rw [leaveGroup_of_none hg]; exact safe
  | some g =>
  have group := leaveGroup_group s i
  have record := core_leaveGroup s i
  generalize s.leaveGroup i = t at group record
  have states : ∀ j, (t.ctx j).state = (s.ctx j).state := fun j => by
    have kept := congrArg Ctx.state (record j)
    split at kept
    · next own => rw [own] at kept ⊢; exact kept
    · exact kept
  have own : (t.ctx i).group = none := by
    have kept := congrArg Ctx.group (record i)
    rw [if_pos rfl] at kept
    exact kept
  have others : ∀ j, j ≠ i → (t.ctx j).group = (s.ctx j).group := fun j other => by
    have kept := congrArg Ctx.group (record j)
    rw [if_neg other] at kept
    exact kept
  have members : ∀ h, (t.group h).members = (s.group h).members.filter fun j => j != i := fun h => by
    rw [group]
    split
    · exact without_members ..
    · next other =>
      refine (List.filter_eq_self.2 fun j mem => bne_iff_ne.2 fun e => other ?_).symm
      exact (safe.field i h).2 (e ▸ mem)
  have lowered : ∀ h a n, (s.ctx i).group = some h → n = inState s a (s.group h).members →
      (if (s.ctx i).state = a then n - 1 else n) = inState t a ((s.group h).members.filter fun j => j != i) := by
    rintro h a n at_ rfl
    rw [inState_of_states states, inState_others (safe.once h) ((safe.field i h).1 at_)]
    split <;> omega
  constructor
  case done =>
    intro h
    by_cases at_ : (s.ctx i).group = some h
    · rw [members, group, if_pos at_, without_eq]
      split
      · next empty => rw [empty]; rfl
      · exact lowered h .done _ at_ (safe.done h)
    · rw [group, if_neg at_]
      exact (safe.done h).trans (inState_of_states states ..).symm
  case failed =>
    intro h
    by_cases at_ : (s.ctx i).group = some h
    · rw [members, group, if_pos at_, without_eq]
      split
      · next empty => rw [empty]; rfl
      · exact lowered h .failed _ at_ (safe.failed h)
    · rw [group, if_neg at_]
      exact (safe.failed h).trans (inState_of_states states ..).symm
  case once => intro h; rw [members]; exact (safe.once h).filter _
  case limit => intro h; rw [members]; exact (List.length_filter_le ..).trans (safe.limit h)
  case field =>
    intro j h
    rw [members, List.mem_filter]
    by_cases same : j = i
    · rw [same, own]; simp
    · rw [others j same, safe.field]; simp [same]
  case open_ =>
    intro h j mem
    rw [members] at mem
    rw [isOpen_eq, states]
    exact safe.open_ h j (List.mem_filter.1 mem).1

end

/-! ## OPEN and CLOSE -/

section
variable {s : State} (safe : GroupSafe s)
include safe

theorem safe_runOpen (m : OpenCommand) : GroupSafe (s.runOpen m) := by
  rcases runOpen_cases s m with ⟨status, eq⟩ | ⟨i, eq, _, free, _⟩ <;> rw [eq]
  · exact safe_of_tables safe rfl rfl
  · exact safe_outside (i := i) (c := OpenCommand.record m) safe rfl rfl
      (group_of_shut safe (by rw [isOpen_eq, free]; rfl)) rfl

/-- A CLOSE takes the context out of its group before its record leaves the open states (R19). -/
theorem safe_closeCtx (i : Nat) : GroupSafe (s.closeCtx i) := by
  obtain ⟨_, contexts, _, _, _, groups, _⟩ := keyless_frame s i
  have unverified : Sits s (unverified s i) :=
    ((sits_of_tables contexts groups).trans (sits_release ..)).trans (sits_abortVerify ..)
  have unlinked : GroupSafe (unlinked s i) := safe_leaveGroup (unverified.safe safe) i
  have alone : ((Contexts.unlinked s i).ctx i).group = none := by
    have record := congrArg Ctx.group (core_leaveGroup (Contexts.unverified s i) i i)
    rw [if_pos rfl] at record
    exact record
  have closing : GroupSafe (closing s i) :=
    safe_outside (i := i) (c := { (Contexts.unlinked s i).ctx i with state := .closing, timer := .stopped }) unlinked
      rfl rfl alone alone
  rw [closeCtx_eq]
  exact safe_freeIfIdle closing i (closing_turns s i).state

end

end Sys2Proof.Grouping
end

section
/-! Segments, reports, commands and the idle step keep the group invariant: the statement O10. -/

namespace Sys2Proof.Grouping

open Sys2Proof Sys2Proof.Machine Sys2Proof.Laws Sys2Proof.Contexts Sys2Proof.SegmentIntake Sys2Proof.Storage

/-- Behind the signal stage a context is running if it was, or if the stage restarted it (R34, R136). -/
theorem signalStage_receiving {s : State} {i : Nat} {level : Bool}
    (h : (s.ctx i).receiving = true ∨ (s.signalStage i level).2 = true) :
    ((s.signalStage i level).1.ctx i).receiving = true := by
  rcases signalStage_cases s i level with ⟨stayed, faces⟩ | ⟨_, v, restarted, _⟩
  · rw [receiving_eq, ← face_state, faces]
    exact h.resolve_right (by simp [stayed])
  · rw [restarted, receiving_eq, (restart_turns v i).state]
    rfl

/-! ## Segments -/

section
variable {s : State} (safe : GroupSafe s) (i : Nat)
include safe

/-- The commit gathers, stages and revives (R39). -/
theorem safe_commit (running : (s.ctx i).receiving = true) (g : DataSegment) : GroupSafe (s.commit i g) := by
  have gathered : Sits s (gathered s i g) :=
    sits_modCtx s i (f := fun c => c.received (c.newRangesOf g) (c.piecesFor g)) fun _ => rfl
  have whole : Sits s (gatheredWhole s i g) := by
    rw [gatheredWhole_eq]
    split
    · exact (gathered.trans (sits_modCtx _ i (f := fun c => { c with total := .implied (DataSegment.stop g) })
        fun _ => rfl)).trans (sits_trimAreas ..)
    · exact gathered
  have staged : Sits s ((gatheredWhole s i g).stage i (DataSegment.start g) g.payload ((s.ctx i).piecesFor g)) :=
    whole.trans (sits_of_set (i := i) rfl rfl rfl)
  rw [commit_eq]
  exact (staged.trans (sits_revive (staged.receiving running))).safe safe

theorem safe_rangeStage (running : (s.ctx i).receiving = true) (g : DataSegment) :
    GroupSafe (s.rangeStage i g).state := by
  unfold State.rangeStage State.trimStage
  split
  · exact safe_fail safe i _
  · exact safe
  · dsimp only
    split
    · exact (sits_revive running).safe safe
    · split
      · exact safe
      · split
        · exact safe
        · exact safe_commit safe i running g

theorem safe_manifestStage (running : (s.ctx i).receiving = true) (g : ManifestSegment) :
    GroupSafe (s.manifestStage i g).state := by
  unfold State.manifestStage
  split
  · exact (sits_revive running).safe safe
  · have announced : Sits s (announced s i g) :=
      sits_modCtx s i (f := fun c => { c with total := .manifest g.total.toNat (ManifestSegment.expected g) })
        fun _ => rfl
    have revived := announced.trans (sits_revive (announced.receiving running))
    have noted : Sits s (manifestNoted s i g) := by
      unfold manifestNoted
      split
      · exact revived.trans (sits_trimAreas ..)
      · exact revived
    show GroupSafe (s.recordManifest i g)
    rw [recordManifest_eq]
    exact safe_completionCheck (safe_evaluateRetirement (noted.safe safe) i) i
  · exact safe_fail safe i _

theorem safe_countDamaged : GroupSafe (s.countDamaged i) := by
  have counted := (sits_modCtx s i (f := fun c => { c with damaged := min 255 (c.damaged + 1) }) fun _ => rfl).safe safe
  unfold State.countDamaged
  dsimp only
  split
  · exact safe_fail counted i _
  · exact counted

theorem safe_countUnmatched (link : BitVec 2) (key : Key) : GroupSafe (s.countUnmatched link key) := by
  rw [countUnmatched_eq]
  exact safe_of_tables safe rfl rfl

/-- The signal stage of a context that is ACTIVE, STALLED or FAILED, and a stage behind it that needs a running one. -/
theorem safe_behindSignal (undone : (s.ctx i).state ≠ .done) (level : Bool) (stage : State → Answer)
    (kept : ∀ u : State, GroupSafe u → (u.ctx i).receiving = true → GroupSafe (stage u).state)
    (h : (s.ctx i).receiving = true ∨ (s.signalStage i level).2 = true) :
    GroupSafe (stage (s.signalStage i level).1).state :=
  kept _ (safe_signalStage safe i undone level) (signalStage_receiving h)

theorem safe_dataStages (g : DataSegment) : GroupSafe (s.dataStages i g).state := by
  have behind (undone : (s.ctx i).state ≠ .done) := safe_behindSignal safe i undone g.signal
    (fun u => u.rangeStage i g) fun u before running => safe_rangeStage before i running g
  by_cases running : (s.ctx i).receiving = true
  · have undone : (s.ctx i).state ≠ .done := by
      rcases (receiving_iff _).1 running with state | state <;> rw [state] <;> decide
    cases matches_ : DataSegment.tallyMatches g with
    | true => rw [dataStages_of_matching running matches_]; exact behind undone (.inl running)
    | false => rw [dataStages_of_damaged running matches_]; exact safe_countDamaged safe i
  · unfold State.dataStages
    dsimp only
    split
    · next state => exact absurd ((receiving_iff _).2 (.inl state)) running
    · next state => exact absurd ((receiving_iff _).2 (.inr state)) running
    · split
      · exact (sits_modCtx s i (f := fun c => { c with damaged := 0 }) fun _ => rfl).safe safe
      · exact safe
    · next failed =>
      have undone : (s.ctx i).state ≠ .done := by rw [failed]; decide
      split
      · split
        · next restarted => exact behind undone (.inr restarted)
        · exact safe_signalStage safe i undone _
      · exact safe
    · exact safe_countUnmatched safe ..
    · exact safe_countUnmatched safe ..

theorem safe_manifestStages (g : ManifestSegment) : GroupSafe (s.manifestStages i g).state := by
  have behind (undone : (s.ctx i).state ≠ .done) := safe_behindSignal safe i undone g.signal
    (fun u => u.manifestStage i g) fun u before running => safe_manifestStage before i running g
  by_cases running : (s.ctx i).receiving = true
  · have undone : (s.ctx i).state ≠ .done := by
      rcases (receiving_iff _).1 running with state | state <;> rw [state] <;> decide
    rw [manifestStages_of_receiving running]
    exact behind undone (.inl running)
  · unfold State.manifestStages
    dsimp only
    split
    · next state => exact absurd ((receiving_iff _).2 (.inl state)) running
    · next state => exact absurd ((receiving_iff _).2 (.inr state)) running
    · next failed =>
      have undone : (s.ctx i).state ≠ .done := by rw [failed]; decide
      split
      · next restarted => exact behind undone (.inr restarted)
      · exact safe_signalStage safe i undone _
    · exact safe
    · exact safe_countUnmatched safe ..
    · exact safe_countUnmatched safe ..

theorem safe_abandonStages (g : AbandonSegment) : GroupSafe (s.abandonStages i g).state := by
  unfold State.abandonStages
  split
  · exact safe_fail safe i _
  · exact safe_fail safe i _
  · exact safe
  · exact safe
  · exact safe_countUnmatched safe ..
  · exact safe_countUnmatched safe ..

theorem safe_takeData (g : DataSegment) : GroupSafe (s.takeData g).state := by
  unfold State.takeData
  split
  · exact safe
  · split
    · exact safe
    · split
      · exact safe_countUnmatched safe ..
      · exact safe_dataStages safe ..

theorem safe_takeManifest (g : ManifestSegment) : GroupSafe (s.takeManifest g).state := by
  unfold State.takeManifest
  split
  · exact safe
  · split
    · exact safe
    · split
      · exact safe_countUnmatched safe ..
      · exact safe_manifestStages safe ..

theorem safe_takeAbandon (g : AbandonSegment) : GroupSafe (s.takeAbandon g).state := by
  unfold State.takeAbandon
  split
  · exact safe
  · split
    · exact safe
    · split
      · exact safe_countUnmatched safe ..
      · exact safe_abandonStages safe ..

/-- The disposition that goes back changes no record and no group. -/
theorem safe_takeSegment (seg : Segment) : GroupSafe (s.takeSegment seg) := by
  cases seg with
  | data g => exact safe_of_tables (safe_takeData safe g) rfl rfl
  | manifest g => exact safe_of_tables (safe_takeManifest safe g) rfl rfl
  | abandon g => exact safe_of_tables (safe_takeAbandon safe g) rfl rfl
  | unknownKind g => exact safe_of_tables safe rfl rfl

theorem safe_arrive (seg : Segment) (arrival : Arrival) : GroupSafe (s.arrive seg arrival) := by
  rcases arrive_cases s seg arrival with ⟨eq, _⟩ | ⟨eq, _⟩ | ⟨eq, _⟩ <;> rw [eq]
  · exact safe
  · exact safe_takeSegment safe seg
  · exact safe_of_tables safe rfl rfl

theorem safe_serveNext : GroupSafe s.serveNext := by
  rcases serveNext_cases s with eq | ⟨k, seg, _, _, eq⟩ <;> rw [eq]
  · exact safe
  · exact safe_takeSegment (s := s.setChannel k none) (safe_of_tables safe rfl rfl) seg

end

/-! ## Reports of piece writes, REFILL, expiries -/

section
variable {s : State} (safe : GroupSafe s)
include safe

theorem safe_pieceReported (r k : Nat) (j : Job) (report : Report) : GroupSafe (s.pieceReported r k j report) := by
  have completes : ∀ (t : State) (j' : Job), t.contexts = s.contexts → t.groups = s.groups →
      GroupSafe (if j'.complete then t.completeJob r j' else t) := by
    intro t j' contexts groups
    have before := safe_of_tables safe contexts groups
    split
    · exact safe_completeJob before r j'
    · exact before
  unfold State.pieceReported
  cases report with
  | ok => exact completes _ _ rfl rfl
  | fault => exact completes _ _ rfl rfl

theorem safe_issueNextPiece : GroupSafe s.issueNextPiece := by
  unfold State.issueNextPiece
  dsimp only
  split
  · exact safe
  · split
    · exact safe
    · next q rest _ =>
      have issued : GroupSafe { s with delivery := { s.delivery with issueOrder := rest } } :=
        safe_of_tables safe rfl rfl
      split
      · split
        · split
          · exact safe_of_tables issued rfl rfl
          · exact safe_pieceReported issued ..
        · exact issued
      · exact issued

theorem safe_takePieceReport (r k : Nat) (report : Report) : GroupSafe (s.takePieceReport r k report) := by
  unfold State.takePieceReport
  split
  · exact safe
  · split
    · exact safe_pieceReported safe ..
    · exact safe

theorem safe_rejudgeCtx (i : Nat) : GroupSafe (s.rejudgeCtx i) := safe_of_tables safe rfl rfl

theorem safe_refillArea (i : Nat) (m : RefillCommand) : GroupSafe (s.refillArea i m) := by
  have rebased : Sits s (s.modCtx i fun c => c.setArea m.area.toNat (c.rebased m.area.toNat m.base.toNat)) :=
    sits_modCtx s i fun _ => seat_of_core (core_setArea ..)
  have refilled : Sits s (s.modCtx i fun c => c.setArea m.area.toNat (c.refilled m.area.toNat m.base.toNat)) :=
    sits_modCtx s i fun _ => seat_of_core (core_setArea ..)
  unfold State.refillArea
  dsimp only
  split
  · exact safe_evaluateRetirement (rebased.safe safe) i
  · have moved := refilled.safe safe
    split
    · exact safe_evaluateRetirement (safe_rejudgeCtx moved i) i
    · exact safe_evaluateRetirement moved i

theorem safe_abandonExpire (i : Nat) : GroupSafe (s.abandonExpire i) := by
  rcases abandonExpire_cases s i with eq | ⟨_, _, eq⟩ <;> rw [eq]
  · exact safe
  · exact safe_fail safe i _

/-! ## Host commands -/

/-- A host command is discarded, or runs in the state its fetch leaves. -/
theorem safe_runCommand {α : Type} (cmd : Reply α) (body : α → State → State)
    (runs : ∀ u, GroupSafe u → GroupSafe (body cmd.value u)) : GroupSafe (s.runCommand cmd body) :=
  runCommand_induct cmd body safe (safe_of_tables safe rfl rfl) (runs _ (safe_of_tables safe rfl rfl))

/-- A host command that names a context, with what its checks have passed. -/
theorem safe_contextCommand {α : Type} (cmd : Reply α) (tag : α → BitVec 16) (code : BitVec 8)
    (index : α → BitVec 16) (failure : α → Nat → State → Option CmdStatus) (effect : α → Nat → State → State)
    (done : ∀ (u : State) i, GroupSafe u → failure cmd.value i u = none → GroupSafe (effect cmd.value i u)) :
    GroupSafe (s.runCommand cmd fun cmd s => s.onContext (tag cmd) code (index cmd) fun i s =>
      s.conclude (tag cmd) code i (failure cmd i s) (effect cmd i)) :=
  safe_runCommand safe cmd _ fun u before =>
    onContext_induct _ _ _ _ (fun _ _ => safe_of_tables before rfl rfl) fun _ =>
      conclude_induct _ _ _ _ _ (fun _ => safe_of_tables before rfl rfl) fun passed =>
        safe_of_tables (done u _ before passed) rfl rfl

/-! ## A step -/

theorem safe_idle : GroupSafe s.idle := by
  rcases idle_cases s with eq | eq | ⟨i, eq⟩ | ⟨i, eq⟩ | eq <;> rw [eq]
  · exact safe
  · exact safe_serveNext safe
  · exact (sits_stallExpire s i).safe safe
  · exact safe_abandonExpire safe i
  · exact (sits_tick s).safe safe

theorem safe_exec {c : Instr} {t : State} (h : exec c s = .next t) : GroupSafe t := by
  have same : ∀ u : State, stores u = stores s → GroupSafe u := fun u eq =>
    safe_of_tables safe (congrArg Stores.contexts eq) (congrArg Stores.groups eq)
  cases c <;> injection h with h <;> subst h
  case data seg => exact safe_arrive safe (.data seg.segment) seg.arrival
  case manifest seg => exact safe_arrive safe (.manifest seg.segment) seg.arrival
  case abandon seg => exact safe_arrive safe (.abandon seg.segment) seg.arrival
  case unknownKindSegment seg => exact safe_arrive safe (.unknownKind seg.segment) seg.arrival
  case openTransfer cmd => exact safe_runCommand safe cmd _ fun u before => safe_runOpen before cmd.value
  case query cmd =>
    exact safe_runCommand safe cmd _ fun u before =>
      safe_of_tables before (congrArg Stores.contexts (stores_runQuery u cmd.value))
        (congrArg Stores.groups (stores_runQuery u cmd.value))
  case adjust cmd =>
    exact safe_contextCommand safe cmd (fun m => m.hostTag) codeAdjust (fun m => m.index) (fun _ _ _ => none)
      (fun m i u => u.adjustCtx i m) fun u i before _ => (sits_adjustCtx u i cmd.value).safe before
  case refill cmd =>
    exact safe_contextCommand safe cmd (fun m => m.hostTag) codeRefill (fun m => m.index)
      (fun m i u => firstFailure (u.refillChecks i m)) (fun m i u => u.refillArea i m)
      fun u i before _ => safe_refillArea before i cmd.value
  case restart cmd =>
    refine safe_contextCommand safe cmd (fun m => m.hostTag) codeRestart (fun m => m.index)
      (fun _ i u => firstFailure (u.ctx i).restartChecks) (fun _ i u => u.restart i) fun u i before passed => ?_
    have undone : (u.ctx i).state ≠ .done := by simpa using (firstFailure_eq_none _).1 passed _ List.mem_cons_self
    exact safe_restart before i undone
  case reverify cmd =>
    exact safe_contextCommand safe cmd (fun m => m.hostTag) codeReverify (fun m => m.index)
      (fun m i u => firstFailure (u.reverifyChecks i m)) (fun m i u => u.appendVerify i m.area.toNat)
      fun u i before _ => (sits_appendVerify u i cmd.value.area.toNat).safe before
  case close cmd =>
    exact safe_contextCommand safe cmd (fun m => m.hostTag) codeClose (fun m => m.index) (fun _ _ _ => none)
      (fun _ i u => u.closeCtx i) fun u i before _ => safe_closeCtx before i
  case groupJoin cmd =>
    refine safe_contextCommand safe cmd (fun m => m.hostTag) codeGroupJoin (fun m => m.index)
      (fun m i u => firstFailure (u.joinChecks i m)) (fun m i u => u.joinGroup i m.group.toNat m.holdOnFailure)
      fun u i before passed => ?_
    have checks := (firstFailure_eq_none _).1 passed
    simp only [State.joinChecks, List.forall_mem_cons, Option.isNone_iff_eq_none, decide_eq_true_eq] at checks
    obtain ⟨_, running, alone, room, _⟩ := checks
    exact safe_joinGroup before running alone room _
  case groupLeave cmd =>
    exact safe_contextCommand safe cmd (fun m => m.hostTag) codeGroupLeave (fun m => m.index)
      (fun m i u => firstFailure [((u.ctx i).group.isSome, .wrongState)]) (fun _ i u => u.leaveGroup i)
      fun u i before _ => safe_leaveGroup before i
  case setAperture cmd =>
    exact safe_runCommand safe cmd _ fun u before =>
      conclude_induct _ _ _ _ _ (fun _ => safe_of_tables before rfl rfl) fun _ => safe_of_tables before rfl rfl
  case configure cmd => exact safe_runCommand safe cmd _ fun u before => safe_of_tables before rfl rfl
  case badCommand cmd => exact safe_runCommand safe cmd _ fun u before => safe_of_tables before rfl rfl
  case commandFetch => exact whenLive_induct _ safe (same _ (by split <;> rfl))
  case commandFetchFault report =>
    refine takeReply_induct report _ safe (same _ ?_)
    dsimp only
    split
    · rfl
    · split
      · rfl
      · split <;> rfl
  case writeJobGrant => exact whenLive_induct _ safe ((sits_grantOne s).safe safe)
  case pieceWriteIssue => exact whenLive_induct _ safe (safe_issueNextPiece safe)
  case pieceWriteReport record piece report => exact takeReply_induct report _ safe (safe_takePieceReport safe ..)
  case snapshotWriteIssue => exact whenLive_induct _ safe (same _ (stores_issueSnapshot s))
  case snapshotWriteReport report => exact takeReply_induct report _ safe (same _ (stores_takeSnapshotReport ..))
  case stallExpiry index => exact whenLive_induct _ safe ((sits_stallExpire s index.toNat).safe safe)
  case abandonExpiry index => exact whenLive_induct _ safe (safe_abandonExpire safe index.toNat)
  case verifyReadReturn ret => exact takeReply_induct ret _ safe ((sits_takeReadReturn s ret.value).safe safe)
  case noticeWrite => exact whenLive_induct _ safe (same _ (stores_writeNotice s))
  case noticeWriteReport report => exact takeReply_induct report _ safe (same _ (stores_takeNoticeReport ..))
  case rollup => exact whenLive_induct _ safe ((sits_queueRollup s).safe safe)
  case quiesceRise => exact same _ rfl
  case quiesceFall => exact same _ rfl
  case quiesceRequest value => exact whenLive_induct _ safe (same _ rfl)
  case resetAcknowledge => exact whenLive_induct _ safe (same _ (stores_acknowledge s))
  case softReset =>
    refine whenLive_induct _ safe ?_
    unfold State.requestSoftReset
    split_ifs
    · exact safe
    · exact safe_of_reset rfl rfl
    · exact same _ rfl
  case drainClear =>
    refine whenLive_induct _ safe ?_
    rcases endDrain_cases s with kept | cleared
    · rw [kept]; exact safe
    · rw [cleared]; exact safe_of_reset rfl rfl
  case fullReset cause => exact safe_of_reset rfl rfl
  case statusClear value => exact whenLive_induct _ safe (same _ rfl)
  case unmatchedCountRead => exact whenLive_induct _ safe (same _ rfl)
  case commandRingTailWrite value => exact whenLive_induct _ safe (same _ (stores_writeTail s value))
  case noticeRingConsumerWrite write =>
    refine whenLive_induct _ safe (same _ ?_)
    split
    · exact stores_writeConsumer ..
    · exact stores_writeConsumerWithReport ..
  case registerWrite reg => exact whenLive_induct _ safe (same _ (stores_writeRing s reg))
  case resetInputRelease => exact same _ (by split <;> rfl)

end

/-- Settles O10: a group's counts follow its members, one at a time, into and out of DONE and FAILED (`Recounts`);
joining and leaving change the list, and nothing else changes a seat (`Sits`). -/
theorem groupCountsKept : Obligations.GroupCountsKept := by
  intro s t safe h
  unfold step at h
  split at h
  · injection h with h
    exact h ▸ safe_idle safe
  · next c rest _ =>
    have waiting : GroupSafe { s with pending := rest } := safe_of_tables safe rfl rfl
    exact safe_exec waiting h

end Sys2Proof.Grouping
end

section
/-! GROUP_JOIN and GROUP_LEAVE as commands (R152 to R154, R157, R158): the statement O49. -/

namespace Sys2Proof.Grouping

open Sys2Proof Sys2Proof.Machine Sys2Proof.Laws Sys2Proof.Contexts Sys2Proof.SegmentIntake Sys2Proof.HostControl

/-- What the end of a command makes of the notices (R172, R174). -/
theorem finish_notice (s : State) (tag : BitVec 16) (code : BitVec 8) (status : CmdStatus) (i : Nat) :
    (s.finish tag code status i).notice =
      { s.notice with queue := s.notice.queue ++ [.cmdResult i tag code status], reserved := false } := rfl

/-! ## GROUP_JOIN (R152) -/

theorem joinRefusal_none {s : State} {m : JoinCommand} (inside : m.group.toNat < 256)
    (running : (s.ctx m.index.toNat).receiving = true) (alone : (s.ctx m.index.toNat).group = none)
    (room : (s.group m.group.toNat).members.length < 16) : s.joinRefusal m = none := by
  have state := (receiving_iff _).1 running
  unfold State.joinRefusal
  rw [if_neg (by omega), if_neg (by tauto), if_neg (by simp [alone]), if_neg (by omega)]

/-- A GROUP_JOIN that passes its checks joins, and ends OK. -/
theorem exec_groupJoin_passed {s : State} (fetched : Fetched s) (m : JoinCommand) (low : m.index.toNat < 4096)
    (inside : m.group.toNat < 256) (running : (s.ctx m.index.toNat).receiving = true)
    (alone : (s.ctx m.index.toNat).group = none) (room : (s.group m.group.toNat).members.length < 16) :
    exec (.groupJoin (s.reply m)) s =
      .next ((s.takeFetched.joinGroup m.index.toNat m.group.toNat m.holdOnFailure).finish m.hostTag 8 .ok
        m.index.toNat) := by
  have passed := (joinChecks_eq s m).trans (joinRefusal_none inside running alone room)
  rw [exec_groupJoin fetched m low (uncounted_of_receiving running).1, conclude_passed _ _ _ _ passed]

theorem joinGroup_rejudged (s : State) (i g : Nat) (hold : Bool) :
    Rejudged s (s.joinGroup i g hold) (s.holdChanged (s.joinGroup i g hold)) := by
  rw [joinGroup_eq]
  exact rejudgeHolds_rejudged (t := joined s i g hold) rfl

/-! ## GROUP_LEAVE (R153, R154) -/

/-- The members a context leaves behind. -/
def remaining (s : State) (i g : Nat) : List Nat := (s.group g).members.filter fun j => j != i

/-- The leaving leaves every remaining member DONE, which was not so before (R153, R157). -/
abbrev completes (s : State) (i g : Nat) : Prop :=
  remaining s i g ≠ [] ∧ (s.group g).done ≠ (s.group g).members.length ∧
    (if (s.ctx i).state = .done then (s.group g).done - 1 else (s.group g).done) = (remaining s i g).length

section
variable {s : State} {i g : Nat}

/-- GROUP_DONE, charged to the next leader, is the one notice of a leaving. -/
theorem leaveGroup_completes (hg : (s.ctx i).group = some g) (h : completes s i g) : s.leaveGroup i =
    ((left s i g).notify ((remaining s i g).headD 0) .groupDone
      (.groupDone ((remaining s i g).headD 0) g (remaining s i g).length)).rejudgeHolds s := by
  have test := (without_completes (s.group g) i (s.ctx i).state).2 h
  rw [leaveGroup_of_some hg]
  unfold State.groupDoneTest
  dsimp only
  rw [left_group, if_pos rfl, if_pos test, without_members]
  rfl

theorem leaveGroup_quietly (hg : (s.ctx i).group = some g) (h : ¬completes s i g) :
    s.leaveGroup i = (left s i g).rejudgeHolds s := by
  have test := mt (without_completes (s.group g) i (s.ctx i).state).1 h
  rw [leaveGroup_of_some hg]
  unfold State.groupDoneTest
  dsimp only
  rw [left_group, if_pos rfl, if_neg test]

/-- The leader of the members left behind is not the one that left. -/
theorem nextLeader_ne (h : remaining s i g ≠ []) : (remaining s i g).headD 0 ≠ i := leader_ne h

/-- Of the records a leaving writes the group field of its context, and what the next leader is owed. -/
theorem leaveGroup_records (hg : (s.ctx i).group = some g) :
    (s.leaveGroup i).ctx i = { s.ctx i with group := none } ∧
      (∀ j, j ≠ i → (s.leaveGroup i).ctx j = { s.ctx j with owed := ((s.leaveGroup i).ctx j).owed }) ∧
      ∀ j, j ≠ i → j ≠ (remaining s i g).headD 0 → (s.leaveGroup i).ctx j = s.ctx j := by
  have own := (left_ctx s i g i).trans (if_pos rfl)
  have others := fun j (other : j ≠ i) => (left_ctx s i g j).trans (if_neg other)
  by_cases h : completes s i g
  · rw [leaveGroup_completes hg h]
    refine ⟨?_, fun j other => ?_, fun j other apart => ?_⟩
    · exact (notify_ctx_other _ _ _ _ (nextLeader_ne h.1).symm).trans own
    · rw [rejudgeHolds_ctx, (owedOnly_notify ..).record, others j other]
    · exact (notify_ctx_other _ _ _ _ apart).trans (others j other)
  · rw [leaveGroup_quietly hg h]
    exact ⟨own, fun j other => by rw [rejudgeHolds_ctx, others j other], fun j other _ => others j other⟩

/-- GROUP_DONE goes to the next leader as it stands (R157, R159). -/
theorem leaveGroup_given (hg : (s.ctx i).group = some g) (h : completes s i g) :
    NoticeGiven s (s.leaveGroup i) ((remaining s i g).headD 0) .groupDone
      (.groupDone ((remaining s i g).headD 0) g (remaining s i g).length) := by
  have given := notify_given (left s i g) ((remaining s i g).headD 0) .groupDone
    (.groupDone ((remaining s i g).headD 0) g (remaining s i g).length)
  have notice : (left s i g).notice = s.notice := rfl
  rw [leaveGroup_completes hg h]
  unfold NoticeGiven at given ⊢
  rw [notice, left_owed] at given
  exact given

end

/-- The notices of a GROUP_LEAVE, in the words of the statement. -/
theorem leave_notices {s : State} {i g : Nat} (hg : (s.ctx i).group = some g) (tag : BitVec 16) :
    let t := (s.leaveGroup i).finish tag 9 .ok i
    let ended := (s.finish tag 9 .ok i).notice
    let leader := (remaining s i g).headD 0
    if completes s i g then
      (if s.notice.full = false ∧ (s.ctx leader).owed = [] then
        t.notice = { ended with
          queue := s.notice.queue ++
            [Notice.groupDone leader g (remaining s i g).length, Notice.cmdResult i tag 9 .ok] }
      else t.notice = { ended with overflow := true } ∧ OwedKind.groupDone ∈ (t.ctx leader).owed)
    else t.notice = ended := by
  intro t ended leader
  by_cases done : completes s i g
  · have given := leaveGroup_given hg done
    unfold NoticeGiven at given
    rw [if_pos done]
    by_cases room : s.notice.full = false ∧ (s.ctx leader).owed = []
    · rw [if_pos room] at given ⊢
      obtain ⟨queued, _⟩ := given
      refine (finish_notice ..).trans ?_
      rw [queued]
      exact congrArg (fun queue => { ended with queue := queue }) (List.append_assoc ..)
    · rw [if_neg room] at given ⊢
      obtain ⟨shown, owed⟩ := given
      refine ⟨(finish_notice ..).trans ?_, (owed .groupDone).2 (.inl rfl)⟩
      rw [shown]
      rfl
  · rw [if_neg done]
    have quiet : (s.leaveGroup i).notice = s.notice := by rw [leaveGroup_quietly hg done]; rfl
    refine (finish_notice ..).trans ?_
    rw [quiet]
    rfl

/-- A GROUP_LEAVE of a member leaves, and ends OK. -/
theorem exec_groupLeave_passed {s : State} (fetched : Fetched s) (m : IndexCommand) (low : m.index.toNat < 4096)
    (isOpen : (s.ctx m.index.toNat).isOpen = true) {g : Nat} (hg : (s.ctx m.index.toNat).group = some g) :
    exec (.groupLeave (s.reply m)) s =
      .next ((s.takeFetched.leaveGroup m.index.toNat).finish m.hostTag 9 .ok m.index.toNat) := by
  have passed : firstFailure [((s.ctx m.index.toNat).group.isSome, CmdStatus.wrongState)] = none := by
    rw [hg]
    rfl
  rw [exec_groupLeave fetched m low isOpen, conclude_passed _ _ _ _ passed]

/-- Settles O49: a joining and a leaving, each behind the taking of its command and with the command's end. -/
theorem groupsAreJoinedAndLeft : Obligations.GroupsAreJoinedAndLeft := by
  intro s fetched rest
  refine ⟨fun m low inside running alone room => ?join, fun m g low isOpen hg => ?leave⟩
  case join =>
    intro i before
    obtain ⟨intake, map, delivery, actions, verify, command, notice, resets, _⟩ :=
      joinGroup_frame s.takeFetched i m.group.toNat m.holdOnFailure
    have ctx := joinGroup_ctx s.takeFetched i m.group.toNat m.holdOnFailure
    have group := joinGroup_group s.takeFetched i m.group.toNat m.holdOnFailure
    have rejudged := joinGroup_rejudged s.takeFetched i m.group.toNat m.holdOnFailure
    have run := exec_groupJoin_passed fetched m low inside running alone room
    generalize s.takeFetched.joinGroup i m.group.toNat m.holdOnFailure = v at *
    refine ⟨_, run, (ctx i).trans (if_pos rfl), fun j other => (ctx j).trans (if_neg other),
      (group _).trans (if_pos rfl), fun h other => (group h).trans (if_neg other), ?_, command,
      rejudged, delivery, map, verify, intake, actions, resets⟩
    refine (finish_notice ..).trans ?_
    rw [notice]
    rfl
  case leave =>
    intro i c before members done failed leader ended
    obtain ⟨intake, map, delivery, actions, verify, command, resets, _⟩ := leaveGroup_frame s.takeFetched i
    obtain ⟨own, others, apart⟩ := leaveGroup_records (s := s.takeFetched) hg
    have group := leaveGroup_group s.takeFetched i
    have notices := leave_notices (s := s.takeFetched) hg m.hostTag
    have rejudged : Rejudged s.takeFetched (s.takeFetched.leaveGroup i)
        (s.takeFetched.holdChanged (s.takeFetched.leaveGroup i)) := leaveGroup_staged s.takeFetched i
    have run := exec_groupLeave_passed fetched m low isOpen hg
    generalize s.takeFetched.leaveGroup i = v at *
    exact ⟨_, run, own, others, apart, ((group g).trans (if_pos hg)).trans (without_eq ..),
      fun h other => (group h).trans (if_neg fun at_ => other (Option.some.inj (at_.symm.trans hg))), notices, command,
      rejudged, delivery, map, verify, intake, actions, resets⟩

end Sys2Proof.Grouping
end
